-- ==== Sys2Proof/Word.lean ====
section
/-! DEFINITION. The words of the part and the fixed-size tables: bytes, frame counts, sequence numbers, one entry per own desk, one entry per station. -/

namespace Sys2Proof

abbrev Byte := BitVec 8

/-- A 16-bit word: CRC values, digests, samples, sequence numbers. -/
abbrev Word16 := BitVec 16

/-- A frame count or a stamp, 24 bits, wrapping modulo 2^24 (00_scope.md 5.3). -/
abbrev Count := BitVec 24

/-- A sequence number of a speech block, compared modulo 2^16 (R90). -/
abbrev Seq := BitVec 16

/-- A station number, 0 to 7. -/
abbrev Station := Fin 8

/-- A desk number of one station, 0 to 3. -/
abbrev Desk := Fin 4

/-- One entry for each of the four desks of a station. -/
structure Four (α : Type) where
  d0 : α
  d1 : α
  d2 : α
  d3 : α
  deriving DecidableEq, Repr

/-- One entry for each of the eight stations of a site, or for each of the eight samples of a cell. -/
structure Eight (α : Type) where
  s0 : α
  s1 : α
  s2 : α
  s3 : α
  s4 : α
  s5 : α
  s6 : α
  s7 : α
  deriving DecidableEq, Repr

def Four.all {α : Type} (x : α) : Four α := ⟨x, x, x, x⟩

def Four.get {α : Type} (v : Four α) : Desk → α
  | 0 => v.d0
  | 1 => v.d1
  | 2 => v.d2
  | 3 => v.d3

def Four.set {α : Type} (v : Four α) (d : Desk) (x : α) : Four α :=
  match d with
  | 0 => { v with d0 := x }
  | 1 => { v with d1 := x }
  | 2 => { v with d2 := x }
  | 3 => { v with d3 := x }

def Four.map {α β : Type} (f : α → β) (v : Four α) : Four β :=
  ⟨f v.d0, f v.d1, f v.d2, f v.d3⟩

def Four.mapIdx {α β : Type} (f : Desk → α → β) (v : Four α) : Four β :=
  ⟨f 0 v.d0, f 1 v.d1, f 2 v.d2, f 3 v.d3⟩

def Eight.all {α : Type} (x : α) : Eight α := ⟨x, x, x, x, x, x, x, x⟩

def Eight.get {α : Type} (v : Eight α) : Station → α
  | 0 => v.s0
  | 1 => v.s1
  | 2 => v.s2
  | 3 => v.s3
  | 4 => v.s4
  | 5 => v.s5
  | 6 => v.s6
  | 7 => v.s7

def Eight.set {α : Type} (v : Eight α) (k : Station) (x : α) : Eight α :=
  match k with
  | 0 => { v with s0 := x }
  | 1 => { v with s1 := x }
  | 2 => { v with s2 := x }
  | 3 => { v with s3 := x }
  | 4 => { v with s4 := x }
  | 5 => { v with s5 := x }
  | 6 => { v with s6 := x }
  | 7 => { v with s7 := x }

def Eight.mapIdx {α β : Type} (f : Station → α → β) (v : Eight α) : Eight β :=
  ⟨f 0 v.s0, f 1 v.s1, f 2 v.s2, f 3 v.s3, f 4 v.s4, f 5 v.s5, f 6 v.s6, f 7 v.s7⟩

def Eight.toList {α : Type} (v : Eight α) : List α :=
  [v.s0, v.s1, v.s2, v.s3, v.s4, v.s5, v.s6, v.s7]

/-- The four desks in ascending order. -/
def allDesks : List Desk := [0, 1, 2, 3]

/-- The eight stations in ascending order. -/
def allStations : List Station := [0, 1, 2, 3, 4, 5, 6, 7]

/-- A cell: eight signed 16-bit samples, one frame of speech (05, section 5.1). -/
abbrev Cell := Eight Word16

end Sys2Proof
end

