-- ==== Sys2Proof/Config.lean ====
section
/-! DEFINITION. The constants the manual fixes for the part, and the free values of what it leaves open. -/

namespace Sys2Proof.Config

/-- Sync pattern of Table 1-2. -/
def syncPattern : Word16 := 0xD14B#16

/-- Generator of the CRC of R9 without its top term. -/
def crcPoly : Word16 := 0x1021#16

/-- The value the CRC register starts from (R9). -/
def crcStart : Word16 := 0xFFFF#16

/-- Hunt wait in frames of station k (R22, Table 2-2). -/
def huntLimit (k : Station) : Nat := 16 + 4 * k.val

/-- Holdover wait in frames of station k (R27, Table 2-2). -/
def holdoverLimit (k : Station) : Nat := 4 + 2 * k.val

/-- Ages of this size and above are taken as 0 (R41). -/
def ageHalf : Nat := 8388608

/-- Half of the sequence space (R90). -/
def seqHalf : Nat := 32768

/-- Most blocks a desk queue holds (R90). -/
def maxBlocks : Nat := 32

/-- Most positions of the identification clip (R85). -/
def maxClip : Nat := 400

/-- Most cells of one block or one LOAD_CLIP (R88, R189). -/
def maxCells : Nat := 20

/-- Most body bytes of a request (R167). -/
def maxBody : Nat := 330

/-- Frames past tot_limit after which a holding is enforced (R78). -/
def totMargin : Nat := 20

/-- Negated samples that settle the clamp (R139). -/
def settleSamples : Nat := 10

/-- Frames added to tail for the orphan run (R143). -/
def orphanMargin : Nat := 8

/-- Length of the stuck and the program run (R145, R146). -/
def watchLimit : Nat := 20

/-- Frames added to lead for the no-RF run (R147). -/
def noRfMargin : Nat := 50

/-- Ticks of a charge phase (R152). -/
def chargeTicks : Nat := 20480

/-- Ticks at which the discharge counter carries out (R153). -/
def carryOut : Nat := 65536

/-- Counts below this are a SHORT (R153). -/
def shortBelow : Nat := 64

/-- Frame starts between two measurement cycles (R151). -/
def cycleFrames : Nat := 100

/-- Due age at which ID_OVERDUE is raised (R125). -/
def overdueAge : Nat := 100

/-- Entries of the history ring (R157). -/
def ringSize : Nat := 8

/-- Reference cycles of the settle wait, by the settle strap (R185). -/
def settleCycles : Fin 4 → Nat
  | 0 => 4096
  | 1 => 16384
  | 2 => 65536
  | 3 => 262144

/-- Bit time at whose end slot k is received (Table 1-3). -/
def slotEnd (k : Station) : Nat := 255 + 216 * k.val

/-- FREE VALUE. The voice sent mark that DESK_STATUS returns after the setup close for a desk that is not the serving desk:
R121 states the air state read there and not the mark. Applied to State's plain counter `freeIx`; nothing constrains it (log
18). -/
opaque freeVoiceMark : Nat → Bool

end Sys2Proof.Config
end

