-- ==== Sys2Proof/Syntax.lean ====
section
/-! DEFINITION. The commands of the part: one constructor of `Instr` for each row of spec/opcode_table.json, with the row's operands. -/

namespace Sys2Proof

/-- Where a FENCE report of the bus engine falls among the work of its snapshot complete.
R66 lets either be taken first; the third place lies between the claim table's work and the identification unit's. -/
inductive FenceOrder where
  | first
  | beforeIdent
  | last
  deriving DecidableEq, Repr

/-- The commands. A selector is the byte of the request frame (Table 10-1), checked by the meaning (R169). -/
inductive Instr where
  -- resets and start-up (11)
  | powerOnReset
  | brownOutReset
  | pinReset
  /-- The levels of STN2..STN0 and SETTLE1, SETTLE0 at the end of the reset (R186). -/
  | resetEnd (stn : Station) (settle : Fin 4)
  | settleEnd
  -- transactions on the link (10.1, 10.2)
  | emptyTransaction
  /-- The whole bytes clocked. In this and every later transaction `inBusyWindow` says whether its CSL assertion fell in the
  busy window of an earlier request (R165, R167). -/
  | readTransaction (nbytes : Nat) (inBusyWindow : Bool)
  /-- The bytes clocked on MOSI (R167). -/
  | badRequest (bytes : List Byte) (inBusyWindow : Bool := false)
  -- requests of Table 10-2
  | setField (field : Byte) (value : BitVec 32) (inBusyWindow : Bool := false)
  | closeSetup (inBusyWindow : Bool := false)
  | loadClip (offset : Word16) (cells : List Cell) (inBusyWindow : Bool := false)
  | guardOn (inBusyWindow : Bool := false)
  | openDesk (sel : Byte) (cls : Byte) (inBusyWindow : Bool := false)
  | closeDesk (sel : Byte) (inBusyWindow : Bool := false)
  | claim (sel : Byte) (inBusyWindow : Bool := false)
  | release (sel : Byte) (mode : Byte) (inBusyWindow : Bool := false)
  | push (sel : Byte) (sequence : Seq) (flags : Byte) (cells : List Cell) (inBusyWindow : Bool := false)
  | flush (sel : Byte) (inBusyWindow : Bool := false)
  | trim (sel : Byte) (value : Byte) (inBusyWindow : Bool := false)
  | deskEvents (sel : Byte) (inBusyWindow : Bool := false)
  | deskStatus (sel : Byte) (inBusyWindow : Bool := false)
  | siteEvents (inBusyWindow : Bool := false)
  | siteStatus (inBusyWindow : Bool := false)
  | floorView (inBusyWindow : Bool := false)
  | history (inBusyWindow : Bool := false)
  | clamp (sel : Byte) (inBusyWindow : Bool := false)
  | unclamp (sel : Byte) (inBusyWindow : Bool := false)
  | guardRead (inBusyWindow : Bool := false)
  | mask (sel : Byte) (word : Word16) (inBusyWindow : Bool := false)
  -- frame points (01, 02)
  /-- `reportFirst`: a report of the air sequencer at this frame start is taken before the publication (R48). -/
  | frameStart (reportFirst : Bool)
  /-- The 43 bits received at bit times 0 to 42, the first in the most significant place. -/
  | syncFieldsReceived (bits : BitVec 43)
  /-- The 208 bits received at position k. -/
  | slotReceived (k : Station) (bits : BitVec 208)
  /-- The four lines in their logical sense, true where asserted (R15). -/
  | keySample (keyl clampl rfon refl : Bool)
  /-- `identFirst`: the identification unit works before the floor decisions. -/
  | snapshotComplete (fence : FenceOrder) (identFirst : Bool)
  /-- The 168 bits received at bit times 1776 to 1943. -/
  | programReceived (bits : BitVec 168)
  -- relock search (R21): the bit position of the pattern modulo 2048, the count and the station read after it
  | syncPatternFound (pos : BitVec 11) (c : Count) (t : Station)
  | relockCandidateDropped (pos : BitVec 11)
  | relockTestPassed (pos : BitVec 11) (c : Count) (t : Station)
  -- limits of the sync and membership runs (02)
  | huntWaitExpired
  | holdoverWaitExpired
  | missRunLimit
  | timingReadbackLimit
  | fence
  | announceComplete
  | peerJoined (k : Station)
  /-- `driven`: a bit of the stale slot read zero, so the slot counts as bad (R37). -/
  | peerLost (k : Station) (driven : Bool)
  -- limits of the claim table (03, 04)
  | waitExpiry
  | timeLimit
  | totenf
  | splitRelease
  | barLifted (d : Desk)
  -- limits of the air sequencer (06)
  | leadEnd
  | primeToOn
  | gapDeclared
  | releaseAfterDone
  | drainComplete
  | starvation
  | tailEnd
  | identEnd
  -- limits of the identification unit (07)
  /-- The holder station of the VOICE field that brings A to the interval (R126). -/
  | idDue (holder : Station)
  | idOverdue
  | tailWaitComplete
  -- limits of the clamp unit (08)
  | orphan
  | stuck
  | programRunLimit
  | noRf
  | reflectSet
  | reflectClear
  | settleComplete
  -- guard meter (08.7)
  | guardCycleBegin
  /-- Whether GCMP is above its threshold at the tick the discharge begins (R153). -/
  | chargePhaseEnd (gcmpAbove : Bool)
  /-- The reference ticks counted since the counter was last looked at (R153). -/
  | dischargeEnd (ticks : Nat)
  | dischargeOverflow
  | heatSet
  deriving DecidableEq, Repr

end Sys2Proof
end

