-- ==== Sys2Proof/Decode.lean ====
section
/-! DEFINITION. The words of the opcode table (no row gives bits), and the request frames of the SPI link: Tables 10-1 and 10-2 read and written. -/

namespace Sys2Proof

/-- No row of spec/opcode_table.json gives bits, so no word spells a command. -/
def decodeTableWord (_nbits _w : Nat) : Option Instr := none

/-- Two bytes, the most significant first (R166). -/
def word16 (hi lo : Byte) : Word16 := hi ++ lo

/-- The high and the low byte of a word (R166). -/
def bytes16 (x : Word16) : List Byte := [x.extractLsb' 8 8, x.extractLsb' 0 8]

/-- The 16 bytes of a cell: samples 0 to 7, each most-significant byte first (10, below Table 10-2). -/
def cellBytes (c : Cell) : List Byte :=
  bytes16 c.s0 ++ bytes16 c.s1 ++ bytes16 c.s2 ++ bytes16 c.s3 ++ bytes16 c.s4 ++ bytes16 c.s5 ++ bytes16 c.s6 ++ bytes16 c.s7

/-- The cells of a body whose length is a multiple of 16. -/
def cellsOf : List Byte → Option (List Cell)
  | [] => some []
  | a0 :: a1 :: a2 :: a3 :: a4 :: a5 :: a6 :: a7 :: a8 :: a9 :: a10 :: a11 :: a12 :: a13 :: a14 :: a15 :: rest =>
    (cellsOf rest).map fun cs =>
      (⟨word16 a0 a1, word16 a2 a3, word16 a4 a5, word16 a6 a7, word16 a8 a9, word16 a10 a11, word16 a12 a13, word16 a14 a15⟩ : Cell) :: cs
  | _ => none

/-- Table 10-2: the request a code, a selector and a body give, or none where the code is not in the table or the
body length is not one the table allows for it. The PUSH flags byte is kept whole; its bit 0 is release-after. -/
def bodyOf (code sel : Byte) (body : List Byte) (inBusyWindow : Bool) : Option Instr :=
  match code.toNat, body with
  | 0x01, [a, b, c, d] => some (.setField sel (a ++ b ++ c ++ d) inBusyWindow)
  | 0x02, [] => some (.closeSetup inBusyWindow)
  | 0x03, a :: b :: rest => (cellsOf rest).map fun cs => .loadClip (word16 a b) cs inBusyWindow
  | 0x04, [] => some (.guardOn inBusyWindow)
  | 0x10, [a] => some (.openDesk sel a inBusyWindow)
  | 0x11, [] => some (.closeDesk sel inBusyWindow)
  | 0x12, [] => some (.claim sel inBusyWindow)
  | 0x13, [a] => some (.release sel a inBusyWindow)
  | 0x14, a :: b :: f :: rest => (cellsOf rest).map fun cs => .push sel (word16 a b) f cs inBusyWindow
  | 0x15, [] => some (.flush sel inBusyWindow)
  | 0x16, [a] => some (.trim sel a inBusyWindow)
  | 0x20, [] => some (.deskEvents sel inBusyWindow)
  | 0x21, [] => some (.deskStatus sel inBusyWindow)
  | 0x22, [] => some (.siteEvents inBusyWindow)
  | 0x23, [] => some (.siteStatus inBusyWindow)
  | 0x24, [] => some (.floorView inBusyWindow)
  | 0x25, [] => some (.history inBusyWindow)
  | 0x30, [] => some (.clamp sel inBusyWindow)
  | 0x31, [] => some (.unclamp sel inBusyWindow)
  | 0x32, [] => some (.guardRead inBusyWindow)
  | 0x38, [a, b] => some (.mask sel (word16 a b) inBusyWindow)
  | _, _ => none

/-- R167: the request that the bytes clocked in a transaction frame, or none where the framing is refused. -/
def requestOf (bytes : List Byte) (inBusyWindow : Bool) : Option Instr :=
  match bytes with
  | code :: sel :: hi :: lo :: body =>
    if (word16 hi lo).toNat ≤ Config.maxBody ∧ body.length = (word16 hi lo).toNat then bodyOf code sel body inBusyWindow else none
  | _ => none

/-- A transaction whose first byte is a request's and whose framing R167 refuses. -/
def badFraming (bytes : List Byte) : Bool :=
  match bytes with
  | [] => false
  | b :: _ => b != 0 && (requestOf bytes false).isNone

/-- The frame of Table 10-1 around a body. -/
def frame (code sel : Byte) (body : List Byte) : List Byte :=
  code :: sel :: (bytes16 (BitVec.ofNat 16 body.length) ++ body)

/-- The request frame of a request, by Tables 10-1 and 10-2; nothing for a command that is no request. A selector that
is not examined is sent as 0. -/
def frameOf (i : Instr) : List Byte :=
  match i with
  | .setField f v _ => frame 0x01 f [v.extractLsb' 24 8, v.extractLsb' 16 8, v.extractLsb' 8 8, v.extractLsb' 0 8]
  | .closeSetup _ => frame 0x02 0 []
  | .loadClip o cs _ => frame 0x03 0 (bytes16 o ++ cs.flatMap cellBytes)
  | .guardOn _ => frame 0x04 0 []
  | .openDesk d c _ => frame 0x10 d [c]
  | .closeDesk d _ => frame 0x11 d []
  | .claim d _ => frame 0x12 d []
  | .release d m _ => frame 0x13 d [m]
  | .push d q f cs _ => frame 0x14 d (bytes16 q ++ [f] ++ cs.flatMap cellBytes)
  | .flush d _ => frame 0x15 d []
  | .trim d t _ => frame 0x16 d [t]
  | .deskEvents d _ => frame 0x20 d []
  | .deskStatus d _ => frame 0x21 d []
  | .siteEvents _ => frame 0x22 0 []
  | .siteStatus _ => frame 0x23 0 []
  | .floorView _ => frame 0x24 0 []
  | .history _ => frame 0x25 0 []
  | .clamp d _ => frame 0x30 d []
  | .unclamp d _ => frame 0x31 d []
  | .guardRead _ => frame 0x32 0 []
  | .mask d m _ => frame 0x38 d (bytes16 m)
  | .powerOnReset | .brownOutReset | .pinReset | .resetEnd .. | .settleEnd => []
  | .emptyTransaction | .readTransaction .. | .badRequest .. => []
  | .frameStart .. | .syncFieldsReceived .. | .slotReceived .. | .keySample .. | .snapshotComplete .. | .programReceived .. => []
  | .syncPatternFound .. | .relockCandidateDropped .. | .relockTestPassed .. => []
  | .huntWaitExpired | .holdoverWaitExpired | .missRunLimit | .timingReadbackLimit | .fence | .announceComplete => []
  | .peerJoined .. | .peerLost .. | .waitExpiry | .timeLimit | .totenf | .splitRelease | .barLifted .. => []
  | .leadEnd | .primeToOn | .gapDeclared | .releaseAfterDone | .drainComplete | .starvation | .tailEnd | .identEnd => []
  | .idDue .. | .idOverdue | .tailWaitComplete => []
  | .orphan | .stuck | .programRunLimit | .noRf | .reflectSet | .reflectClear | .settleComplete => []
  | .guardCycleBegin | .chargePhaseEnd .. | .dischargeEnd .. | .dischargeOverflow | .heatSet => []

/-- The operand of a request that its frame does not carry. -/
def windowOf (i : Instr) : Bool :=
  match i with
  | .setField _ _ w | .closeSetup w | .loadClip _ _ w | .guardOn w | .openDesk _ _ w
  | .closeDesk _ w | .claim _ w | .release _ _ w | .push _ _ _ _ w | .flush _ w
  | .trim _ _ w | .deskEvents _ w | .deskStatus _ w | .siteEvents w | .siteStatus w
  | .floorView w | .history w | .clamp _ w | .unclamp _ w | .guardRead w
  | .mask _ _ w => w
  | _ => false

/-- A command that is a request of Table 10-2. -/
def isRequest (i : Instr) : Bool := !(frameOf i).isEmpty

end Sys2Proof
end

