-- ==== Sys2Proof/Machine/State.lean ====
section
/-! DEFINITION. The state of the part, block by block as 00_scope.md section 3 names them, its value after reset, and the reasons a step can stop. -/

namespace Sys2Proof.Machine

/-- No rule of the manual stops the part: refused requests are answers, errors are flags and clamp causes. So no meaning faults. -/
inductive Fault
  deriving DecidableEq, Repr

inductive Refusal where
  /-- Raised by an arm of exec that has no meaning yet; no arm is left so. Safe. -/
  | notModelled (mnemonic : String)
  deriving DecidableEq, Repr

/-! ### Values with names -/

/-- States of a claim record (Table 3-1), in the order of their codes. -/
inductive RecState where
  | absent
  | idle
  | waiting
  | holding
  | barred
  deriving DecidableEq, Repr

/-- Classes of a desk. -/
inductive Cls where
  | normal
  | control
  deriving DecidableEq, Repr

/-- End reasons (Table 3-2), in the order of their codes; LOST stands only in history entries. -/
inductive EndReason where
  | noReason
  | done
  | released
  | closed
  | timeout
  | starved
  | preempted
  | clamped
  | split
  | syncLost
  | noIdent
  | waitExpired
  | countJump
  | lost
  deriving DecidableEq, Repr

inductive ResetCause where
  | powerOn
  | brownOut
  | pin
  deriving DecidableEq, Repr

/-- The three stages of coming up (11.1). -/
inductive PowerPhase where
  | inReset
  | settling
  | up
  deriving DecidableEq, Repr

inductive Judgement where
  | stale
  | fresh
  | own
  deriving DecidableEq, Repr

inductive Readback where
  | good
  | mismatch
  | notDriven
  deriving DecidableEq, Repr

/-- Result of the latest program received (R17); `nothing` is the manual's NONE. -/
inductive ProgResult where
  | nothing
  | undriven
  | error
  | good
  deriving DecidableEq, Repr

inductive SyncState where
  | notRunning
  | hunt
  | locked
  | holdover
  | timing
  deriving DecidableEq, Repr

inductive JoinState where
  | unset
  | listen
  | announce
  | member
  | mismatch
  | fenced
  deriving DecidableEq, Repr

inductive PeerState where
  | unseen
  | joining
  | joined
  | mismatched
  deriving DecidableEq, Repr

inductive Verdict where
  | notActive
  | frozenStale
  | frozenSplit
  | clampSettling
  | occupied
  | keyGap
  | noClaim
  | grant
  deriving DecidableEq, Repr

inductive AirState where
  | off
  | lead
  | prime
  | on
  | ident
  | tail
  deriving DecidableEq, Repr

inductive Purpose where
  | desk
  | tailIdent
  deriving DecidableEq, Repr

inductive IdentKind where
  | interval
  | tail
  deriving DecidableEq, Repr

/-- Phase of the own identification; `nothing` is the manual's NONE. -/
inductive IdentPhase where
  | nothing
  | ordered
  | lead
  | playing
  deriving DecidableEq, Repr

inductive ClampSeen where
  | clamped
  | settling
  | clear
  deriving DecidableEq, Repr

inductive GuardPhase where
  | off
  | idle
  | chargeRef
  | dischargeRef
  | chargeMeas
  | dischargeMeas
  deriving DecidableEq, Repr

/-- Status codes of Table 10-3, in the order of their codes. -/
inductive Status where
  | ok
  | badRequest
  | notReady
  | setupClosed
  | badField
  | badValue
  | noDesk
  | notOpen
  | already
  | notJoined
  | barred
  | full
  | late
  | duplicate
  | notControl
  | fenced
  deriving DecidableEq, Repr

/-- Desk flags of Table 10-4, in the order of their bits. -/
inductive DeskFlag where
  | granted
  | onAir
  | ended
  | waitEnd
  | barLifted
  | gap
  deriving DecidableEq, Repr

/-- Site flags of Table 10-4, in the order of their bits. -/
inductive SiteFlag where
  | syncChange
  | peerChange
  | clampChange
  | split
  | countJump
  | fenced
  | guard
  | idSent
  | idOverdue
  | noRf
  | programMismatch
  deriving DecidableEq, Repr

/-- Clamp causes (Table 8-1), in the order of the slot. -/
inductive Cause where
  | operator
  | orphan
  | stuck
  | totenf
  | program
  | heat
  | sensor
  | reflect
  deriving DecidableEq, Repr

/-! ### Records -/

/-- A claim record (Table 3-1). -/
structure Record where
  state : RecState
  cls : Cls
  reason : EndReason
  stamp : Count
  deriving DecidableEq, Repr

/-- ABSENT, NORMAL, NONE, 0. -/
def Record.absent : Record := ⟨.absent, .normal, .noReason, 0⟩

/-- The four sampled lines, true where asserted (R15). -/
structure Lines where
  keyl : Bool
  clampl : Bool
  rfon : Bool
  refl : Bool
  deriving DecidableEq, Repr

def Lines.negated : Lines := ⟨false, false, false, false⟩

/-- Content of the own-slot transmit latch (R3); the bits and the CRC are computed from it. -/
structure OwnSlot where
  station : Station
  join : JoinState
  echo : Option Byte
  setupDigest : Word16
  viewDigest : Word16
  causes : Byte
  flags : BitVec 5
  recs : Four Record
  deriving DecidableEq, Repr

/-- Content of a program field (Table 1-2). -/
structure ProgField where
  kind : BitVec 3
  station : BitVec 3
  desk : BitVec 2
  endIdent : Bool
  echo : Byte
  samples : Cell
  deriving DecidableEq, Repr

/-- Header of the latest fresh slot of a position (R12). -/
structure Header where
  join : BitVec 3
  setupDigest : Word16
  viewDigest : Word16
  causes : Byte
  flags : BitVec 5
  arrival : Count
  deriving DecidableEq, Repr

/-- A finding of the relock search, held for 2048 bit times (R21). -/
structure Candidate where
  pos : BitVec 11
  count : Count
  station : Station
  deriving DecidableEq, Repr

/-- Presence table entry (Table 2-5). -/
structure Presence where
  state : PeerState
  freshRun : Nat
  staleRun : Nat
  bad : Nat
  deriving DecidableEq, Repr

def Presence.cleared : Presence := ⟨.unseen, 0, 0, 0⟩

/-- An own desk in the claim table: its record, the local parts of Table 3-3, and the record published in this frame. -/
structure OwnDesk where
  record : Record
  stampSet : Bool
  drain : Bool
  endPub : Option Record
  barRun : Nat
  ack : Bool
  published : Record
  deriving DecidableEq, Repr

/-- Table 3-3. No table gives the published record before the first frame start; ABSENT is the model's choice (log 32). -/
def OwnDesk.reset : OwnDesk := ⟨.absent, false, false, none, 0, false, .absent⟩

/-- The 32 records of a site, by station and desk. -/
abbrev Records := Eight (Four Record)

def Records.absent : Records := .all (.all .absent)

/-- A snapshot (R57) and the own count of the frame it was formed in. -/
structure Snapshot where
  recs : Records
  count : Count
  deriving DecidableEq, Repr

def Snapshot.empty : Snapshot := ⟨.absent, 0⟩

/-- The six grant condition results (R72), true where held. -/
structure Conds where
  c1 : Bool
  c2 : Bool
  c3 : Bool
  c4 : Bool
  c5 : Bool
  c6 : Bool
  deriving DecidableEq, Repr

def Conds.failed : Conds := ⟨false, false, false, false, false, false⟩

/-- A queued block (R88). -/
structure Block where
  seq : Seq
  cells : List Cell
  trim : BitVec 4
  releaseAfter : Bool
  deriving DecidableEq, Repr

/-- The current block: what is left of it, and its play index. -/
structure Current where
  seq : Seq
  rest : List Cell
  trim : BitVec 4
  releaseAfter : Bool
  playIndex : Nat
  deriving DecidableEq, Repr

/-- Playout state of one desk (Table 5-1). The queued cells are computed from the queue and the current block. -/
structure DeskQueue where
  queue : List Block
  current : Option Current
  cursor : Option Seq
  trim : BitVec 4
  accepted : Nat
  played : Nat
  duplicate : Nat
  late : Nat
  full : Nat
  gap : Nat
  deriving DecidableEq, Repr

def DeskQueue.reset : DeskQueue := ⟨[], none, none, 0, 0, 0, 0, 0, 0, 0⟩

/-- A history entry (Table 9-1). -/
structure HistoryEntry where
  station : Station
  desk : Desk
  cls : Cls
  start : Count
  length : Nat
  reason : EndReason
  deriving DecidableEq, Repr

/-- A response without its summary byte, which is loaded at each read (R168). -/
structure Response where
  status : Status
  body : List Byte
  deriving DecidableEq, Repr

/-! ### Blocks -/

/-- Coming up (11.1): the stage and the count of reference cycles of the settle wait (R185). -/
structure Power where
  phase : PowerPhase
  settleCount : Nat
  deriving DecidableEq, Repr

/-- Setup store (Table 11-3, Table 11-2). The field pool_size is the pool's `size`. -/
structure Setup where
  resetCause : ResetCause
  station : Station
  settle : Fin 4
  deskEnable : BitVec 4
  quota : Four Nat
  guardOn : Bool
  rfSense : Bool
  heatTrip : Nat
  heatClear : Nat
  totLimit : Nat
  coolOff : Nat
  maxWait : Nat
  lead : Nat
  tail : Nat
  silenceHold : Nat
  prebuffer : Nat
  idInterval : Nat
  tailWait : Nat
  closed : Bool
  digest : Option Word16
  clipReady : Bool
  deriving DecidableEq, Repr

/-- Bus engine (Table 1-4). -/
structure Bus where
  judge : Eight Judgement
  ownSlot : Option OwnSlot
  ownSlotDriven : Bool
  syncLatch : Option (BitVec 43)
  syncGood : Bool
  readback : Readback
  fenceRun : Nat
  progLatch : Option ProgField
  progDrive : Bool
  keylDrive : Bool
  sampNow : Lines
  sampPrev : Lines
  headers : Eight (Option Header)
  progResult : ProgResult
  mismatchCount : Nat
  relockRest : Bool
  deriving DecidableEq, Repr

/-- Sync state machine and own frame timing (Table 2-6). -/
structure Sync where
  state : SyncState
  timingRunning : Bool
  count : Option Count
  timingStation : Option Station
  candidates : List Candidate
  huntRun : Nat
  missRun : Nat
  holdoverRun : Nat
  readbackRun : Nat
  deriving DecidableEq, Repr

/-- Membership tracker (Tables 2-5 and 2-6). -/
structure Member where
  join : JoinState
  announceRun : Nat
  standing : Nat
  presence : Eight Presence
  deriving DecidableEq, Repr

/-- Claim table (Tables 3-7 and 4-1). -/
structure Claims where
  desks : Four OwnDesk
  mirrors : Records
  snap : Snapshot
  prev : Snapshot
  viewDigest : Word16
  splitRun : Nat
  conds : Conds
  verdict : Verdict
  grantee : Option (Station × Desk)
  disagree : Nat
  deriving DecidableEq, Repr

/-- Playout pool (Table 5-2); the free list is its count (R84). -/
structure Pool where
  size : Option Nat
  free : Nat
  clip : List Cell
  quota : Four (Option Nat)
  desks : Four DeskQueue
  deriving DecidableEq, Repr

/-- Air sequencer (Table 6-2), with the IDENT_ACTIVE decision of the frame (R102) and the withdrawal that waits for the
next frame start (R133). -/
structure Air where
  state : AirState
  purpose : Option Purpose
  serving : Option Desk
  holdingEnded : Bool
  voiceSent : Bool
  leadRun : Nat
  tailRun : Nat
  starveRun : Nat
  pendingStart : Option Desk
  pendingIdent : Option IdentKind
  identActive : Bool
  withdrawDue : Bool
  deriving DecidableEq, Repr

/-- Identification unit (Table 7-2). -/
structure Ident where
  a : Nat
  due : Bool
  dueAge : Nat
  overdue : Bool
  tailWait : Nat
  choice : Option Station
  phase : IdentPhase
  kind : Option IdentKind
  clipIndex : Nat
  deriving DecidableEq, Repr

/-- Clamp unit (Table 8-2); the cause set as the slot's byte, OPERATOR in bit 7. -/
structure Clamp where
  causes : Byte
  seen : ClampSeen
  settleRun : Nat
  unclampCtr : Nat
  orphanRun : Nat
  stuckRun : Nat
  progRun : Nat
  noRfRun : Nat
  reflSet : Nat
  reflClear : Nat
  deriving DecidableEq, Repr

/-- Guard meter (Table 8-4), with the first begin that waits for a frame start (R151) and the ticks of a charge phase (R152). -/
structure Guard where
  on : Bool
  phase : GuardPhase
  since : Nat
  beginDue : Bool
  ticks : Nat
  high : Byte
  low : Byte
  nRef : Nat
  nMeas : Nat
  doneRef : Bool
  doneMeas : Bool
  openRef : Bool
  shortRef : Bool
  openMeas : Bool
  shortMeas : Bool
  ratio : Option Nat
  heatRun : Nat
  deriving DecidableEq, Repr

/-- History ring (R157), newest first. -/
structure History where
  ring : List HistoryEntry
  total : Word16
  deriving DecidableEq, Repr

/-- Host link (Table 10-5). RDY, the summary and ATTN are computed; `miso` is what the pin shifted in the latest transaction. -/
structure Link where
  response : Option Response
  deskFlags : Four (BitVec 6)
  siteFlags : BitVec 11
  deskMasks : Four (BitVec 6)
  siteMask : BitVec 11
  miso : List Byte
  deriving DecidableEq, Repr

/-- The part, and the queue of the commands that are waiting, first in, first out. -/
structure State where
  power : Power
  setup : Setup
  bus : Bus
  sync : Sync
  member : Member
  claims : Claims
  pool : Pool
  air : Air
  ident : Ident
  clamp : Clamp
  guard : Guard
  history : History
  link : Link
  /-- The model's own: picks the next free value. No statement rests on its value. -/
  freeIx : Nat
  pending : List Instr
  deriving DecidableEq, Repr

/-! ### Values after reset -/

def Power.reset : Power := ⟨.inReset, 0⟩

/-- Table 11-2 and Table 11-3. The straps are sampled at the end of the reset (R186); 0 until then. -/
def Setup.reset (cause : ResetCause) : Setup where
  resetCause := cause
  station := 0
  settle := 0
  deskEnable := 1
  quota := .all 0
  guardOn := false
  rfSense := false
  heatTrip := 128
  heatClear := 160
  totLimit := 180000
  coolOff := 5000
  maxWait := 300000
  lead := 40
  tail := 10
  silenceHold := 500
  prebuffer := 20
  idInterval := 600
  tailWait := 3000
  closed := false
  digest := none
  clipReady := false

/-- Table 1-4. It gives the judgements of the peer positions only; STALE at the own position, until the first frame start
makes it OWN (R10), is the model's choice (log 21). -/
def Bus.reset : Bus where
  judge := .all .stale
  ownSlot := none
  ownSlotDriven := false
  syncLatch := none
  syncGood := false
  readback := .notDriven
  fenceRun := 0
  progLatch := none
  progDrive := false
  keylDrive := false
  sampNow := .negated
  sampPrev := .negated
  headers := .all none
  progResult := .nothing
  mismatchCount := 0
  relockRest := false

/-- Table 2-6. -/
def Sync.reset : Sync := ⟨.notRunning, false, none, none, [], 0, 0, 0, 0⟩

/-- Tables 2-5 and 2-6. -/
def Member.reset : Member := ⟨.unset, 0, 0, .all .cleared⟩

/-- Tables 3-7 and 4-1. -/
def Claims.reset : Claims where
  desks := .all .reset
  mirrors := .absent
  snap := .empty
  prev := .empty
  viewDigest := 0
  splitRun := 0
  conds := .failed
  verdict := .notActive
  grantee := none
  disagree := 0

/-- Table 5-2. -/
def Pool.reset : Pool := ⟨none, 0, [], .all none, .all .reset⟩

/-- Table 6-2. -/
def Air.reset : Air := ⟨.off, none, none, false, false, 0, 0, 0, none, none, false, false⟩

/-- Table 7-2. -/
def Ident.reset : Ident := ⟨0, false, 0, false, 0, none, .nothing, none, 0⟩

/-- Table 8-2. -/
def Clamp.reset : Clamp := ⟨0, .settling, 0, 0, 0, 0, 0, 0, 0, 0⟩

/-- Table 8-4. -/
def Guard.reset : Guard :=
  ⟨false, .off, 0, false, 0, 0, 0, 0, 0, false, false, false, false, false, false, none, 0⟩

/-- R157. -/
def History.reset : History := ⟨[], 0⟩

/-- Table 10-5. -/
def Link.reset : Link := ⟨none, .all 0, 0, .all 0, 0, []⟩

/-- Every block at its value after a reset of the given kind (R183, R184). -/
def State.afterReset (cause : ResetCause) : State where
  power := .reset
  setup := .reset cause
  bus := .reset
  sync := .reset
  member := .reset
  claims := .reset
  pool := .reset
  air := .reset
  ident := .reset
  clamp := .reset
  guard := .reset
  history := .reset
  link := .reset
  freeIx := 0
  pending := []

/-- The part as a power-on reset leaves it, held in that reset, with no command waiting. -/
def State.reset : State := State.afterReset .powerOn

end Sys2Proof.Machine
end

