-- ==== Sys2Proof/Machine/Bits.lean ====
section
/-! DEFINITION. Bits, the CRC of R9, ages and modular distances, and the codes of named values. -/

namespace Sys2Proof.Machine

/-- The bits of a word, most significant first: the order they are sent in (00_scope.md 5.4). -/
def bitsOf {w : Nat} (x : BitVec w) : List Bool :=
  (List.range w).map x.getMsbD

/-- One data bit of R9. -/
def crcStep (r : Word16) (b : Bool) : Word16 :=
  if (r.msb != b) then (r <<< 1) ^^^ Config.crcPoly else r <<< 1

/-- The CRC of R9 over data bits in the order sent. -/
def crcBits (bits : List Bool) : Word16 := bits.foldl crcStep Config.crcStart

/-- The CRC of R9 over a byte sequence, each byte most-significant bit first. -/
def crcBytes (bytes : List Byte) : Word16 := crcBits (bytes.flatMap bitsOf)

/-- The age of a stamp at a count (R41): the modular difference, 0 where it is 2^23 or more. -/
def age (now stamp : Count) : Nat :=
  if (now - stamp).toNat < Config.ageHalf then (now - stamp).toNat else 0

/-- R90: a sequence lies before a base. -/
def seqBefore (q base : Seq) : Bool := decide (Config.seqHalf ≤ (q - base).toNat)

/-- A count increased by n and stopping at its limit. -/
def capAdd (n amount limit : Nat) : Nat := min (n + amount) limit

/-- A number in n bytes, most-significant byte first (R166, R179). -/
def numBytes : Nat → Nat → List Byte
  | 0, _ => []
  | n + 1, x => BitVec.ofNat 8 (x / 256 ^ n) :: numBytes n x

def RecState.code : RecState → Nat
  | .absent => 0
  | .idle => 1
  | .waiting => 2
  | .holding => 3
  | .barred => 4

def Cls.code : Cls → Nat
  | .normal => 0
  | .control => 1

/-- Codes of Table 1-2 and Table 3-2; LOST is sent as 13 (R182). -/
def EndReason.code : EndReason → Nat
  | .noReason => 0
  | .done => 1
  | .released => 2
  | .closed => 3
  | .timeout => 4
  | .starved => 5
  | .preempted => 6
  | .clamped => 7
  | .split => 8
  | .syncLost => 9
  | .noIdent => 10
  | .waitExpired => 11
  | .countJump => 12
  | .lost => 13

/-- R11: state fields 5, 6 and 7 are none of the five states. -/
def RecState.ofCode : Nat → Option RecState
  | 0 => some .absent
  | 1 => some .idle
  | 2 => some .waiting
  | 3 => some .holding
  | 4 => some .barred
  | _ => none

/-- R11: an end reason field holding 13, 14 or 15 is handed as NONE. -/
def EndReason.ofCode : Nat → EndReason
  | 1 => .done
  | 2 => .released
  | 3 => .closed
  | 4 => .timeout
  | 5 => .starved
  | 6 => .preempted
  | 7 => .clamped
  | 8 => .split
  | 9 => .syncLost
  | 10 => .noIdent
  | 11 => .waitExpired
  | 12 => .countJump
  | _ => .noReason

/-- Join state field of the slot (Table 1-2); the other join states drive no slot (Table 2-3). -/
def JoinState.field : JoinState → BitVec 3
  | .announce => 1
  | .member => 2
  | .mismatch => 3
  | .unset => 0
  | .listen => 0
  | .fenced => 0

/-- Bit of a cause in the cause set byte: OPERATOR in bit 7 (R179). -/
def Cause.mask : Cause → Byte
  | .operator => 0x80
  | .orphan => 0x40
  | .stuck => 0x20
  | .totenf => 0x10
  | .program => 0x08
  | .heat => 0x04
  | .sensor => 0x02
  | .reflect => 0x01

/-- The five latching causes (Table 8-1). -/
def latchingMask : Byte := 0xF8

/-- Bit of a desk flag in its word (Table 10-4). -/
def DeskFlag.mask : DeskFlag → BitVec 6
  | .granted => 0x01
  | .onAir => 0x02
  | .ended => 0x04
  | .waitEnd => 0x08
  | .barLifted => 0x10
  | .gap => 0x20

/-- Bit of a site flag in its word (Table 10-4). -/
def SiteFlag.mask : SiteFlag → BitVec 11
  | .syncChange => 0x001
  | .peerChange => 0x002
  | .clampChange => 0x004
  | .split => 0x008
  | .countJump => 0x010
  | .fenced => 0x020
  | .guard => 0x040
  | .idSent => 0x080
  | .idOverdue => 0x100
  | .noRf => 0x200
  | .programMismatch => 0x400

end Sys2Proof.Machine
end

