-- ==== Sys2Proof/Machine/Ops.lean ====
section
/-! DEFINITION. The named operations over the blocks of State: one setter a block, and the readers that several blocks share. -/

namespace Sys2Proof.Machine

abbrev Out := Host.Outcome State Fault Refusal

namespace State

def setPower (s : State) (x : Power) : State := { s with power := x }
def setSetup (s : State) (x : Setup) : State := { s with setup := x }
def setBus (s : State) (x : Bus) : State := { s with bus := x }
def setSync (s : State) (x : Sync) : State := { s with sync := x }
def setMember (s : State) (x : Member) : State := { s with member := x }
def setClaims (s : State) (x : Claims) : State := { s with claims := x }
def setPool (s : State) (x : Pool) : State := { s with pool := x }
def setAir (s : State) (x : Air) : State := { s with air := x }
def setIdent (s : State) (x : Ident) : State := { s with ident := x }
def setClamp (s : State) (x : Clamp) : State := { s with clamp := x }
def setGuard (s : State) (x : Guard) : State := { s with guard := x }
def setHistory (s : State) (x : History) : State := { s with history := x }
def setLink (s : State) (x : Link) : State := { s with link := x }
def setFreeIx (s : State) (x : Nat) : State := { s with freeIx := x }
def setPending (s : State) (x : List Instr) : State := { s with pending := x }

end State

/-- The own station number (R186). -/
def ownStation (s : State) : Station := s.setup.station

/-- The own count of the frame; 0 where it is not held, which no rule reads (log 22). -/
def ownCount (s : State) : Count := s.sync.count.getD 0

/-- Low 8 bits of the own count: the frame echo (R3, R6, R10). -/
def echoOf (c : Count) : Byte := c.extractLsb' 0 8

def clipCells (s : State) : Nat := s.pool.clip.length

/-- id_interval in frames (R123). -/
def interval (s : State) : Nat := s.setup.idInterval * 1000

def getDesk (s : State) (d : Desk) : OwnDesk := s.claims.desks.get d

def setDesk (s : State) (d : Desk) (x : OwnDesk) : State :=
  s.setClaims { s.claims with desks := s.claims.desks.set d x }

def getQueue (s : State) (d : Desk) : DeskQueue := s.pool.desks.get d

/-- Desk d is in desk_enable (Table 11-2). -/
def deskEnabled (s : State) (d : Desk) : Bool := s.setup.deskEnable.getLsbD d.val

/-- The host link takes transactions (R165, R185). -/
def linkUp (s : State) : Bool := s.power.phase == .up

/-- The part gives frame points: up, closed, its frame timing running (R1, R19). -/
def frameRuns (s : State) : Bool := linkUp s && s.setup.closed && s.sync.timingRunning

/-- The key sample is taken in every sync state but not in the rest of a relock frame (R2, R15). -/
def sampleRuns (s : State) : Bool := frameRuns s && !s.bus.relockRest

def syncActive (s : State) : Bool := s.sync.state == .locked || s.sync.state == .timing

/-- Slot received, snapshot complete and program received are signalled in LOCKED, HOLDOVER and TIMING (R2). -/
def pointsRun (s : State) : Bool := sampleRuns s && (syncActive s || s.sync.state == .holdover)

/-- Sync state LOCKED or TIMING and join state MEMBER: grant condition 1 (R66), and the identification orders (R117, R119). -/
def memberActive (s : State) : Bool := syncActive s && s.member.join == .member

/-- Peer k is JOINED in the presence table (R38). -/
def joined (s : State) (k : Station) : Bool :=
  k != ownStation s && (s.member.presence.get k).state == .joined

def judgedFresh (s : State) (k : Station) : Bool :=
  k != ownStation s && s.bus.judge.get k == .fresh

/-- A JOINED peer's slot was judged STALE in this frame (R67, R128, R143). -/
def joinedStale (s : State) : Bool :=
  allStations.any fun k => joined s k && !judgedFresh s k

/-- The header of a slot judged FRESH in this frame. -/
def freshHeader (s : State) (k : Station) : Option Header :=
  if judgedFresh s k then s.bus.headers.get k else none

/-- Bits of the slot flags, IDENT_ACTIVE first (Table 1-2). -/
def flagIdentActive (f : BitVec 5) : Bool := f.getLsbD 4
def flagClipReady (f : BitVec 5) : Bool := f.getLsbD 3
def flagUnclampOrder (f : BitVec 5) : Bool := f.getLsbD 2

/-- A peer slot judged FRESH in this frame, or the own slot as latched for it, carries IDENT_ACTIVE (R70, R128, R143). -/
def identOnBus (s : State) : Bool :=
  (allStations.any fun k => match freshHeader s k with
    | some h => flagIdentActive h.flags
    | none => false)
  || (match s.bus.ownSlot with
    | some o => flagIdentActive o.flags
    | none => false)

/-- The clamp unit reports the site not clamped (R139). -/
def notClamped (s : State) : Bool := s.clamp.settleRun == Config.settleSamples

/-- The CLAMPL drive: asserted while the own cause set is not empty (R8). -/
def clamplDrive (s : State) : Bool := s.clamp.causes != 0

/-- The guard pins by phase (Table 8-3). -/
def gchgDrive (s : State) : Bool := s.guard.phase == .chargeRef || s.guard.phase == .chargeMeas
def grefDrive (s : State) : Bool := s.guard.phase == .dischargeRef
def gmeasDrive (s : State) : Bool := s.guard.phase == .dischargeMeas

end Sys2Proof.Machine
end

