-- ==== Sys2Proof/Machine/Flags.lean ====
section
/-! DEFINITION. Event flags and masks, the summary, ATTN and RDY (R171 to R178), and the clamp causes (R137). -/

namespace Sys2Proof.Machine

/-- R172: a raised flag becomes pending, masked or not. -/
def raiseDesk (d : Desk) (f : DeskFlag) (s : State) : State :=
  s.setLink { s.link with deskFlags := s.link.deskFlags.set d (s.link.deskFlags.get d ||| f.mask) }

/-- R172, for a site flag. -/
def raiseSite (f : SiteFlag) (s : State) : State :=
  s.setLink { s.link with siteFlags := s.link.siteFlags ||| f.mask }

/-- All six flags of a desk cleared (R45, R177). -/
def clearDeskFlags (d : Desk) (s : State) : State :=
  s.setLink { s.link with deskFlags := s.link.deskFlags.set d 0 }

/-- The eleven site flags cleared (R178). -/
def clearSiteFlags (s : State) : State := s.setLink { s.link with siteFlags := 0 }

/-- Summary bit of desk d: a pending flag whose mask bit is 0 (R175). -/
def deskSummary (s : State) (d : Desk) : Bool :=
  s.link.deskFlags.get d &&& ~~~ s.link.deskMasks.get d != 0

def siteSummary (s : State) : Bool := s.link.siteFlags &&& ~~~ s.link.siteMask != 0

def bit (b : Bool) (n : Nat) : Nat := if b then 2 ^ n else 0

/-- The summary byte (R175). -/
def summary (s : State) : Byte :=
  BitVec.ofNat 8 (bit (deskSummary s 0) 0 + bit (deskSummary s 1) 1 + bit (deskSummary s 2) 2
    + bit (deskSummary s 3) 3 + bit (siteSummary s) 4)

/-- ATTN is asserted while the summary is not 0 (R175), and negated during reset and settle (R165). -/
def attn (s : State) : Bool := linkUp s && summary s != 0

/-- RDY is high while a response is pending (R168). -/
def rdy (s : State) : Bool := s.link.response.isSome

def causeSet (s : State) (c : Cause) : Bool := s.clamp.causes &&& c.mask != 0

/-- R137: the own cause set becomes the one given, and CLAMP_CHANGE is raised where that changes it. -/
def putCauses (x : Byte) (s : State) : State :=
  if x = s.clamp.causes then s
  else raiseSite .clampChange (s.setClamp { s.clamp with causes := x })

def setCause (c : Cause) (s : State) : State := putCauses (s.clamp.causes ||| c.mask) s

def clearCause (c : Cause) (s : State) : State := putCauses (s.clamp.causes &&& ~~~ c.mask) s

/-- A guard cause set or cleared, raising GUARD where that changes it (R149, R153, R154, R155). -/
def setGuardCause (c : Cause) (s : State) : State :=
  if causeSet s c then s else raiseSite .guard (setCause c s)

def clearGuardCause (c : Cause) (s : State) : State :=
  if causeSet s c then raiseSite .guard (clearCause c s) else s

end Sys2Proof.Machine
end

