-- ==== Sys2Proof/Machine/GuardMeter.lean ====
section
/-! DEFINITION. The guard meter: guard-on, the measurement schedule, its phases, counts, ratio and HEAT (R150 to R155). -/

namespace Sys2Proof.Machine

/-- R150: guard-on becomes set; the first cycle begins at the next frame start (R151). -/
def startGuard (s : State) : State :=
  if s.guard.on then s
  else raiseSite .guard (s.setGuard { s.guard with on := true, phase := .idle, since := 0, beginDue := true })

/-- R151: a begin clears the done and fault flags of both channels and enters the first charge phase. -/
def beginCycle (s : State) : State :=
  s.setGuard
    { s.guard with
      phase := .chargeRef
      since := 0
      beginDue := false
      ticks := 0
      doneRef := false
      doneMeas := false
      openRef := false
      shortRef := false
      openMeas := false
      shortMeas := false }

/-- R151: the guard meter at an own frame start. A begin that finds a cycle in a phase is passed over; the frame starts
counted then begin again at 0, the model's choice (log 31). -/
def guardFrameStart (s : State) : State :=
  if !s.guard.on then s
  else if s.guard.beginDue then beginCycle s
  else if s.guard.since + 1 < Config.cycleFrames then s.setGuard { s.guard with since := s.guard.since + 1 }
  else if s.guard.phase = .idle then beginCycle s
  else s.setGuard { s.guard with since := 0 }

/-! ### Ratio and HEAT (R154, R155) -/

/-- R155: HEAT by a ratio. -/
def heatStep (ratio : Nat) (s : State) : State :=
  if ratio ≤ s.setup.heatTrip then
    let s1 := s.setGuard { s.guard with heatRun := capAdd s.guard.heatRun 1 2 }
    if 2 ≤ s.guard.heatRun + 1 then setGuardCause .heat s1 else s1
  else
    let s1 := s.setGuard { s.guard with heatRun := 0 }
    if s.setup.heatClear ≤ ratio then clearGuardCause .heat s1 else s1

/-- A fault is recorded in either channel. -/
def guardFault (g : Guard) : Bool := g.openRef || g.shortRef || g.openMeas || g.shortMeas

def ratioOf (g : Guard) : Nat := min (g.nMeas * 256 / g.nRef) 65535

/-- R154: the ratio step at the end of DISCHARGE_MEAS. -/
def ratioStep (s : State) : State :=
  let s1 := s.setGuard { s.guard with phase := .idle }
  if guardFault s.guard then s1.setGuard { s1.guard with heatRun := 0 }
  else heatStep (ratioOf s.guard)
    (clearGuardCause .sensor (s1.setGuard { s1.guard with ratio := some (ratioOf s.guard) }))

/-! ### Discharges (R153) -/

/-- The count of the two stages. -/
def counterOf (g : Guard) : Nat := g.high.toNat * 256 + g.low.toNat

/-- The two stages holding a count; at 65536 the high stage carries out and both read 0. -/
def putCounter (n : Nat) (g : Guard) : Guard :=
  { g with high := BitVec.ofNat 8 (n / 256), low := BitVec.ofNat 8 n }

/-- SENSOR is set where a fault is recorded (R153). -/
def sensorIf (fault : Bool) (s : State) : State := if fault then setGuardCause .sensor s else s

/-- R153: an ending of the discharge in progress, with what it records. The next phase begins at the same tick. -/
def endDischarge (n : Nat) (done opened short : Bool) (s : State) : State :=
  match s.guard.phase with
  | .dischargeRef =>
    sensorIf (opened || short) (s.setGuard
      { s.guard with nRef := n, doneRef := done, openRef := opened, shortRef := short, phase := .chargeMeas, ticks := 0 })
  | .dischargeMeas =>
    ratioStep (sensorIf (opened || short) (s.setGuard
      { s.guard with nMeas := n, doneMeas := done, openMeas := opened, shortMeas := short }))
  | .off | .idle | .chargeRef | .chargeMeas => s

/-- R153, the third ending. -/
def overflowEnding (s : State) : State :=
  endDischarge 65535 false true false (s.setGuard (putCounter Config.carryOut s.guard))

/-- R153, the second ending, at the count reached. -/
def edgeEnding (n : Nat) (s : State) : State :=
  endDischarge n true false (decide (n < Config.shortBelow)) (s.setGuard (putCounter n s.guard))

/-- R152, R153: a discharge begins with both stages 0; GCMP already below its threshold is the first ending. -/
def beginDischarge (x : GuardPhase) (gcmpAbove : Bool) (s : State) : State :=
  let s1 := s.setGuard { putCounter 0 s.guard with phase := x }
  if gcmpAbove then s1 else endDischarge 0 false false true s1

/-- R152: a charge phase ends. -/
def chargeEnds (gcmpAbove : Bool) (s : State) : State :=
  match s.guard.phase with
  | .chargeRef => beginDischarge .dischargeRef gcmpAbove s
  | .chargeMeas => beginDischarge .dischargeMeas gcmpAbove s
  | .off | .idle | .dischargeRef | .dischargeMeas => s

def discharging (s : State) : Bool := s.guard.phase == .dischargeRef || s.guard.phase == .dischargeMeas

def charging (s : State) : Bool := s.guard.phase == .chargeRef || s.guard.phase == .chargeMeas

/-- R153: GCMP falls below its threshold after the ticks given since the counter was last looked at. -/
def dischargeEnds (ticks : Nat) (s : State) : State :=
  if discharging s then
    if counterOf s.guard + ticks < Config.carryOut then edgeEnding (counterOf s.guard + ticks) s else overflowEnding s
  else s

/-- R153: the high stage carries out. -/
def dischargeOverflows (s : State) : State := if discharging s then overflowEnding s else s

end Sys2Proof.Machine
end

