-- ==== Sys2Proof/Machine/Resets.lean ====
section
/-! DEFINITION. Resets and start-up: the meanings of POWER_ON_RESET, BROWN_OUT_RESET, PIN_RESET, RESET_END and SETTLE_END (R183 to R186). -/

namespace Sys2Proof.Machine

/-- R183, R184: every block takes its value after reset, and the cause is recorded. The queue and the model's counter of
free values are not the part's. -/
def resetTo (cause : ResetCause) (s : State) : State :=
  { State.afterReset cause with freeIx := s.freeIx, pending := s.pending }

def execPowerOnReset (s : State) : Out := .next (resetTo .powerOn s)

def execBrownOutReset (s : State) : Out := .next (resetTo .brownOut s)

def execPinReset (s : State) : Out := .next (resetTo .pin s)

/-- R185, R186: the last reset ends, the straps are sampled and the settle wait begins from 0. -/
def endReset (stn : Station) (settle : Fin 4) (s : State) : State :=
  if s.power.phase = .inReset then
    (s.setPower ⟨.settling, 0⟩).setSetup { s.setup with station := stn, settle := settle }
  else s

def execResetEnd (stn : Station) (settle : Fin 4) (s : State) : Out := .next (endReset stn settle s)

/-- Reference cycles of this station's settle wait (R185). -/
def settleLimit (s : State) : Nat := Config.settleCycles s.setup.settle

/-- R185: at the end of the count the part is up. -/
def endSettle (s : State) : State :=
  if s.power.phase = .settling then s.setPower ⟨.up, settleLimit s⟩ else s

def execSettleEnd (s : State) : Out := .next (endSettle s)

end Sys2Proof.Machine
end

