-- ==== Sys2Proof/Machine/Clock.lean ====
section
/-! DEFINITION. One cycle of the 2.048 MHz reference, passing while no command waits (R152, R153, R185; log 4). The endings of the waits come as commands. -/

namespace Sys2Proof.Machine

/-- R185: the settle count. -/
def settleTick (s : State) : State :=
  if s.power.phase = .settling then s.setPower { s.power with settleCount := capAdd s.power.settleCount 1 (settleLimit s) }
  else s

/-- R152, R153: the ticks of a charge phase and the counter of a discharge phase. -/
def guardTick (s : State) : State :=
  if charging s then s.setGuard { s.guard with ticks := capAdd s.guard.ticks 1 Config.chargeTicks }
  else if discharging s then s.setGuard (putCounter (capAdd (counterOf s.guard) 1 (Config.carryOut - 1)) s.guard)
  else s

def tick (s : State) : State := guardTick (settleTick s)

end Sys2Proof.Machine
end

