-- ==== Sys2Proof/Machine/Pool.lean ====
section
/-! DEFINITION. The playout pool: blocks, the order of a desk queue, PUSH, FLUSH, playing cells, the clip region (chapter 5). -/

namespace Sys2Proof.Machine

/-! ### One desk queue -/

def Block.count (b : Block) : Nat := b.cells.length

/-- Cells of the queued blocks. -/
def blockCells (bs : List Block) : Nat := (bs.map Block.count).sum

/-- Unplayed cells of the current block. -/
def DeskQueue.left (q : DeskQueue) : Nat :=
  match q.current with
  | some c => c.rest.length
  | none => 0

/-- Queued cells: those of the queued blocks and the unplayed ones of the current block (R87). -/
def DeskQueue.cells (q : DeskQueue) : Nat := blockCells q.queue + q.left

/-- A release-after block is queued or current (R93). -/
def DeskQueue.hasReleaseAfter (q : DeskQueue) : Bool :=
  q.queue.any (·.releaseAfter) || (match q.current with | some c => c.releaseAfter | none => false)

/-- A block with this sequence is queued or current (R91). -/
def DeskQueue.holds (q : DeskQueue) (n : Seq) : Bool :=
  q.queue.any (·.seq == n) || (match q.current with | some c => c.seq == n | none => false)

/-- R91: a block of this sequence is late. -/
def DeskQueue.isLate (q : DeskQueue) (n : Seq) : Bool :=
  match q.cursor, q.queue with
  | some c, _ => seqBefore n c
  | none, [] => false
  | none, head :: rest =>
    seqBefore n head.seq && seqBefore ((head :: rest).getLast (by simp)).seq n

/-- R92: a block goes before the first queued block whose position from the base is greater. -/
def insertFrom (base : Seq) (b : Block) : List Block → List Block
  | [] => [b]
  | x :: xs => if (b.seq - base).toNat < (x.seq - base).toNat then b :: x :: xs else x :: insertFrom base b xs

/-- R92: the queue with a block in its place. -/
def insertBlock (cursor : Option Seq) (b : Block) (queue : List Block) : List Block :=
  match cursor, queue with
  | some c, _ => insertFrom c b queue
  | none, [] => [b]
  | none, head :: rest => if seqBefore b.seq head.seq then b :: head :: rest else insertFrom head.seq b (head :: rest)

/-- A count of Table 5-1, increased by 1 and stopping at 65535 (R99). -/
def count16 (n : Nat) : Nat := capAdd n 1 65535

/-- R92: an accepted block. -/
def DeskQueue.accept (q : DeskQueue) (n : Seq) (cells : List Cell) (releaseAfter : Bool) : DeskQueue :=
  { q with
    queue := insertBlock q.cursor ⟨n, cells, q.trim, releaseAfter⟩ q.queue
    accepted := count16 q.accepted }

/-- R97: the queue and the current block emptied, the cursor unset, the counts and the trim kept. -/
def DeskQueue.flushed (q : DeskQueue) : DeskQueue :=
  { q with queue := [], current := none, cursor := none }

/-- R94: the head block becomes the current block, its cells all unplayed, and the cursor is its sequence. -/
def DeskQueue.startHead (q : DeskQueue) : DeskQueue :=
  match q.queue with
  | [] => q
  | b :: rest =>
    { q with queue := rest, current := some ⟨b.seq, b.cells, b.trim, b.releaseAfter, 0⟩, cursor := some b.seq }

/-- R96: the blocks before the head are declared lost; the cursor moves to the head. -/
def DeskQueue.declareGap (q : DeskQueue) : DeskQueue :=
  match q.queue, q.cursor with
  | b :: _, some c => { q with gap := capAdd q.gap (b.seq - c).toNat 65535, cursor := some b.seq }
  | _, _ => q

/-- A cell taken from the current block (R95): its samples, the block's trim, whether it was the last cell of a
release-after block, and the queue after it. -/
structure Played where
  cell : Cell
  trim : BitVec 4
  releaseAfterDone : Bool
  queue : DeskQueue
  deriving DecidableEq, Repr

/-- R95: the next unplayed cell of the current block, none where there is none. -/
def DeskQueue.play (q : DeskQueue) : Option Played :=
  match q.current with
  | none => none
  | some c =>
    match c.rest with
    | [] => none
    | [cell] =>
      some ⟨cell, c.trim, c.releaseAfter,
        { q with current := none, cursor := some (c.seq + 1), played := count16 q.played }⟩
    | cell :: next :: rest =>
      some ⟨cell, c.trim, false,
        { q with
          current := some { c with rest := next :: rest, playIndex := c.playIndex + 1 }
          played := count16 q.played }⟩

/-! ### The pool -/

def setQueue (d : Desk) (q : DeskQueue) (s : State) : State :=
  s.setPool { s.pool with desks := s.pool.desks.set d q }

/-- A desk queue changed and the cells it gives up put on the free list (R84). -/
def releaseCells (d : Desk) (q : DeskQueue) (s : State) : State :=
  s.setPool { s.pool with
    desks := s.pool.desks.set d q
    free := s.pool.free + ((getQueue s d).cells - q.cells) }

/-- R97. -/
def flushDesk (d : Desk) (s : State) : State := releaseCells d (getQueue s d).flushed s

/-- R87: the playout state of a desk at OPEN_DESK. -/
def resetQueue (d : Desk) (s : State) : State := releaseCells d .reset s

def quotaOf (s : State) (d : Desk) : Nat := (s.pool.quota.get d).getD 0

/-- R83: the pool formed or re-formed with n cells; the clip region is kept. -/
def formPool (n : Nat) (s : State) : State :=
  s.setPool { s.pool with size := some n, free := n - s.pool.clip.length }

/-- R85: the clip region with the cells written at an offset; positions not written before hold samples of 0. -/
def writeClip (clip : List Cell) (offset : Nat) (cells : List Cell) : List Cell :=
  (clip ++ List.replicate (offset - clip.length) (Eight.all 0)).take offset ++ cells ++ clip.drop (offset + cells.length)

def loadClip (offset : Nat) (cells : List Cell) (s : State) : State :=
  let clip := writeClip s.pool.clip offset cells
  s.setPool { s.pool with clip := clip, free := s.pool.free - (clip.length - s.pool.clip.length) }

/-- R86: the pool at a successful setup close. -/
def closePool (s : State) : State :=
  s.setPool { s.pool with
    quota := s.setup.quota.mapIdx fun d n => if deskEnabled s d then some n else none
    desks := s.pool.desks.map DeskQueue.flushed
    free := s.pool.size.getD 0 - s.pool.clip.length }

/-- R92: the block taken from the free list into the desk's queue. -/
def acceptBlock (d : Desk) (n : Seq) (cells : List Cell) (releaseAfter : Bool) (s : State) : State :=
  s.setPool { s.pool with
    desks := s.pool.desks.set d ((getQueue s d).accept n cells releaseAfter)
    free := s.pool.free - cells.length }

/-- R104: a sample scaled by a trim, truncated toward zero. -/
def scaleSample (trim : BitVec 4) (x : Word16) : Word16 :=
  BitVec.ofInt 16 ((x.toInt * (16 - (trim.toNat : Int))).tdiv 16)

def scaleCell (trim : BitVec 4) (c : Cell) : Cell := c.mapIdx fun _ x => scaleSample trim x

end Sys2Proof.Machine
end

