-- ==== Sys2Proof/Machine/Air.lean ====
section
/-! DEFINITION. The air sequencer between frame starts: learning of an ending, going off at once, taking orders; and the end of an own identification (R115, R117, R119, R120, R129). -/

namespace Sys2Proof.Machine

/-- R129: the own identification ends, in whichever of its four ways. -/
def endIdent (s : State) : State :=
  s.setIdent { s.ident with phase := .nothing, kind := none, clipIndex := 0 }

/-- R115: the air sequencer is told that a holding of desk d has ended. -/
def tellEnded (d : Desk) (s : State) : State :=
  let a := if s.air.pendingStart = some d then { s.air with pendingStart := none } else s.air
  let serves := a.serving = some d
  match a.state with
  | .lead | .prime | .on =>
    s.setAir (if serves then { a with holdingEnded := true, state := .tail, tailRun := 0 } else a)
  | .ident => s.setAir (if serves then { a with holdingEnded := true } else a)
  | .tail | .off => s.setAir a

/-- R120: the air sequencer goes OFF at once. KEYL is released (R7), a program field not yet driven is withheld (R6),
pending work is dropped and an own identification is abandoned. The starvation run and the voice sent mark are kept;
the lead and tail runs go to 0, but stay where the sequencer was OFF already. -/
def airOff (s : State) : State :=
  endIdent ((s.setBus { s.bus with keylDrive := false, progDrive := false }).setAir
    { s.air with
      state := .off
      purpose := none
      serving := none
      holdingEnded := false
      leadRun := if s.air.state = .off then s.air.leadRun else 0
      tailRun := if s.air.state = .off then s.air.tailRun else 0
      pendingStart := none
      pendingIdent := none
      identActive := false
      withdrawDue := false })

/-- The conditions that the two identification orders share (R117, R119). -/
def orderConds (s : State) : Bool :=
  memberActive s && !s.bus.sampNow.clampl && decide (0 < clipCells s)

/-- R117: the conditions of an interval identification order. -/
def intervalConds (s : State) : Bool :=
  (s.air.state == .on || s.air.state == .tail) && orderConds s

/-- R119: the conditions of a tail identification order. -/
def tailConds (s : State) : Bool :=
  s.air.state == .off && s.air.pendingStart.isNone && orderConds s

/-- R117, R127: an interval order is given; taken, it is pending and the phase becomes ORDERED, and otherwise nothing is
started. An identification pending or running is left as it is. -/
def orderInterval (s : State) : State :=
  if s.air.pendingIdent.isNone && s.ident.phase == .nothing && intervalConds s then
    (s.setAir { s.air with pendingIdent := some .interval }).setIdent
      { s.ident with phase := .ordered, kind := some .interval }
  else s

/-- R119, R132: a tail order is given. -/
def orderTail (s : State) : State :=
  if s.air.pendingIdent.isNone && s.ident.phase == .nothing && tailConds s then
    (s.setAir { s.air with pendingIdent := some .tail }).setIdent
      { s.ident with phase := .ordered, kind := some .tail }
  else s

end Sys2Proof.Machine
end

