-- ==== Sys2Proof/Machine/Claim.lean ====
section
/-! DEFINITION. Own desks of the claim table: endings, withdrawals, bars, publication (R40, R46 to R54). -/

namespace Sys2Proof.Machine

/-- The state that follows an ending of a holding (Table 3-5). -/
def stateAfter (r : EndReason) : RecState :=
  match r with
  | .timeout | .starved => .barred
  | _ => .idle

/-- R47, R50: the end publication keeps what is pending there. -/
def fillEnd (o : OwnDesk) (r : Record) : Option Record :=
  match o.endPub with
  | some x => some x
  | none => some r

/-- R47 steps 1 to 3 on the desk itself. A bar begins with run 0 and no acknowledgment (R53). -/
def OwnDesk.ended (o : OwnDesk) (r : EndReason) : OwnDesk :=
  let rec' : Record := ⟨stateAfter r, o.record.cls, r, 0⟩
  { o with
    record := rec'
    drain := false
    endPub := fillEnd o rec'
    barRun := if stateAfter r = .barred then 0 else o.barRun
    ack := if stateAfter r = .barred then false else o.ack }

/-- R47: a holding ends; a cause that finds the desk no longer HOLDING has no effect. -/
def endHolding (d : Desk) (r : EndReason) (s : State) : State :=
  if (getDesk s d).record.state = .holding then
    tellEnded d (raiseDesk d .ended (setDesk s d ((getDesk s d).ended r)))
  else s

/-- R50 on the desk itself. -/
def OwnDesk.withdrawn (o : OwnDesk) (r : EndReason) : OwnDesk :=
  let rec' : Record := ⟨.idle, o.record.cls, r, 0⟩
  { o with record := rec', endPub := fillEnd o rec' }

/-- R50: a WAITING desk is withdrawn. -/
def withdraw (d : Desk) (r : EndReason) (s : State) : State :=
  if (getDesk s d).record.state = .waiting then
    raiseDesk d .waitEnd (setDesk s d ((getDesk s d).withdrawn r))
  else s

/-- Every own holding ended with a reason. -/
def endHoldings (r : EndReason) (s : State) : State :=
  allDesks.foldl (fun s d => endHolding d r s) s

/-- Every own WAITING desk withdrawn with a reason. -/
def withdrawAll (r : EndReason) (s : State) : State :=
  allDesks.foldl (fun s d => withdraw d r s) s

/-! ### Bars -/

/-- R54: the conditions of lifting a bar. -/
def barDone (s : State) (o : OwnDesk) : Bool :=
  o.record.state == .barred && decide (s.setup.coolOff ≤ o.barRun) && (o.record.reason != .starved || o.ack)

/-- R54: the bar is lifted where its conditions are met: IDLE with the end reason kept, and BAR_LIFTED. -/
def testBar (d : Desk) (s : State) : State :=
  if barDone s (getDesk s d) then
    raiseDesk d .barLifted
      (setDesk s d { getDesk s d with record := { (getDesk s d).record with state := .idle } })
  else s

/-- R53: the bar run of a BARRED desk increases at a frame start, stopping at cool_off; then the bar is tested. -/
def barStep (d : Desk) (s : State) : State :=
  if (getDesk s d).record.state = .barred then
    testBar d (setDesk s d { getDesk s d with barRun := capAdd (getDesk s d).barRun 1 s.setup.coolOff })
  else s

/-- The bar work of a frame start (R53). A desk that was not BARRED when the frame start began is passed over. -/
def barWork (before : State) (s : State) : State :=
  allDesks.foldl (fun s d => if (getDesk before d).record.state = .barred then barStep d s else s) s

/-! ### Publication -/

/-- R40: the published record of an own desk at the frame start of a frame. -/
def OwnDesk.publish (o : OwnDesk) (now : Count) : OwnDesk :=
  match o.endPub with
  | some r => { o with published := r, endPub := none }
  | none =>
    if (o.record.state = .waiting ∨ o.record.state = .holding) ∧ o.stampSet = false then
      { o with record := { o.record with stamp := now }, stampSet := true, published := { o.record with stamp := now } }
    else { o with published := o.record }

def publishAll (s : State) : State :=
  s.setClaims { s.claims with desks := s.claims.desks.map fun o => o.publish (ownCount s) }

/-! ### Ages of own desks -/

/-- R41: the age of an own WAITING or HOLDING desk; none where its stamp is not set. -/
def deskAge (s : State) (o : OwnDesk) : Option Nat :=
  if (o.record.state = .waiting ∨ o.record.state = .holding) ∧ o.stampSet = true then
    some (age (ownCount s) o.record.stamp)
  else none

/-- An age stands and has reached a limit. -/
def ageAtLeast (a : Option Nat) (limit : Nat) : Bool :=
  match a with
  | some n => decide (limit ≤ n)
  | none => false

/-- R51: every own WAITING desk whose age is max_wait or more is withdrawn. -/
def expireWaits (s : State) : State :=
  allDesks.foldl (fun s d =>
    if ageAtLeast (deskAge s (getDesk s d)) s.setup.maxWait then withdraw d .waitExpired s else s) s

/-- R77: every own HOLDING desk whose age is tot_limit or more is ended with TIMEOUT. -/
def applyTimeLimit (s : State) : State :=
  allDesks.foldl (fun s d =>
    if ageAtLeast (deskAge s (getDesk s d)) s.setup.totLimit then endHolding d .timeout s else s) s

end Sys2Proof.Machine
end

