-- ==== Sys2Proof/Machine/Operands.lean ====
section
/-! DEFINITION. The fields of Table 1-2 on the wire: slots, claim records, sync fields and program fields written to bits and read from bits. -/

namespace Sys2Proof.Machine

/-! ### Claim records -/

/-- The 32 bits of a claim record. -/
def recordBits (r : Record) : BitVec 32 :=
  BitVec.ofNat 3 r.state.code ++ BitVec.ofNat 1 r.cls.code ++ BitVec.ofNat 4 r.reason.code ++ r.stamp

/-- R11: a record as handed, with its substitutions for codes that name nothing. -/
def recordOf (b : BitVec 32) : Record :=
  match RecState.ofCode (b.extractLsb' 29 3).toNat with
  | none => .absent
  | some st =>
    { state := st
      cls := if b.getLsbD 28 then .control else .normal
      reason := EndReason.ofCode (b.extractLsb' 24 4).toNat
      stamp := b.extractLsb' 0 24 }

/-! ### Slots -/

/-- The 192 data bits of a slot, from the content of the transmit latch (R3, Table 1-2). -/
def slotData (o : OwnSlot) : BitVec 192 :=
  BitVec.ofNat 3 o.station.val ++ o.join.field ++ o.echo.getD 0 ++ o.setupDigest ++ o.viewDigest
    ++ o.causes ++ o.flags ++ (0 : BitVec 5)
    ++ recordBits o.recs.d0 ++ recordBits o.recs.d1 ++ recordBits o.recs.d2 ++ recordBits o.recs.d3

/-- The 208 bits of the own slot: data and CRC (R3, R9). -/
def slotBits (o : OwnSlot) : BitVec 208 :=
  slotData o ++ crcBits (bitsOf (slotData o))

/-- A slot as received, before it is judged. -/
structure SlotIn where
  station : BitVec 3
  join : BitVec 3
  echo : Byte
  setupDigest : Word16
  viewDigest : Word16
  causes : Byte
  flags : BitVec 5
  recs : Four Record
  deriving DecidableEq, Repr

/-- The fields of a received slot (Table 1-2). Bits 59 to 63 are not examined (R11). -/
def slotOf (b : BitVec 208) : SlotIn where
  station := b.extractLsb' 205 3
  join := b.extractLsb' 202 3
  echo := b.extractLsb' 194 8
  setupDigest := b.extractLsb' 178 16
  viewDigest := b.extractLsb' 162 16
  causes := b.extractLsb' 154 8
  flags := b.extractLsb' 149 5
  recs := ⟨recordOf (b.extractLsb' 112 32), recordOf (b.extractLsb' 80 32), recordOf (b.extractLsb' 48 32),
    recordOf (b.extractLsb' 16 32)⟩

def slotCrcGood (b : BitVec 208) : Bool :=
  crcBits (bitsOf (b.extractLsb' 16 192)) == b.extractLsb' 0 16

/-- R10: the slot received at position k passes the freshness checks on the own count. -/
def slotFresh (now : Count) (k : Station) (b : BitVec 208) : Bool :=
  b != BitVec.allOnes 208 && slotCrcGood b && (slotOf b).echo == echoOf now && (slotOf b).station.toNat == k.val

/-! ### Sync fields -/

/-- The 43 sync bits of a frame: pattern, count, timing station number (R5). -/
def syncBits (c : Count) (t : Station) : BitVec 43 :=
  Config.syncPattern ++ c ++ BitVec.ofNat 3 t.val

/-- The pattern, the count and the timing station number received (R5). -/
def syncPatternOf (b : BitVec 43) : Word16 := b.extractLsb' 27 16
def syncCountOf (b : BitVec 43) : Count := b.extractLsb' 3 24
def syncStationOf (b : BitVec 43) : Station := ⟨(b.extractLsb' 0 3).toNat, (b.extractLsb' 0 3).isLt⟩

/-! ### Program fields -/

def kindFill : BitVec 3 := 0
def kindVoice : BitVec 3 := 1
def kindIdent : BitVec 3 := 2

def samplesBits (c : Cell) : BitVec 128 :=
  c.s0 ++ c.s1 ++ c.s2 ++ c.s3 ++ c.s4 ++ c.s5 ++ c.s6 ++ c.s7

/-- The 152 data bits of a program field (R6, Table 1-2). -/
def progData (p : ProgField) : BitVec 152 :=
  p.kind ++ p.station ++ p.desk ++ BitVec.ofBool p.endIdent ++ p.echo ++ (0 : BitVec 7) ++ samplesBits p.samples

/-- The 168 bits of a program field: data and CRC (R6, R9). -/
def progBits (p : ProgField) : BitVec 168 :=
  progData p ++ crcBits (bitsOf (progData p))

def progOf (b : BitVec 168) : ProgField where
  kind := b.extractLsb' 165 3
  station := b.extractLsb' 162 3
  desk := b.extractLsb' 160 2
  endIdent := b.getLsbD 159
  echo := b.extractLsb' 151 8
  samples := ⟨b.extractLsb' 128 16, b.extractLsb' 112 16, b.extractLsb' 96 16, b.extractLsb' 80 16,
    b.extractLsb' 64 16, b.extractLsb' 48 16, b.extractLsb' 32 16, b.extractLsb' 16 16⟩

def progCrcGood (b : BitVec 168) : Bool :=
  crcBits (bitsOf (b.extractLsb' 16 152)) == b.extractLsb' 0 16

/-- R17: the classification of a received program field, tested in the order given. -/
def classify (now : Count) (b : BitVec 168) : ProgResult :=
  if b = BitVec.allOnes 168 then .undriven
  else if !progCrcGood b || 3 ≤ (progOf b).kind.toNat || (progOf b).echo != echoOf now then .error
  else .good

end Sys2Proof.Machine
end

