-- ==== Sys2Proof/Machine/AirFrame.lean ====
section
/-! DEFINITION. The air sequencer's decision at a frame start (R102 to R119). -/

namespace Sys2Proof.Machine

/-! ### What is handed to the bus engine (R102, R103, R6, R7) -/

def silence : Cell := .all 0

/-- The frame's decision in OFF. -/
def decideOff (s : State) : State :=
  (s.setBus { s.bus with keylDrive := false, progLatch := none, progDrive := false }).setAir
    { s.air with identActive := false }

/-- A keyed frame with a program field: the holder desk is the serving desk, or 0 where there is none (R103). A FENCED
station drives neither (R6, R7). -/
def decideField (kind : BitVec 3) (endIdent : Bool) (samples : Cell) (identActive : Bool) (s : State) : State :=
  let field : ProgField :=
    { kind := kind
      station := BitVec.ofNat 3 (ownStation s).val
      desk := BitVec.ofNat 2 (s.air.serving.getD 0).val
      endIdent := endIdent
      echo := echoOf (ownCount s)
      samples := samples }
  let free := s.member.join != .fenced
  (s.setBus { s.bus with keylDrive := free, progLatch := some field, progDrive := free }).setAir
    { s.air with identActive := identActive }

def decideFill (s : State) : State := decideField kindFill false silence false s

/-- A LEAD frame: IDENT_ACTIVE is set with purpose TAIL_IDENT (R102). -/
def decideLead (s : State) : State :=
  decideField kindFill false silence (s.air.purpose == some .tailIdent) s

/-! ### Cell choice (R108 to R114) -/

/-- The effective prebuffer (R108). -/
def effectivePrebuffer (s : State) (d : Desk) : Nat := min s.setup.prebuffer (quotaOf s d)

def draining (s : State) (d : Desk) : Bool := (getDesk s d).drain

/-- The end of the over is known (R109). -/
def endKnown (s : State) (d : Desk) : Bool := draining s d || (getQueue s d).hasReleaseAfter

/-- R108: the over can begin. -/
def primeTest (s : State) (d : Desk) : Bool :=
  decide (effectivePrebuffer s d ≤ (getQueue s d).cells) || endKnown s d

/-- The cases of R109. -/
inductive CellChoice where
  | playCell
  | emptyQueue
  | startHead
  | declareGap
  | waitForBlock
  deriving DecidableEq, Repr

/-- R109: the first case that applies. Cases 3 and 4 start the head alike. -/
def cellChoice (s : State) (d : Desk) : CellChoice :=
  let q := getQueue s d
  if 0 < q.left then .playCell
  else
    match q.queue, q.cursor with
    | [], _ => .emptyQueue
    | _ :: _, none => .startHead
    | b :: _, some c =>
      if b.seq = c then .startHead
      else if primeTest s d then .declareGap
      else .waitForBlock

/-- A FILL frame that counts toward starvation; at silence_hold the holding ends with STARVED (R113). -/
def starveFrame (d : Desk) (s : State) : State :=
  let s1 := decideFill s
  let s2 := s1.setAir { s1.air with starveRun := capAdd s.air.starveRun 1 s.setup.silenceHold }
  if s.setup.silenceHold ≤ s.air.starveRun + 1 then endHolding d .starved s2 else s2

/-- R112: the drain-complete frame. -/
def drainFrame (d : Desk) (s : State) : State := endHolding d .done (decideFill s)

/-- R114: the first VOICE frame of a holding. -/
def markVoice (d : Desk) (s : State) : State :=
  let s1 := s.setAir { s.air with starveRun := 0, voiceSent := true }
  if s.air.voiceSent then s1 else raiseDesk d .onAir s1

/-- A VOICE frame (R95, R104, R113, R114); a release-after block that finishes ends the holding (R111). -/
def voiceFrame (d : Desk) (s : State) : State :=
  match (getQueue s d).play with
  | none => decideFill s
  | some p =>
    let s1 := decideField kindVoice false (scaleCell p.trim p.cell) false (releaseCells d p.queue s)
    let s2 := markVoice d s1
    if p.releaseAfterDone then endHolding d .done s2 else s2

/-- R94: the head starts, and its first cell is played in the same action. -/
def startFrame (d : Desk) (s : State) : State :=
  voiceFrame d (setQueue d (getQueue s d).startHead s)

/-- R110: the gap is declared and raised, and the head starts. -/
def gapFrame (d : Desk) (s : State) : State :=
  startFrame d (raiseDesk d .gap (setQueue d (getQueue s d).declareGap s))

/-- The decision in ON (R109). -/
def onDecide (d : Desk) (s : State) : State :=
  match cellChoice s d with
  | .playCell => voiceFrame d s
  | .emptyQueue => if draining s d then drainFrame d s else starveFrame d s
  | .startHead => startFrame d s
  | .declareGap => gapFrame d s
  | .waitForBlock => starveFrame d s

def goState (x : AirState) (s : State) : State := s.setAir { s.air with state := x }

/-- The decision in PRIME (R108). -/
def primeDecide (d : Desk) (s : State) : State :=
  if primeTest s d then onDecide d (goState .on s) else starveFrame d s

/-! ### Tail, identification, lead -/

/-- The air sequencer goes OFF at a frame start (R116, R133). -/
def stopAir (s : State) : State :=
  decideOff (s.setAir
    { s.air with state := .off, purpose := none, serving := none, holdingEnded := false, withdrawDue := false })

/-- The decision in TAIL (R116). -/
def tailDecide (s : State) : State :=
  if s.air.tailRun < s.setup.tail then
    decideFill (s.setAir { s.air with tailRun := s.air.tailRun + 1 })
  else stopAir s

/-- TAIL begins with tail run 0 (R116, R118). -/
def beginTail (s : State) : State := tailDecide (s.setAir { s.air with state := .tail, tailRun := 0 })

/-- R105: a start is taken; the frame is the first LEAD frame. An identification pending or in LEAD is dropped (R106), and
KEYL, asserted in that LEAD, stays asserted: R105 against a line of R136's table (log 30). -/
def startTaken (d : Desk) (s : State) : State :=
  let s1 := s.setAir
    { s.air with
      state := .lead
      purpose := some .desk
      serving := some d
      holdingEnded := false
      voiceSent := false
      leadRun := 1
      starveRun := 0
      pendingStart := none
      pendingIdent := none
      withdrawDue := false }
  decideLead (endIdent s1)

/-- R134, R118: the clip position of the frame. -/
def identFrame (s : State) : State :=
  let i := s.ident.clipIndex
  decideField kindIdent (i + 1 == clipCells s) (s.pool.clip.getD i silence) true
    (s.setIdent { s.ident with clipIndex := i + 1 })

/-- R118: the sequencer leaves IDENT, the own identification completed. -/
def leaveIdent (s : State) : State :=
  let s1 := endIdent s
  if s.air.purpose = some .tailIdent ∨ s.air.holdingEnded = true then
    match s.air.pendingStart with
    | some d => startTaken d s1
    | none => beginTail s1
  else
    match s.air.serving with
    | some d => onDecide d (goState .on s1)
    | none => beginTail s1

/-- The decision in IDENT (R118). -/
def identDecide (s : State) : State :=
  if s.ident.clipIndex < clipCells s then identFrame s else leaveIdent s

/-- R119, R130: a tail identification enters IDENT at the end of its LEAD. -/
def beginTailIdent (s : State) : State :=
  identDecide ((goState .ident s).setIdent { s.ident with phase := .playing, kind := some .tail, clipIndex := 0 })

/-- R107: the end of LEAD. -/
def leadEnds (s : State) : State :=
  match s.air.purpose, s.air.serving with
  | some .tailIdent, _ => beginTailIdent s
  | _, some d => primeDecide d (goState .prime s)
  | _, none => stopAir s

/-- The decision in LEAD (R107). -/
def leadDecide (s : State) : State :=
  if s.air.leadRun < s.setup.lead then decideLead (s.setAir { s.air with leadRun := s.air.leadRun + 1 })
  else leadEnds s

/-- The decision of the state the sequencer is in (R102). -/
def airDecide (s : State) : State :=
  match s.air.state, s.air.serving with
  | .off, _ => decideOff s
  | .lead, _ => leadDecide s
  | .prime, some d => primeDecide d s
  | .on, some d => onDecide d s
  | .ident, _ => identDecide s
  | .tail, _ => tailDecide s
  | .prime, none => stopAir s
  | .on, none => stopAir s

/-! ### Pending work (R102, R105, R106, R117, R119, R133) -/

/-- A pending identification that is not started (R129). -/
def dropPendingIdent (s : State) : State := endIdent (s.setAir { s.air with pendingIdent := none })

/-- R117, R127: a pending interval identification at a frame start. -/
def takeInterval (s : State) : State :=
  if intervalConds s then
    identDecide ((s.setAir { s.air with state := .ident, pendingIdent := none }).setIdent
      { s.ident with phase := .playing, kind := some .interval, clipIndex := 0 })
  else airDecide (dropPendingIdent s)

/-- R119: a pending tail identification at a frame start. -/
def takeTailIdent (s : State) : State :=
  if tailConds s then
    decideLead ((s.setAir
      { s.air with
        state := .lead
        purpose := some .tailIdent
        serving := none
        holdingEnded := false
        leadRun := 1
        pendingIdent := none }).setIdent { s.ident with phase := .lead, kind := some .tail })
  else airDecide (dropPendingIdent s)

/-- R133: a withdrawal in LEAD takes the sequencer OFF before the decision. -/
def applyWithdrawal (s : State) : State :=
  if s.air.withdrawDue then
    s.setAir
      { s.air with
        state := .off
        purpose := none
        serving := none
        holdingEnded := false
        leadRun := 0
        withdrawDue := false }
  else s

/-- R102: the air sequencer's work at a frame start. A start found in IDENT stays pending until IDENT ends (R106). -/
def airFrame (s : State) : State :=
  let s := applyWithdrawal s
  match s.air.pendingStart, s.air.pendingIdent with
  | some d, _ => if s.air.state = .ident then airDecide s else startTaken d s
  | none, some .interval => takeInterval s
  | none, some .tail => takeTailIdent s
  | none, none => airDecide s

end Sys2Proof.Machine
end

