-- ==== Sys2Proof/Machine/Clamp.lean ====
section
/-! DEFINITION. The clamp unit: settle, supervision runs, reflected power (R139, R142 to R149). -/

namespace Sys2Proof.Machine

/-- The run stands one short of its limit, so the next increase reaches it. -/
def reaches (n limit : Nat) : Bool := n + 1 == limit

/-- The clamp-seen state and the settle run become the ones given; a change of the state raises CLAMP_CHANGE (R139). -/
def putSeen (x : ClampSeen) (run : Nat) (s : State) : State :=
  let s' := s.setClamp { s.clamp with seen := x, settleRun := run }
  if s.clamp.seen = x then s' else raiseSite .clampChange s'

/-- R139: the clamp-seen state and the settle run at a key sample. -/
def settleStep (s : State) : State :=
  if s.bus.sampNow.clampl then putSeen .clamped 0 s
  else
    match s.clamp.seen with
    | .clamped => putSeen .settling 1 s
    | .settling =>
      if s.clamp.settleRun + 1 < Config.settleSamples then putSeen .settling (s.clamp.settleRun + 1) s
      else putSeen .clear Config.settleSamples s
    | .clear => putSeen .clear Config.settleSamples s

/-- R148, R142: the orphan, stuck and program runs set to 0. -/
def clearWatchRuns (s : State) : State :=
  s.setClamp { s.clamp with orphanRun := 0, stuckRun := 0, progRun := 0 }

/-- R142: an unclamp order is received. -/
def unclampReceipt (s : State) : State :=
  putCauses (s.clamp.causes &&& ~~~ latchingMask) (clearWatchRuns s)

/-- R145: the condition under which the stuck run counts. -/
def stuckCounts (s : State) : Bool :=
  s.member.join == .member && s.bus.sampNow.rfon && !s.bus.sampNow.keyl

def stuckStep (s : State) : State :=
  if !s.setup.rfSense then s
  else if stuckCounts s then
    let s' := s.setClamp { s.clamp with stuckRun := capAdd s.clamp.stuckRun 1 Config.watchLimit }
    if reaches s.clamp.stuckRun Config.watchLimit then setCause .stuck s' else s'
  else s.setClamp { s.clamp with stuckRun := 0 }

/-- R147: the condition under which the no-RF run counts. -/
def noRfCounts (s : State) : Bool :=
  s.bus.sampNow.keyl && !s.bus.sampNow.clampl && !s.bus.sampNow.rfon

def noRfLimit (s : State) : Nat := s.setup.lead + Config.noRfMargin

def noRfStep (s : State) : State :=
  if !s.setup.rfSense then s
  else if noRfCounts s then
    let s' := s.setClamp { s.clamp with noRfRun := capAdd s.clamp.noRfRun 1 (noRfLimit s) }
    if reaches s.clamp.noRfRun (noRfLimit s) then raiseSite .noRf s' else s'
  else s.setClamp { s.clamp with noRfRun := 0 }

/-- R149: REFLECT at a key sample while guard-on is set. -/
def reflectStep (s : State) : State :=
  if !s.guard.on then s
  else if causeSet s .reflect then
    if s.bus.sampNow.refl then s.setClamp { s.clamp with reflSet := 0, reflClear := 0 }
    else if s.clamp.reflClear + 1 < 100 then
      s.setClamp { s.clamp with reflSet := 0, reflClear := s.clamp.reflClear + 1 }
    else clearGuardCause .reflect (s.setClamp { s.clamp with reflSet := 0, reflClear := 0 })
  else
    if !s.bus.sampNow.refl then s.setClamp { s.clamp with reflSet := 0, reflClear := 0 }
    else if s.clamp.reflSet + 1 < 2 then
      s.setClamp { s.clamp with reflSet := s.clamp.reflSet + 1, reflClear := 0 }
    else setGuardCause .reflect (s.setClamp { s.clamp with reflSet := 0, reflClear := 0 })

/-- The holder of the latest snapshot stands. R64. -/
def hasHolding (r : Records) : Bool :=
  r.toList.any fun row => allDesks.any fun d => (row.get d).state == .holding

def orphanLimit (s : State) : Nat := s.setup.tail + Config.orphanMargin

/-- R143: the last line of the table, under which the orphan run counts. -/
def orphanCounts (s : State) : Bool :=
  s.member.join == .member && !joinedStale s && s.bus.sampNow.keyl && !hasHolding s.claims.snap.recs && !identOnBus s

/-- R143: the orphan run at a snapshot complete, by the first line whose condition holds. -/
def orphanStep (s : State) : State :=
  if s.member.join ≠ .member then s.setClamp { s.clamp with orphanRun := 0 }
  else if joinedStale s then s
  else if orphanCounts s then
    let s' := s.setClamp { s.clamp with orphanRun := capAdd s.clamp.orphanRun 1 (orphanLimit s) }
    if reaches s.clamp.orphanRun (orphanLimit s) then setCause .orphan s' else s'
  else s.setClamp { s.clamp with orphanRun := 0 }

/-- R146: the condition under which the program run counts, on the result kept by R17. -/
def programCounts (s : State) : Bool :=
  s.member.join == .member && s.bus.sampNow.keyl && s.bus.progResult == .error

def programStep (s : State) : State :=
  if programCounts s then
    let s' := s.setClamp { s.clamp with progRun := capAdd s.clamp.progRun 1 Config.watchLimit }
    if reaches s.clamp.progRun Config.watchLimit then setCause .program s' else s'
  else s.setClamp { s.clamp with progRun := 0 }

end Sys2Proof.Machine
end

