-- ==== Sys2Proof/Machine/Floor.lean ====
section
/-! DEFINITION. The snapshot, floor order, double holdings, the hand-off to the history ring, the view digest, and the floor decisions (R57 to R81, R158, R159). -/

namespace Sys2Proof.Machine

/-! ### Floor order (R63, R64) -/

/-- A record of a snapshot with the desk it belongs to. -/
structure Seat where
  station : Station
  desk : Desk
  record : Record
  deriving DecidableEq, Repr

def rowSeats (k : Station) (row : Four Record) : List Seat := allDesks.map fun d => ⟨k, d, row.get d⟩

/-- The 32 records, by station and desk. -/
def seats (r : Records) : List Seat := allStations.flatMap fun k => rowSeats k (r.get k)

/-- R63: the four keys of floor order, on ages at a count. -/
def floorBefore (now : Count) (a b : Seat) : Bool :=
  if a.record.cls ≠ b.record.cls then a.record.cls == .control
  else if age now a.record.stamp ≠ age now b.record.stamp then
    decide (age now b.record.stamp < age now a.record.stamp)
  else if a.station ≠ b.station then decide (a.station < b.station)
  else decide (a.desk < b.desk)

def insertSeat (now : Count) (x : Seat) : List Seat → List Seat
  | [] => [x]
  | y :: ys => if floorBefore now x y then x :: y :: ys else y :: insertSeat now x ys

/-- Seats in floor order. -/
def floorSort (now : Count) (xs : List Seat) : List Seat := xs.foldr (insertSeat now) []

/-- The records of a state, in floor order. -/
def inState (now : Count) (st : RecState) (r : Records) : List Seat :=
  floorSort now ((seats r).filter fun x => x.record.state == st)

/-- R63: the waiting list. -/
def waitingList (now : Count) (r : Records) : List Seat := inState now .waiting r

/-- R64: the holder, first in floor order where more than one record is HOLDING (R58). -/
def holderOf (now : Count) (r : Records) : Option Seat := (inState now .holding r).head?

def snapHolder (s : State) : Option Seat := holderOf s.claims.snap.count s.claims.snap.recs

def snapWaiting (s : State) : List Seat := waitingList s.claims.snap.count s.claims.snap.recs

/-! ### Digest agreement (R61) -/

/-- Peer slots of this frame with join field MEMBER whose view digest is not the held one. -/
def disagreeing (s : State) : Nat :=
  (allStations.filter fun k => match freshHeader s k with
    | some h => h.join == 2 && h.viewDigest != s.claims.viewDigest
    | none => false).length

/-- Grant condition 2 (R67). -/
def condition2 (s : State) : Bool := !joinedStale s && s.bus.readback == .good

/-- R61: the digest agreement test and the split run. -/
def digestTest (s : State) : State :=
  let n := disagreeing s
  let put (run : Nat) := s.setClaims { s.claims with disagree := n, splitRun := run }
  if !memberActive s then put 0
  else if !condition2 s then put s.claims.splitRun
  else if n = 0 then put 0
  else raiseSite .split (put (capAdd s.claims.splitRun 1 8))

/-! ### Forming the snapshot (R57, R58) -/

/-- R57: the records of the frame's snapshot, before R58. -/
def formRecords (s : State) : Records :=
  s.claims.mirrors.mapIdx fun k row =>
    if k = ownStation s then s.claims.desks.map OwnDesk.published
    else if joined s k then row
    else .all .absent

/-- R58: what a record replaced in a double holding becomes. -/
def splitRecord (r : Record) : Record := ⟨.idle, r.cls, .split, 0⟩

/-- R58: with several HOLDING records, the first in floor order is kept. -/
def resolve (now : Count) (r : Records) : Records :=
  match holderOf now r with
  | none => r
  | some w => r.mapIdx fun k row => row.mapIdx fun d x =>
      if x.state = .holding ∧ ¬ (k = w.station ∧ d = w.desk) then splitRecord x else x

/-- Desk k.d was replaced by R58. -/
def replacedAt (formed kept : Records) (k : Station) (d : Desk) : Bool :=
  ((formed.get k).get d).state == .holding && ((kept.get k).get d).state != .holding

/-- R58: replaced mirrors are stored as the snapshot has them. -/
def storeReplaced (formed kept : Records) (mirrors : Records) : Records :=
  mirrors.mapIdx fun k row => row.mapIdx fun d x =>
    if replacedAt formed kept k d then (kept.get k).get d else x

/-- R58: replaced own holdings are ended with SPLIT. -/
def endReplaced (formed kept : Records) (s : State) : State :=
  allDesks.foldl (fun s d => if replacedAt formed kept (ownStation s) d then endHolding d .split s else s) s

/-- R57 stage 2: the snapshot of the frame replaces the one before, which is kept. -/
def formSnapshot (formed kept : Records) (s : State) : State :=
  endReplaced formed kept (s.setClaims
    { s.claims with
      prev := s.claims.snap
      snap := ⟨kept, ownCount s⟩
      mirrors := storeReplaced formed kept s.claims.mirrors })

/-! ### Hand-off and history (R59, R158, R159) -/

/-- R158, R159: an entry at the front of the ring, the eighth leaving a full one. -/
def recordHistory (e : HistoryEntry) (s : State) : State :=
  s.setHistory ⟨(e :: s.history.ring).take Config.ringSize, s.history.total + 1⟩

/-- R59: the end reason handed for desk k.d. -/
def handedReason (s : State) (formed kept : Records) (k : Station) (d : Desk) : EndReason :=
  if k ≠ ownStation s ∧ joined s k = false then .lost
  else if replacedAt formed kept k d then .split
  else if ((kept.get k).get d).state = .absent then .closed
  else ((kept.get k).get d).reason

/-- R59: the desks HOLDING in the previous snapshot and not in this one. -/
def endedSeats (prev kept : Records) : List Seat :=
  (seats prev).filter fun x =>
    x.record.state == .holding && ((kept.get x.station).get x.desk).state != .holding

def historyEntry (s : State) (formed kept : Records) (x : Seat) : HistoryEntry where
  station := x.station
  desk := x.desk
  cls := x.record.cls
  start := x.record.stamp
  length := age (ownCount s) x.record.stamp
  reason := handedReason s formed kept x.station x.desk

/-- R59: the hand-off, after the snapshot is formed. -/
def handOff (formed kept : Records) (s : State) : State :=
  (endedSeats s.claims.prev.recs kept).foldl (fun t x => recordHistory (historyEntry s formed kept x) t) s

/-! ### View digest (R60) -/

def seatBytes (x : Seat) : List Byte := [BitVec.ofNat 8 x.station.val, BitVec.ofNat 8 x.desk.val]

/-- R60: the byte sequence of a floor view. -/
def viewBytes (holder : Option Seat) (waiting : List Seat) : List Byte :=
  (match holder with | some h => seatBytes h | none => [0xFF, 0xFF]) ++ waiting.flatMap seatBytes

def computeDigest (s : State) : State :=
  s.setClaims { s.claims with viewDigest := crcBytes (viewBytes (snapHolder s) (snapWaiting s)) }

/-! ### Floor decisions (R65 to R79) -/

/-- R66 to R71, on the snapshot just formed. -/
def testConds (s : State) : Conds where
  c1 := memberActive s
  c2 := condition2 s
  c3 := s.claims.disagree == 0
  c4 := notClamped s
  c5 := (snapHolder s).isNone && !identOnBus s
  c6 := !s.bus.sampNow.keyl && !s.bus.sampPrev.keyl

/-- R72: the verdict. -/
def verdictOf (c : Conds) (waiting : List Seat) : Verdict :=
  if !c.c1 then .notActive
  else if !c.c2 then .frozenStale
  else if !c.c3 then .frozenSplit
  else if !c.c4 then .clampSettling
  else if !c.c5 then .occupied
  else if !c.c6 then .keyGap
  else if waiting.isEmpty then .noClaim
  else .grant

def seatName (x : Seat) : Station × Desk := (x.station, x.desk)

/-- R65 step a. -/
def setVerdict (s : State) : State :=
  let c := testConds s
  let v := verdictOf c (snapWaiting s)
  s.setClaims
    { s.claims with
      conds := c
      verdict := v
      grantee := if v = .grant then (snapWaiting s).head?.map seatName else none }

/-- R78, R144: the snapshot's holder is past its limit, at a MEMBER station. -/
def totReport (s : State) : Bool :=
  s.member.join == .member && (match snapHolder s with
    | some h => decide (s.setup.totLimit + Config.totMargin ≤ age (ownCount s) h.record.stamp)
    | none => false)

/-- R65 step c. A report at the snapshot complete of a FENCE sets nothing (R144). -/
def enforceTot (fenceNow : Bool) (s : State) : State :=
  if totReport s && !fenceNow then setCause .totenf s else s

/-- R65 step d (R79). -/
def releaseSplit (s : State) : State :=
  if s.claims.splitRun = 8 then endHoldings .split s else s

/-- R75: the own desk that is pre-empted. -/
def preempted (s : State) : Option Desk :=
  match snapHolder s, snapWaiting s with
  | some h, g :: _ =>
    if s.claims.conds.c1 && s.claims.conds.c2 && s.claims.conds.c3 && h.station == ownStation s
      && h.record.cls == .normal && g.record.cls == .control then some h.desk else none
  | _, _ => none

/-- R65 step e. -/
def preempt (s : State) : State :=
  match preempted s with
  | some d => endHolding d .preempted s
  | none => s

/-- R46: the desk becomes HOLDING; its stamp is fixed at the next publication (R40). -/
def OwnDesk.granted (o : OwnDesk) : OwnDesk :=
  { o with record := { o.record with state := .holding, reason := .noReason }, stampSet := false, drain := false }

/-- R46, R105: an own WAITING desk is granted. -/
def grantDesk (d : Desk) (s : State) : State :=
  if (getDesk s d).record.state = .waiting then
    let s1 := raiseDesk d .granted (setDesk s d (getDesk s d).granted)
    s1.setAir { s1.air with pendingStart := some d }
  else s

/-- R65 step f (R73). -/
def grantStep (s : State) : State :=
  match s.claims.grantee with
  | some (k, d) => if k = ownStation s then grantDesk d s else s
  | none => s

/-- R65: the floor decisions, in order. -/
def floorDecisions (fenceNow : Bool) (s : State) : State :=
  grantStep (preempt (releaseSplit (enforceTot fenceNow (applyTimeLimit (setVerdict s)))))

/-! ### The claim table's work at a snapshot complete (R57) -/

/-- R57 stages 1 to 5. -/
def snapshotStages (s : State) : State :=
  let s1 := digestTest s
  let formed := formRecords s1
  let kept := resolve (ownCount s1) formed
  expireWaits (computeDigest (handOff formed kept (formSnapshot formed kept s1)))

end Sys2Proof.Machine
end

