-- ==== Sys2Proof/Machine/Ident.lean ====
section
/-! DEFINITION. The identification unit: voice frames, the due age, the tail wait, the choice of the identifying station, withdrawal (R123 to R133). -/

namespace Sys2Proof.Machine

/-! ### At program received (R124, R126) -/

/-- R124: a counted voice frame. -/
def countVoice (s : State) : State :=
  let a := capAdd s.ident.a 1 16777215
  if interval s ≤ a ∧ s.ident.due = false then
    s.setIdent { s.ident with a := a, due := true, dueAge := 0 }
  else s.setIdent { s.ident with a := a }

/-- R124: a good end-of-ident field. -/
def identSent (s : State) : State :=
  raiseSite .idSent (s.setIdent { s.ident with a := 0, due := false, dueAge := 0, overdue := false })

/-- R124: any other good IDENT field. -/
def identHeard (s : State) : State :=
  if s.ident.due then s.setIdent { s.ident with dueAge := 0 } else s

/-- R126: the station of the field's holder acts while an identification is due. -/
def actOnDue (s : State) : State :=
  if s.ident.phase ≠ .nothing then s
  else if clipCells s = 0 then
    match s.air.state, s.air.serving with
    | .on, some d => if s.air.holdingEnded then s else endHolding d .noIdent s
    | _, _ => s
  else if s.air.state = .on ∨ s.air.state = .tail then orderInterval s
  else s

/-- R124 and R126: a good VOICE field whose holder station is given. -/
def voiceReceived (holder : BitVec 3) (s : State) : State :=
  if s.member.join = .member then
    let s1 := countVoice s
    if s1.ident.due = true ∧ holder.toNat = (ownStation s).val then actOnDue s1 else s1
  else s

/-- R124: the effect of a program field by its classification. -/
def identProgram (result : ProgResult) (p : ProgField) (s : State) : State :=
  match result with
  | .good =>
    if p.kind = kindVoice then voiceReceived p.station s
    else if p.kind = kindIdent then (if p.endIdent then identSent s else identHeard s)
    else s
  | .nothing | .undriven | .error => s

/-! ### At frame start (R125) -/

/-- R125: the due age, and ID_OVERDUE once in a due period. -/
def dueStep (s : State) : State :=
  if s.ident.due then
    let s1 := s.setIdent { s.ident with dueAge := capAdd s.ident.dueAge 1 Config.overdueAge }
    if Config.overdueAge ≤ s.ident.dueAge + 1 ∧ s.ident.overdue = false then
      raiseSite .idOverdue (s1.setIdent { s1.ident with overdue := true })
    else s1
  else s

/-! ### At snapshot complete (R128, R131 to R133) -/

/-- R128: the last line of the table, under which the tail-wait run counts. -/
def tailWaitCounts (s : State) : Bool :=
  memberActive s && !joinedStale s && s.ident.a != 0 && !hasHolding s.claims.snap.recs && !identOnBus s
    && !s.bus.sampNow.keyl

/-- R128, by the first line whose condition holds. A withdrawal of R133 in a frame in which another JOINED peer's slot was STALE
falls under the second line, so the run is kept there, where the text of R133 says that it is set to 0 (log 34). -/
def tailWaitStep (s : State) : State :=
  if !memberActive s then s.setIdent { s.ident with tailWait := 0 }
  else if joinedStale s then s
  else if tailWaitCounts s then s.setIdent { s.ident with tailWait := capAdd s.ident.tailWait 1 s.setup.tailWait }
  else s.setIdent { s.ident with tailWait := 0 }

/-- R131: a station qualifies as identifying station. -/
def qualifies (s : State) (k : Station) : Bool :=
  if k = ownStation s then s.member.join == .member && decide (0 < clipCells s)
  else joined s k && (match freshHeader s k with
    | some h => h.join == 2 && flagClipReady h.flags
    | none => false)

/-- R131: the identifying station. -/
def chooseStation (s : State) : Option Station :=
  match s.history.ring.head? with
  | some e => if qualifies s e.station then some e.station else allStations.find? (qualifies s)
  | none => allStations.find? (qualifies s)

/-- R132: the conditions of considering the tail order. -/
def tailConsidered (s : State) : Bool :=
  s.ident.tailWait == s.setup.tailWait && !joinedStale s && s.ident.phase == .nothing && notClamped s

/-- R132. -/
def considerTail (s : State) : State :=
  if tailConsidered s then
    let c := chooseStation s
    let s1 := s.setIdent { s.ident with choice := c }
    if c = some (ownStation s) then orderTail s1 else s1
  else s

/-- R133: a lower-numbered MEMBER station published IDENT_ACTIVE in this frame. -/
def lowerIdentifies (s : State) : Bool :=
  allStations.any fun k => decide (k < ownStation s) && (match freshHeader s k with
    | some h => h.join == 2 && flagIdentActive h.flags
    | none => false)

/-- R133: an own tail identification is withdrawn in ORDERED or LEAD. -/
def withdrawTail (s : State) : State :=
  if s.ident.kind = some .tail ∧ lowerIdentifies s = true then
    match s.ident.phase with
    | .ordered => endIdent (s.setAir { s.air with pendingIdent := none })
    | .lead => endIdent (s.setAir { s.air with withdrawDue := true })
    | .playing | .nothing => s
  else s

/-- The unit's work at a snapshot complete. -/
def identWork (s : State) : State := withdrawTail (considerTail (tailWaitStep s))

end Sys2Proof.Machine
end

