-- ==== Sys2Proof/Machine/Sync.lean ====
section
/-! DEFINITION. The sync state machine, the own join state and the presence table (chapter 2). -/

namespace Sys2Proof.Machine

/-! ### Join state -/

/-- A change of the own join state: the standing is set to 0 (R33), leaving MEMBER clears the supervision runs (R148),
and SYNC_CHANGE is raised, or FENCED at the entry to FENCED (R30, R35). -/
def setJoin (j : JoinState) (s : State) : State :=
  if s.member.join = j then s
  else
    let s1 := s.setMember { s.member with join := j, standing := 0 }
    let s2 := if s.member.join = .member then clearWatchRuns s1 else s1
    raiseSite (if j = .fenced then .fenced else .syncChange) s2

def clearAnnounce (s : State) : State := s.setMember { s.member with announceRun := 0 }

/-- Table 2-4, entry to LOCKED or TIMING. -/
def joinAtActive (s : State) : State :=
  if s.member.join = .listen then setJoin .announce (clearAnnounce s) else s

/-- Table 2-4, entry to HOLDOVER. -/
def joinAtHoldover (s : State) : State :=
  if s.member.join = .announce then setJoin .listen (clearAnnounce s) else s

/-- Table 2-4, entry to HUNT; the setup close changes UNSET to LISTEN with it (R31). -/
def joinAtHunt (s : State) : State :=
  match s.member.join with
  | .announce => setJoin .listen (clearAnnounce s)
  | .member | .unset => setJoin .listen s
  | .listen | .mismatch | .fenced => s

/-! ### Entries to sync states -/

/-- Own holdings ended and own waits withdrawn with SYNC_LOST, the air sequencer already OFF (R20, R35, R115). -/
def loseSync (s : State) : State :=
  withdrawAll .syncLost (endHoldings .syncLost (airOff s))

/-- R14, R12, R17, R2: what the bus engine clears at the entry to HUNT. -/
def huntBus (b : Bus) (own : Station) : Bus :=
  { b with
    judge := (Eight.all Judgement.stale).set own .own
    fenceRun := 0
    headers := .all none
    progResult := .nothing }

/-- R56, R57, R60, R61, R72 and Table 4-1: what the claim table clears at the entry to HUNT. -/
def huntClaims (c : Claims) : Claims :=
  { c with
    mirrors := .absent
    snap := .empty
    prev := .empty
    viewDigest := 0
    splitRun := 0
    conds := .failed
    verdict := .notActive
    grantee := none
    disagree := 0 }

/-- R20: the entry to HUNT, from any state. -/
def enterHunt (s : State) : State :=
  let s1 := joinAtHunt (loseSync s)
  let s2 := s1.setSync
    { s1.sync with
      state := .hunt
      timingStation := none
      candidates := []
      huntRun := 0
      missRun := 0
      holdoverRun := 0
      readbackRun := 0 }
  let s3 := s2.setMember { s2.member with presence := .all .cleared }
  let s4 := s3.setBus (huntBus s3.bus (ownStation s))
  let s5 := s4.setClaims (huntClaims s4.claims)
  let s6 := s5.setHistory .reset
  raiseSite .syncChange (s6.setIdent { s6.ident with tailWait := 0, choice := none })

/-- R28: the entry to TIMING at an own frame start. -/
def enterTiming (s : State) : State :=
  let s1 := s.setSync
    { s.sync with
      state := .timing
      count := some (ownCount s)
      timingStation := some (ownStation s)
      candidates := []
      huntRun := 0
      holdoverRun := 0
      readbackRun := 0 }
  raiseSite .syncChange (joinAtActive s1)

/-- R25: the entry to HOLDOVER. Own WAITING desks are kept. -/
def enterHoldover (s : State) : State :=
  let s1 := joinAtHoldover (endHoldings .syncLost (airOff s))
  raiseSite .syncChange (s1.setSync
    { s1.sync with state := .holdover, timingStation := none, candidates := [], holdoverRun := 0 })

/-- R23: the entry to LOCKED in a relock frame of count c under timing station t. The rest of the frame is passed over. -/
def enterLocked (c : Count) (t : Station) (s : State) : State :=
  let s1 := s.setSync
    { s.sync with
      state := .locked
      count := some c
      timingStation := some t
      candidates := []
      huntRun := 0
      missRun := 0
      holdoverRun := 0 }
  let s2 := s1.setBus { s1.bus with relockRest := true }
  raiseSite .syncChange (joinAtActive s2)

/-- R26: the counts of a relock from HOLDOVER meet within the margin. -/
def countContinuous (c r : Count) : Bool :=
  decide ((c - r).toNat ≤ 2 ∨ 16777214 ≤ (c - r).toNat)

/-- R26 and R23: the relock test has passed with count c and timing station t. -/
def relock (c : Count) (t : Station) (s : State) : State :=
  if s.sync.state = .holdover ∧ countContinuous c (ownCount s) = false then
    enterLocked c t (raiseSite .countJump (withdrawAll .countJump s))
  else enterLocked c t s

/-- R35: the entry to FENCED. The station stops driving SBD at once (R4, R5, R14). A station in TIMING enters HUNT at
once. -/
def enterFenced (s : State) : State :=
  let s0 := loseSync s
  let s1 := setJoin .fenced (s0.setBus { s0.bus with ownSlotDriven := false, syncLatch := none })
  if s.sync.state = .timing then enterHunt s1 else s1

/-! ### Relock search (R21) -/

/-- The relock search runs in HUNT and HOLDOVER. -/
def searching (s : State) : Bool :=
  frameRuns s && (s.sync.state == .hunt || s.sync.state == .holdover)

/-- A held candidate lies exactly 2048 bit times before a finding, with the count before it and the same station. -/
def follows (s : State) (pos : BitVec 11) (c : Count) (t : Station) : Bool :=
  s.sync.candidates.any fun x => x.pos == pos && x.count + 1 == c && x.station == t

def dropCandidate (pos : BitVec 11) (s : State) : State :=
  s.setSync { s.sync with candidates := s.sync.candidates.filter fun x => x.pos != pos }

/-- A finding held as a candidate; one held at the same bit position has run out its 2048 bit times. -/
def holdCandidate (pos : BitVec 11) (c : Count) (t : Station) (s : State) : State :=
  let s1 := dropCandidate pos s
  s1.setSync { s1.sync with candidates := s1.sync.candidates ++ [⟨pos, c, t⟩] }

/-! ### Frame timing at a frame start (R19, R22, R27) -/

/-- R19: a held count increases by 1. -/
def advanceCount (s : State) : State :=
  s.setSync { s.sync with count := s.sync.count.map (· + 1) }

/-- R22: the hunt run at a frame start; at its limit a LISTEN station enters TIMING. -/
def huntStep (s : State) : State :=
  let limit := Config.huntLimit (ownStation s)
  let s1 := s.setSync { s.sync with huntRun := capAdd s.sync.huntRun 1 limit }
  if limit ≤ s.sync.huntRun + 1 ∧ s.member.join = .listen then enterTiming s1 else s1

/-- R27: the holdover run at a frame start; at its limit a MEMBER station enters TIMING and any other HUNT. -/
def holdoverStep (s : State) : State :=
  let limit := Config.holdoverLimit (ownStation s)
  let s1 := s.setSync { s.sync with holdoverRun := capAdd s.sync.holdoverRun 1 limit }
  if limit ≤ s.sync.holdoverRun + 1 then
    if s.member.join = .member then enterTiming s1 else enterHunt s1
  else s1

/-- The frame timing's part of a frame start: the count, then the wait of HUNT or HOLDOVER. -/
def timingStage (s : State) : State :=
  let s1 := advanceCount s
  match s1.sync.state with
  | .hunt => huntStep s1
  | .holdover => holdoverStep s1
  | .locked | .timing | .notRunning => s1

/-! ### Sync fields (R24, R29) -/

/-- R24: the sync fields are good when they carry the pattern and the own count. -/
def syncFieldsGood (s : State) (bits : BitVec 43) : Bool :=
  syncPatternOf bits == Config.syncPattern && some (syncCountOf bits) == s.sync.count

/-- R24: the sync check of a LOCKED station. -/
def syncCheck (bits : BitVec 43) (s : State) : State :=
  if syncFieldsGood s bits then
    let s1 := s.setBus { s.bus with syncGood := true }
    if s.sync.timingStation = some (syncStationOf bits) then s1
    else raiseSite .syncChange (s1.setSync { s1.sync with timingStation := some (syncStationOf bits) })
  else s.setBus { s.bus with syncGood := false }

/-- R29: one more timing readback mismatch; the second enters HUNT. -/
def readbackMiss (s : State) : State :=
  if s.sync.readbackRun + 1 < 2 then s.setSync { s.sync with readbackRun := s.sync.readbackRun + 1 }
  else enterHunt s

/-- R29: the timing station reads its sync fields back. -/
def timingReadback (bits : BitVec 43) (s : State) : State :=
  match s.bus.syncLatch with
  | none => s
  | some x => if x = bits then s.setSync { s.sync with readbackRun := 0 } else readbackMiss s

/-! ### Misses and the announcement, at slot received 7 (R24, R32) -/

/-- R24: one more miss; the third enters HOLDOVER. -/
def countMiss (s : State) : State :=
  let s1 := s.setSync { s.sync with missRun := capAdd s.sync.missRun 1 3 }
  if 3 ≤ s.sync.missRun + 1 then enterHoldover s1 else s1

def allPeersStale (s : State) : Bool := allStations.all fun k => !judgedFresh s k

/-- R24: the miss count of a LOCKED frame. -/
def missStep (s : State) : State :=
  if s.sync.state = .locked then
    if !s.bus.syncGood || allPeersStale s then countMiss s
    else s.setSync { s.sync with missRun := 0 }
  else s

/-- R32: the comparison of setup digests at the end of ANNOUNCE. A timing station compares with itself; a LOCKED
station takes the digest from the timing station's slot where that slot is FRESH. -/
def announceCompare (s : State) : State :=
  if s.member.join = .announce ∧ 16 ≤ s.member.announceRun then
    match s.sync.state with
    | .timing => setJoin .member s
    | .locked =>
      match s.sync.timingStation.bind (freshHeader s) with
      | some h => if some h.setupDigest = s.setup.digest then setJoin .member s else setJoin .mismatch s
      | none => s
    | .hunt | .holdover | .notRunning => s
  else s

/-! ### Presence table (R36, R37) -/

def putPresence (k : Station) (x : Presence) (s : State) : State :=
  let s' := s.setMember { s.member with presence := s.member.presence.set k x }
  if (s.member.presence.get k).state = x.state then s' else raiseSite .peerChange s'

/-- R36: the entry after a fresh slot with the join field given. -/
def Presence.fresh (e : Presence) (join : BitVec 3) : Presence :=
  if join = 1 then { e with staleRun := 0, freshRun := 0, state := .joining }
  else if join = 2 then
    { e with
      staleRun := 0
      freshRun := capAdd e.freshRun 1 4
      state := if 4 ≤ e.freshRun + 1 then .joined else e.state }
  else if join = 3 then { e with staleRun := 0, freshRun := 0, state := .mismatched }
  else { e with staleRun := 0, freshRun := 0 }

/-- A JOINING or JOINED entry at its sixteenth stale slot: the peer is lost (R37). -/
def Presence.losing (e : Presence) : Bool :=
  decide (16 ≤ e.staleRun + 1) && (e.state == .joining || e.state == .joined)

/-- R37: the entry after a stale slot, driven or not. -/
def Presence.stale (e : Presence) (driven : Bool) : Presence :=
  { state := if e.losing then .unseen else e.state
    freshRun := 0
    staleRun := capAdd e.staleRun 1 16
    bad := if driven then capAdd e.bad 1 65535 else e.bad }

def peerFresh (k : Station) (join : BitVec 3) (s : State) : State :=
  putPresence k ((s.member.presence.get k).fresh join) s

/-- R56: the four mirrors of a lost peer set to ABSENT. -/
def clearMirrors (k : Station) (s : State) : State :=
  s.setClaims { s.claims with mirrors := s.claims.mirrors.set k (.all .absent) }

/-- R37, R56: a stale slot; the loss of a JOINED peer is reported to the claim table. -/
def peerStale (k : Station) (driven : Bool) (s : State) : State :=
  let e := s.member.presence.get k
  let s1 := putPresence k (e.stale driven) s
  if e.losing && e.state == .joined then clearMirrors k s1 else s1

end Sys2Proof.Machine
end

