-- ==== Sys2Proof/Machine/Frame.lean ====
section
/-! DEFINITION. The work of a frame start (R2, R3, R4, R5, R10, R13, R32, R33, R40, R48, R53, R102, R125, R141, R151). -/

namespace Sys2Proof.Machine

/-- R10, R13, R24: what the bus engine sets at every frame start. -/
def newFrameBus (s : State) : State :=
  s.setBus
    { s.bus with
      judge := (Eight.all Judgement.stale).set (ownStation s) .own
      readback := .notDriven
      syncGood := false
      relockRest := false }

/-- R4: the own slot is driven in the frame. -/
def drivesSlot (s : State) : Bool :=
  syncActive s && (s.member.join == .announce || s.member.join == .member || s.member.join == .mismatch)

/-- R32, R33: the announce run and the standing at an own frame start, and the drive decision of R4. -/
def joinRuns (s : State) : State :=
  (s.setBus { s.bus with ownSlotDriven := drivesSlot s }).setMember
    { s.member with
      standing := if s.member.join = .member then capAdd s.member.standing 1 8 else s.member.standing
      announceRun := if s.member.join = .announce ∧ drivesSlot s = true then capAdd s.member.announceRun 1 16
        else s.member.announceRun }

/-- R3: the five flags of the own slot, IDENT_ACTIVE first. -/
def slotFlags (s : State) : BitVec 5 :=
  BitVec.ofBool s.air.identActive ++ BitVec.ofBool s.setup.clipReady ++ BitVec.ofBool (s.clamp.unclampCtr != 0)
    ++ BitVec.ofBool s.guard.on ++ BitVec.ofBool s.setup.rfSense

/-- R3: the records sent. -/
def slotRecords (s : State) : Four Record :=
  if s.member.join = .announce ∨ s.member.join = .mismatch then .all .absent
  else s.claims.desks.map OwnDesk.published

/-- R3: the content of the own slot. -/
def ownSlotOf (s : State) : OwnSlot where
  station := ownStation s
  join := s.member.join
  echo := s.sync.count.map echoOf
  setupDigest := s.setup.digest.getD 0
  viewDigest := s.claims.viewDigest
  causes := s.clamp.causes
  flags := slotFlags s
  recs := slotRecords s

/-- R3, R5, R141: the latches of the frame; a published unclamp order takes one from its counter. -/
def latchFrame (s : State) : State :=
  (s.setBus
    { s.bus with
      ownSlot := some (ownSlotOf s)
      syncLatch := if s.sync.state = .timing ∧ s.member.join ≠ .fenced then
          some (syncBits (ownCount s) (ownStation s)) else none }).setClamp
    { s.clamp with unclampCtr := s.clamp.unclampCtr - 1 }

/-- R48, R53: the claim table's and the air sequencer's work, a report taken before or after the publication. -/
def claimsAndAir (reportFirst : Bool) (s : State) : State :=
  if reportFirst then publishAll (barWork s (airFrame s)) else airFrame (publishAll (barWork s s))

/-- The work of a frame start after the frame timing's own. -/
def frameWork (reportFirst : Bool) (s : State) : State :=
  latchFrame (claimsAndAir reportFirst (guardFrameStart (dueStep (joinRuns (newFrameBus s)))))

/-- An own frame start (R19). -/
def frameStarts (reportFirst : Bool) (s : State) : State := frameWork reportFirst (timingStage s)

end Sys2Proof.Machine
end

