-- ==== Sys2Proof/Machine/FramePoints.lean ====
section
/-! DEFINITION. The work of the other frame points: sync fields, slots, key sample, snapshot complete, program received, sync pattern (R10 to R18, R21, R22, R49, R57, R142). -/

namespace Sys2Proof.Machine

/-- R24, R29: the sync fields received at bit time 42. -/
def syncFields (bits : BitVec 43) (s : State) : State :=
  match s.sync.state with
  | .locked => syncCheck bits s
  | .timing => timingReadback bits s
  | .hunt | .holdover | .notRunning => s

/-! ### Slot received -/

/-- R13: the own slot read back. -/
def readbackOf (s : State) (bits : BitVec 208) : Readback :=
  match s.bus.ownSlot, s.bus.ownSlotDriven with
  | some o, true => if slotBits o = bits then .good else .mismatch
  | _, _ => .notDriven

def ownSlotReceived (bits : BitVec 208) (s : State) : State :=
  s.setBus { s.bus with readback := readbackOf s bits }

/-- R12: the header kept of a fresh slot. -/
def headerOf (now : Count) (x : SlotIn) : Header :=
  ⟨x.join, x.setupDigest, x.viewDigest, x.causes, x.flags, now⟩

def putJudge (k : Station) (j : Judgement) (s : State) : State :=
  s.setBus { s.bus with judge := s.bus.judge.set k j }

/-- R55: the four mirrors of a station. -/
def putMirrors (k : Station) (recs : Four Record) (s : State) : State :=
  s.setClaims { s.claims with mirrors := s.claims.mirrors.set k recs }

/-- R11, R12, R36, R55: a fresh slot. -/
def freshSlot (k : Station) (x : SlotIn) (s : State) : State :=
  let s1 := putJudge k .fresh s
  putMirrors k x.recs (peerFresh k x.join
    (s1.setBus { s1.bus with headers := s1.bus.headers.set k (some (headerOf (ownCount s) x)) }))

/-- R11, R37: a stale slot; a bit that read zero makes it a driven one. -/
def staleSlot (k : Station) (bits : BitVec 208) (s : State) : State :=
  peerStale k (bits != BitVec.allOnes 208) (putJudge k .stale s)

/-- R24, R32: the checks at slot received 7, the misses first. -/
def lastSlotChecks (k : Station) (s : State) : State := if k = 7 then announceCompare (missStep s) else s

/-- R142: an own slot carried an unclamp order and came back good. -/
def ownOrder (s : State) : Bool :=
  s.bus.readback == .good && (match s.bus.ownSlot with
    | some o => o.join == .member && flagUnclampOrder o.flags
    | none => false)

/-- R142: a fresh slot of a MEMBER station carries an unclamp order. -/
def peerOrder (x : SlotIn) : Bool := x.join == 2 && flagUnclampOrder x.flags

/-- R142: a MEMBER station takes the order. -/
def takeOrder (order : Bool) (s : State) : State :=
  if order && s.member.join == .member then unclampReceipt s else s

/-- R10 to R13, R24, R32, R36, R37, R55, R142: slot received k. -/
def slotArrives (k : Station) (bits : BitVec 208) (s : State) : State :=
  if k = ownStation s then
    let s1 := lastSlotChecks k (ownSlotReceived bits s)
    takeOrder (ownOrder s1) s1
  else if slotFresh (ownCount s) k bits then
    takeOrder (peerOrder (slotOf bits)) (lastSlotChecks k (freshSlot k (slotOf bits) s))
  else lastSlotChecks k (staleSlot k bits s)

/-! ### Key sample -/

/-- R1, R15: the lines as sampled; a line the part itself asserts reads asserted. -/
def linesSeen (s : State) (keyl clampl rfon refl : Bool) : Lines :=
  ⟨keyl || s.bus.keylDrive, clampl || clamplDrive s, rfon, refl⟩

def keepSample (x : Lines) (s : State) : State :=
  s.setBus { s.bus with sampNow := x, sampPrev := s.bus.sampNow }

/-- R16, R49, R120: what a sample with CLAMPL asserted does. -/
def clampedSample (s : State) : State :=
  if s.bus.sampNow.clampl then endHoldings .clamped (airOff s) else s

/-- R15, R16, R49, R120, R139, R145, R147, R149: the key sample. -/
def keySampleWork (x : Lines) (s : State) : State :=
  reflectStep (noRfStep (stuckStep (settleStep (clampedSample (keepSample x s)))))

/-! ### Snapshot complete -/

/-- R14: the fence run of the frame. -/
def fenceRunNext (s : State) : Nat :=
  if s.member.join = .fenced then s.bus.fenceRun
  else
    match s.bus.readback with
    | .good => 0
    | .mismatch => if allPeersStale s then s.bus.fenceRun else capAdd s.bus.fenceRun 1 3
    | .notDriven => s.bus.fenceRun

/-- R35: the join states that FENCED is entered from. -/
def canFence (s : State) : Bool :=
  s.member.join == .announce || s.member.join == .member || s.member.join == .mismatch

/-- R14, R35: the bus engine reports FENCE at this snapshot complete. -/
def fenceReported (s : State) : Bool :=
  canFence s && s.bus.readback == .mismatch && !allPeersStale s && decide (3 ≤ s.bus.fenceRun + 1)

def putFenceRun (n : Nat) (s : State) : State := s.setBus { s.bus with fenceRun := n }

/-- Stages 1 to 6 of R57 and the identification unit's work, the latter before or after the floor decisions. -/
def snapshotAndIdent (fenceNow identFirst : Bool) (s : State) : State :=
  let s1 := snapshotStages s
  if identFirst then floorDecisions fenceNow (identWork s1) else identWork (floorDecisions fenceNow s1)

/-- R66: the snapshot work after a FENCE report taken first. A timing station is in HUNT then and forms no snapshot (R2). -/
def afterFence (identFirst : Bool) (s : State) : State :=
  if s.sync.state = .hunt then s else snapshotAndIdent true identFirst s

/-- The work of a snapshot complete at which FENCE is reported (R14, R66). -/
def snapshotWithFence (order : FenceOrder) (identFirst : Bool) (s : State) : State :=
  match order with
  | .first => afterFence identFirst (enterFenced s)
  | .beforeIdent =>
    if identFirst then enterFenced (snapshotAndIdent true true s)
    else identWork (enterFenced (floorDecisions true (snapshotStages s)))
  | .last => enterFenced (snapshotAndIdent true identFirst s)

/-- R14, R57, R65, R128, R143: snapshot complete. -/
def snapshotWork (order : FenceOrder) (identFirst : Bool) (s : State) : State :=
  let s1 := putFenceRun (fenceRunNext s) s
  orphanStep (if fenceReported s then snapshotWithFence order identFirst s1 else snapshotAndIdent false identFirst s1)

/-! ### Program received -/

/-- R18: a field's desk is the one of a seat. -/
def namesSeat (p : ProgField) (x : Seat) : Bool :=
  p.station.toNat == x.station.val && p.desk.toNat == x.desk.val

/-- R18: the field is that of the previous snapshot's holder, no longer HOLDING. -/
def lastVoice (s : State) (p : ProgField) : Bool :=
  match holderOf s.claims.prev.count s.claims.prev.recs with
  | some x => namesSeat p x && ((s.claims.snap.recs.get x.station).get x.desk).state != .holding
  | none => false

/-- R18: a good VOICE field that does not name the snapshot's holder. -/
def programMismatch (s : State) (result : ProgResult) (p : ProgField) : Bool :=
  result == .good && p.kind == kindVoice && memberActive s
    && !(match snapHolder s with | some h => namesSeat p h | none => false) && !lastVoice s p

def mismatchStep (result : ProgResult) (p : ProgField) (s : State) : State :=
  if programMismatch s result p then
    raiseSite .programMismatch (s.setBus { s.bus with mismatchCount := capAdd s.bus.mismatchCount 1 65535 })
  else s

/-- R17, R18, R124, R126, R146: program received. -/
def programWork (bits : BitVec 168) (s : State) : State :=
  let result := classify (ownCount s) bits
  programStep (identProgram result (progOf bits)
    (mismatchStep result (progOf bits) (s.setBus { s.bus with progResult := result })))

/-! ### Relock search -/

/-- R22: a pattern found sets the hunt run to 0. -/
def patternSeen (s : State) : State :=
  if s.sync.state = .hunt then s.setSync { s.sync with huntRun := 0 } else s

/-- R21, R22, R23: the search finds the sync pattern. -/
def patternFound (pos : BitVec 11) (c : Count) (t : Station) (s : State) : State :=
  if follows s pos c t then relock c t (patternSeen s) else holdCandidate pos c t (patternSeen s)

end Sys2Proof.Machine
end

