-- ==== Sys2Proof/Machine/Points.lean ====
section
/-! DEFINITION. The meanings of the frame points and of the findings of the relock search (R2, R19, R21). A point that the part does not signal in its state changes nothing. -/

namespace Sys2Proof.Machine

/-- Work taken only where its point is signalled. -/
def whenRuns (runs : Bool) (work : State → State) (s : State) : State := if runs then work s else s

def execFrameStart (reportFirst : Bool) (s : State) : Out := .next (whenRuns (frameRuns s) (frameStarts reportFirst) s)

/-- R24, R29: bit times 0 to 42 are received in every frame but the rest of a relock frame. -/
def execSyncFieldsReceived (bits : BitVec 43) (s : State) : Out := .next (whenRuns (sampleRuns s) (syncFields bits) s)

def execSlotReceived (k : Station) (bits : BitVec 208) (s : State) : Out :=
  .next (whenRuns (pointsRun s) (slotArrives k bits) s)

def execKeySample (keyl clampl rfon refl : Bool) (s : State) : Out :=
  .next (whenRuns (sampleRuns s) (keySampleWork (linesSeen s keyl clampl rfon refl)) s)

def execSnapshotComplete (fence : FenceOrder) (identFirst : Bool) (s : State) : Out :=
  .next (whenRuns (pointsRun s) (snapshotWork fence identFirst) s)

def execProgramReceived (bits : BitVec 168) (s : State) : Out := .next (whenRuns (pointsRun s) (programWork bits) s)

def execSyncPatternFound (pos : BitVec 11) (c : Count) (t : Station) (s : State) : Out :=
  .next (whenRuns (searching s) (patternFound pos c t) s)

/-- R21: a candidate whose 2048 bit times run out is dropped. -/
def execRelockCandidateDropped (pos : BitVec 11) (s : State) : Out := .next (whenRuns (searching s) (dropCandidate pos) s)

/-- R21, R23, R26: the test passes where the finding follows a held candidate. -/
def execRelockTestPassed (pos : BitVec 11) (c : Count) (t : Station) (s : State) : Out :=
  .next (whenRuns (searching s && follows s pos c t) (fun s => relock c t (patternSeen s)) s)

end Sys2Proof.Machine
end

