-- ==== Sys2Proof/Machine/Limits.lean ====
section
/-! DEFINITION. The meanings of the rows that name a run reaching its limit or a condition being met. Each is the counted step that reaches the limit, with the work its rules give; where the step would not reach it the state is unchanged (log 5). -/

namespace Sys2Proof.Machine

/-! ### Sync and membership runs (chapter 2) -/

/-- R22: the next own frame start brings the hunt run to its limit. -/
def huntReaches (s : State) : Bool :=
  frameRuns s && s.sync.state == .hunt && reaches s.sync.huntRun (Config.huntLimit (ownStation s))

def execHuntWaitExpired (s : State) : Out := .next (whenRuns (huntReaches s) timingStage s)

/-- R27. -/
def holdoverReaches (s : State) : Bool :=
  frameRuns s && s.sync.state == .holdover && reaches s.sync.holdoverRun (Config.holdoverLimit (ownStation s))

def execHoldoverWaitExpired (s : State) : Out := .next (whenRuns (holdoverReaches s) timingStage s)

/-- R24: one more miss is the third. -/
def missReaches (s : State) : Bool := pointsRun s && s.sync.state == .locked && reaches s.sync.missRun 3

def execMissRunLimit (s : State) : Out := .next (whenRuns (missReaches s) countMiss s)

/-- R29: one more difference is the second, in a frame whose sync fields are driven. -/
def readbackReaches (s : State) : Bool :=
  sampleRuns s && s.sync.state == .timing && s.bus.syncLatch.isSome && reaches s.sync.readbackRun 2

def execTimingReadbackLimit (s : State) : Out := .next (whenRuns (readbackReaches s) readbackMiss s)

/-- R14: one more counted mismatch is the third. -/
def fenceReaches (s : State) : Bool := pointsRun s && canFence s && reaches s.bus.fenceRun 3

/-- R14, R35, and the first line of R143 at the same snapshot complete. -/
def fenceEvent (s : State) : State := orphanStep (enterFenced (putFenceRun 3 s))

def execFence (s : State) : Out := .next (whenRuns (fenceReaches s) fenceEvent s)

/-- R32. -/
def execAnnounceComplete (s : State) : Out := .next (whenRuns (pointsRun s) announceCompare s)

/-- R36: the fourth fresh MEMBER slot of a peer that is not JOINED. -/
def joinReaches (k : Station) (s : State) : Bool :=
  pointsRun s && k != ownStation s && reaches (s.member.presence.get k).freshRun 4
    && (s.member.presence.get k).state != .joined

def execPeerJoined (k : Station) (s : State) : Out := .next (whenRuns (joinReaches k s) (peerFresh k 2) s)

/-- R37: the sixteenth stale slot of a peer that is JOINING or JOINED. -/
def lossReaches (k : Station) (s : State) : Bool :=
  pointsRun s && k != ownStation s && (s.member.presence.get k).losing

def execPeerLost (k : Station) (driven : Bool) (s : State) : Out := .next (whenRuns (lossReaches k s) (peerStale k driven) s)

/-! ### Claim table (chapters 3 and 4) -/

/-- R51. -/
def execWaitExpiry (s : State) : Out := .next (whenRuns (pointsRun s) expireWaits s)

/-- R77. -/
def execTimeLimit (s : State) : Out := .next (whenRuns (pointsRun s) applyTimeLimit s)

/-- R78, R144. -/
def execTotenf (s : State) : Out := .next (whenRuns (pointsRun s) (enforceTot false) s)

/-- R61, R79: one more split frame is the eighth. -/
def splitReaches (s : State) : Bool := pointsRun s && memberActive s && reaches s.claims.splitRun 8

def splitEvent (s : State) : State :=
  releaseSplit (raiseSite .split (s.setClaims { s.claims with splitRun := 8 }))

def execSplitRelease (s : State) : Out := .next (whenRuns (splitReaches s) splitEvent s)

/-- R53, R54: the next frame start lifts the bar of desk d. -/
def barLifts (d : Desk) (s : State) : Bool :=
  frameRuns s && barDone s { getDesk s d with barRun := capAdd (getDesk s d).barRun 1 s.setup.coolOff }

def execBarLifted (d : Desk) (s : State) : Out := .next (whenRuns (barLifts d s) (barStep d) s)

/-! ### Air sequencer (chapter 6): the decision of a frame start at which the event arises

A row runs the decision of the state the sequencer is in. A start, an identification or a withdrawal that is pending, which a
frame start takes first (R102, R133), is passed over: the model's choice (log 36). -/

/-- R107. -/
def leadDone (s : State) : Bool := s.air.state == .lead && decide (s.setup.lead ≤ s.air.leadRun)

/-- R107. With a withdrawal due at the end of a tail identification's LEAD the row still enters IDENT, where a frame start would
go OFF (R133); with other work pending it is passed over too: the model's choice (log 36). -/
def execLeadEnd (s : State) : Out := .next (whenRuns (frameRuns s && leadDone s) airDecide s)

/-- A test of the serving desk while the sequencer is in a state. -/
def servingIn (x : AirState) (test : State → Desk → Bool) (s : State) : Bool :=
  s.air.state == x && (match s.air.serving with | some d => test s d | none => false)

/-- R108; pending work is passed over (log 36). -/
def execPrimeToOn (s : State) : Out := .next (whenRuns (frameRuns s && servingIn .prime primeTest s) airDecide s)

def choosesGap (s : State) (d : Desk) : Bool := cellChoice s d == .declareGap

/-- R110; pending work is passed over (log 36). -/
def execGapDeclared (s : State) : Out := .next (whenRuns (frameRuns s && servingIn .on choosesGap s) airDecide s)

/-- The cell that the choice of R109 plays, none for a FILL frame. -/
def nextPlayed (s : State) (d : Desk) : Option Played :=
  match cellChoice s d with
  | .playCell => (getQueue s d).play
  | .startHead => (getQueue s d).startHead.play
  | .declareGap => (getQueue s d).declareGap.startHead.play
  | .emptyQueue | .waitForBlock => none

/-- R111: that cell is the last of a release-after block. -/
def finishesOver (s : State) (d : Desk) : Bool :=
  match nextPlayed s d with
  | some p => p.releaseAfterDone
  | none => false

/-- R111; pending work is passed over (log 36). -/
def execReleaseAfterDone (s : State) : Out := .next (whenRuns (frameRuns s && servingIn .on finishesOver s) airDecide s)

/-- R112. -/
def drainDone (s : State) (d : Desk) : Bool := cellChoice s d == .emptyQueue && draining s d

/-- R112; pending work is passed over (log 36). -/
def execDrainComplete (s : State) : Out := .next (whenRuns (frameRuns s && servingIn .on drainDone s) airDecide s)

/-- R113: a FILL frame in ON that counts toward starvation. -/
def onStarves (s : State) (d : Desk) : Bool :=
  (cellChoice s d == .emptyQueue && !draining s d) || cellChoice s d == .waitForBlock

def primeStarves (s : State) (d : Desk) : Bool := !primeTest s d

/-- R113: the next FILL frame brings the starvation run to silence_hold. -/
def starvationReaches (s : State) : Bool :=
  (servingIn .on onStarves s || servingIn .prime primeStarves s) && decide (s.setup.silenceHold ≤ s.air.starveRun + 1)

/-- R113; pending work is passed over (log 36). -/
def execStarvation (s : State) : Out := .next (whenRuns (frameRuns s && starvationReaches s) airDecide s)

/-- R116. -/
def tailDone (s : State) : Bool := s.air.state == .tail && decide (s.setup.tail ≤ s.air.tailRun)

/-- R116; pending work is passed over (log 36). -/
def execTailEnd (s : State) : Out := .next (whenRuns (frameRuns s && tailDone s) airDecide s)

/-- R118. -/
def identDone (s : State) : Bool := s.air.state == .ident && decide (clipCells s ≤ s.ident.clipIndex)

/-- R118; pending work other than a start that R106 keeps for the end of IDENT is passed over (log 36). -/
def execIdentEnd (s : State) : Out := .next (whenRuns (frameRuns s && identDone s) airDecide s)

/-! ### Identification unit (chapter 7) -/

/-- R124: one more voice frame brings A to the interval. -/
def dueReaches (s : State) : Bool :=
  pointsRun s && s.member.join == .member && !s.ident.due && decide (interval s ≤ s.ident.a + 1)

/-- R124, R126. -/
def execIdDue (holder : Station) (s : State) : Out :=
  .next (whenRuns (dueReaches s) (voiceReceived (BitVec.ofNat 3 holder.val)) s)

/-- R125. -/
def overdueReaches (s : State) : Bool :=
  frameRuns s && s.ident.due && !s.ident.overdue && reaches s.ident.dueAge Config.overdueAge

def execIdOverdue (s : State) : Out := .next (whenRuns (overdueReaches s) dueStep s)

/-- R128, R132: one more quiet frame brings the tail-wait run to tail_wait. -/
def tailWaitReaches (s : State) : Bool :=
  pointsRun s && tailWaitCounts s && reaches s.ident.tailWait s.setup.tailWait

def execTailWaitComplete (s : State) : Out :=
  .next (whenRuns (tailWaitReaches s) (fun s => considerTail (tailWaitStep s)) s)

/-! ### Clamp unit (chapter 8), on the samples, the snapshot and the program result kept -/

/-- R143. -/
def orphanReaches (s : State) : Bool := pointsRun s && orphanCounts s && reaches s.clamp.orphanRun (orphanLimit s)

def execOrphan (s : State) : Out := .next (whenRuns (orphanReaches s) orphanStep s)

/-- R145. -/
def stuckReaches (s : State) : Bool :=
  sampleRuns s && s.setup.rfSense && stuckCounts s && reaches s.clamp.stuckRun Config.watchLimit

def execStuck (s : State) : Out := .next (whenRuns (stuckReaches s) stuckStep s)

/-- R146. -/
def programReaches (s : State) : Bool := pointsRun s && programCounts s && reaches s.clamp.progRun Config.watchLimit

def execProgramRunLimit (s : State) : Out := .next (whenRuns (programReaches s) programStep s)

/-- R147. -/
def noRfReaches (s : State) : Bool :=
  sampleRuns s && s.setup.rfSense && noRfCounts s && reaches s.clamp.noRfRun (noRfLimit s)

def execNoRf (s : State) : Out := .next (whenRuns (noRfReaches s) noRfStep s)

/-- R149: the second asserted sample in a row. -/
def reflectSets (s : State) : Bool :=
  sampleRuns s && s.guard.on && !causeSet s .reflect && s.bus.sampNow.refl && reaches s.clamp.reflSet 2

def execReflectSet (s : State) : Out := .next (whenRuns (reflectSets s) reflectStep s)

/-- R149: the hundredth negated sample in a row. -/
def reflectClears (s : State) : Bool :=
  sampleRuns s && s.guard.on && causeSet s .reflect && !s.bus.sampNow.refl && reaches s.clamp.reflClear 100

def execReflectClear (s : State) : Out := .next (whenRuns (reflectClears s) reflectStep s)

/-- R139. -/
def settleReaches (s : State) : Bool :=
  sampleRuns s && !s.bus.sampNow.clampl && s.clamp.seen == .settling && reaches s.clamp.settleRun Config.settleSamples

def execSettleComplete (s : State) : Out := .next (whenRuns (settleReaches s) settleStep s)

/-! ### Guard meter (8.7) -/

/-- R151: the next own frame start begins a cycle. -/
def cycleBegins (s : State) : Bool :=
  frameRuns s && s.guard.on && (s.guard.beginDue
    || (decide (Config.cycleFrames ≤ s.guard.since + 1) && s.guard.phase == .idle))

def execGuardCycleBegin (s : State) : Out := .next (whenRuns (cycleBegins s) guardFrameStart s)

/-- R152. -/
def execChargePhaseEnd (gcmpAbove : Bool) (s : State) : Out := .next (chargeEnds gcmpAbove s)

/-- R153. -/
def execDischargeEnd (ticks : Nat) (s : State) : Out := .next (dischargeEnds ticks s)

def execDischargeOverflow (s : State) : Out := .next (dischargeOverflows s)

/-- R155: the last ratio, read once more, is the second at or below heat_trip. -/
def heatReaches (s : State) : Option Nat :=
  match s.guard.ratio with
  | some r => if s.guard.on && decide (r ≤ s.setup.heatTrip) && reaches s.guard.heatRun 2 then some r else none
  | none => none

def heatEvent (s : State) : State :=
  match heatReaches s with
  | some r => heatStep r s
  | none => s

def execHeatSet (s : State) : Out := .next (heatEvent s)

end Sys2Proof.Machine
end

