-- ==== Sys2Proof/Machine/Link.lean ====
section
/-! DEFINITION. The SPI link: responses, transactions, how a request is taken and answered (R165 to R169). -/

namespace Sys2Proof.Machine

/-- Codes of Table 10-3. -/
def Status.code : Status → Byte
  | .ok => 0
  | .badRequest => 1
  | .notReady => 2
  | .setupClosed => 3
  | .badField => 4
  | .badValue => 5
  | .noDesk => 6
  | .notOpen => 7
  | .already => 8
  | .notJoined => 9
  | .barred => 10
  | .full => 11
  | .late => 12
  | .duplicate => 13
  | .notControl => 14
  | .fenced => 15

/-- A flag word or a mask in two bytes (R171). -/
def wordBytes {w : Nat} (x : BitVec w) : List Byte := bytes16 (x.setWidth 16)

/-- Table 10-1: the bytes of a response, with the summary as it stands at the CSL assertion (R168). -/
def responseBytes (s : State) (r : Response) : List Byte :=
  r.status.code :: summary s :: (bytes16 (BitVec.ofNat 16 r.body.length) ++ r.body)

/-- R165: what MISO shifts in a transaction of n bytes. -/
def shifted (s : State) (n : Nat) (inBusyWindow : Bool) : List Byte :=
  match s.link.response, inBusyWindow with
  | some r, false => (responseBytes s r ++ List.replicate n 0xFF).take n
  | _, _ => List.replicate n 0xFF

/-- R168: a read that clocks the whole response empties the buffer. -/
def afterRead (s : State) (n : Nat) (inBusyWindow : Bool) : Option Response :=
  match s.link.response with
  | some r => if !inBusyWindow && decide (4 + r.body.length ≤ n) then none else some r
  | none => none

/-- R165, R167, R168: a read transaction of n bytes. -/
def readWork (n : Nat) (inBusyWindow : Bool) (s : State) : State :=
  if linkUp s && decide (0 < n) then
    s.setLink { s.link with response := afterRead s n inBusyWindow, miso := shifted s n inBusyWindow }
  else s

/-- The state a request leaves and its answer. -/
structure Answer where
  state : State
  status : Status
  body : List Byte

def Answer.ok (s : State) : Answer := ⟨s, .ok, []⟩

def Answer.refuse (st : Status) (s : State) : Answer := ⟨s, st, []⟩

/-- R165, R167, R168: a request with n body bytes is taken and its response formed. MISO shifts what was pending at its CSL
assertion, or ones where that fell in the busy window of an earlier request. -/
def takeRequest (inBusyWindow : Bool) (n : Nat) (act : State → Answer) (s : State) : State :=
  if linkUp s then
    let a := act s
    a.state.setLink { a.state.link with response := some ⟨a.status, a.body⟩, miso := shifted s (4 + n) inBusyWindow }
  else s

/-- R169 stage 2: a selector that is a desk. -/
def forDesk (sel : Byte) (act : Desk → State → Answer) (s : State) : Answer :=
  if h : sel.toNat < 4 then act ⟨sel.toNat, h⟩ s else .refuse .noDesk s

end Sys2Proof.Machine
end

