-- ==== Sys2Proof/Machine/DeskRequests.lean ====
section
/-! DEFINITION. The desk requests, the clamp requests, the event requests and MASK (R42 to R45, R89, R91, R97, R140, R141, R174, R177, R178). -/

namespace Sys2Proof.Machine

/-- A class byte (Table 10-2). -/
def classOf (b : Byte) : Option Cls :=
  if b = 0 then some .normal else if b = 1 then some .control else none

/-! ### Claim table -/

def OwnDesk.opened (o : OwnDesk) (c : Cls) : OwnDesk :=
  { o with record := ⟨.idle, c, .noReason, 0⟩, drain := false, barRun := 0, ack := false }

/-- R42. -/
def openRequest (cls : Byte) (d : Desk) (s : State) : Answer :=
  if !s.setup.closed then .refuse .notReady s
  else if !deskEnabled s d then .refuse .noDesk s
  else
    match classOf cls with
    | none => .refuse .badValue s
    | some c =>
      if (getDesk s d).record.state ≠ .absent then .refuse .already s
      else .ok (resetQueue d (setDesk s d ((getDesk s d).opened c)))

def OwnDesk.claimed (o : OwnDesk) : OwnDesk :=
  { o with record := { o.record with state := .waiting, reason := .noReason }, stampSet := false }

/-- R43. -/
def claimRequest (d : Desk) (s : State) : Answer :=
  let st := (getDesk s d).record.state
  if !s.setup.closed then .refuse .notReady s
  else if s.member.join = .fenced then .refuse .fenced s
  else if st = .absent then .refuse .notOpen s
  else if st = .waiting ∨ st = .holding then .refuse .already s
  else if st = .barred then .refuse .barred s
  else if s.member.join = .member ∧ s.member.standing = 8 then .ok (setDesk s d (getDesk s d).claimed)
  else .refuse .notJoined s

/-- R44: what a RELEASE does to an open desk. -/
def releaseDesk (drain : Bool) (d : Desk) (s : State) : Answer :=
  match (getDesk s d).record.state with
  | .absent => .refuse .notOpen s
  | .idle | .barred => .refuse .already s
  | .waiting => .ok (withdraw d .released s)
  | .holding =>
    if drain then .ok (setDesk s d { getDesk s d with drain := true }) else .ok (endHolding d .released s)

/-- R44: the mode is examined before the close, in the order of the rule. -/
def releaseRequest (mode : Byte) (d : Desk) (s : State) : Answer :=
  if mode ≠ 0 ∧ mode ≠ 1 then .refuse .badValue s
  else if !s.setup.closed then .refuse .notReady s
  else releaseDesk (mode == 1) d s

/-- R45 step 4. -/
def OwnDesk.closed (o : OwnDesk) : OwnDesk :=
  { o with record := .absent, drain := false, barRun := 0, ack := false }

/-- R45 steps 1 to 3: any holding or wait of the desk is ended with CLOSED. -/
def endForClose (d : Desk) (s : State) : State := withdraw d .closed (endHolding d .closed s)

/-- R45. -/
def closeDeskWork (d : Desk) (s : State) : State :=
  let s1 := endForClose d s
  clearDeskFlags d (flushDesk d (setDesk s1 d (getDesk s1 d).closed))

def closeDeskRequest (d : Desk) (s : State) : Answer :=
  if !s.setup.closed then .refuse .notReady s
  else if (getDesk s d).record.state = .absent then .refuse .notOpen s
  else .ok (closeDeskWork d s)

/-! ### Playout pool -/

/-- The body of a PUSH answer (R169): queued blocks and queued cells after the request. -/
def pushAnswer (st : Status) (d : Desk) (s : State) : Answer :=
  ⟨s, st, numBytes 1 (getQueue s d).queue.length ++ numBytes 2 (getQueue s d).cells⟩

/-- R91: the queue has no room for n more cells in one more block. -/
def queueFull (s : State) (d : Desk) (n : Nat) : Bool :=
  decide (Config.maxBlocks < (getQueue s d).queue.length + 1) || decide (quotaOf s d < (getQueue s d).cells + n)

/-- R91, R92. -/
def pushRequest (n : Seq) (releaseAfter : Bool) (cells : List Cell) (d : Desk) (s : State) : Answer :=
  let q := getQueue s d
  if !s.setup.closed then pushAnswer .notReady d s
  else if cells.length < 1 ∨ Config.maxCells < cells.length then pushAnswer .badValue d s
  else if s.member.join = .fenced then pushAnswer .fenced d s
  else if (getDesk s d).record.state = .absent then pushAnswer .notOpen d s
  else if (getDesk s d).record.state = .barred then pushAnswer .barred d s
  else if q.holds n then pushAnswer .duplicate d (setQueue d { q with duplicate := count16 q.duplicate } s)
  else if q.isLate n then pushAnswer .late d (setQueue d { q with late := count16 q.late } s)
  else if queueFull s d cells.length then pushAnswer .full d (setQueue d { q with full := count16 q.full } s)
  else pushAnswer .ok d (acceptBlock d n cells releaseAfter s)

/-- R97. -/
def flushRequest (d : Desk) (s : State) : Answer :=
  if !s.setup.closed then .refuse .notReady s
  else if (getDesk s d).record.state = .absent then .refuse .notOpen s
  else .ok (flushDesk d s)

/-- R89. -/
def trimRequest (value : Byte) (d : Desk) (s : State) : Answer :=
  if !s.setup.closed then .refuse .notReady s
  else if 15 < value.toNat then .refuse .badValue s
  else if (getDesk s d).record.state = .absent then .refuse .notOpen s
  else .ok (setQueue d { getQueue s d with trim := value.setWidth 4 } s)

/-! ### Clamp unit -/

/-- R140: desk d is open and of class CONTROL. -/
def openControl (s : State) (d : Desk) : Bool :=
  (getDesk s d).record.state != .absent && (getDesk s d).record.cls == .control

def clampRequest (d : Desk) (s : State) : Answer :=
  if !s.setup.closed then .refuse .notReady s
  else if !openControl s d then .refuse .notControl s
  else .ok (setCause .operator s)

/-- R141. -/
def unclampRequest (d : Desk) (s : State) : Answer :=
  if !s.setup.closed then .refuse .notReady s
  else if !openControl s d then .refuse .notControl s
  else .ok (s.setClamp { s.clamp with unclampCtr := 4 })

/-! ### Events and masks -/

/-- R54: the starvation acknowledgment of a BARRED desk, and the test of its bar. -/
def acknowledge (d : Desk) (s : State) : State :=
  if (getDesk s d).record.state = .barred then testBar d (setDesk s d { getDesk s d with ack := true }) else s

/-- R177. -/
def deskEventsRequest (d : Desk) (s : State) : Answer :=
  ⟨acknowledge d (clearDeskFlags d s), .ok, wordBytes (s.link.deskFlags.get d)⟩

/-- R178. -/
def siteEventsRequest (s : State) : Answer := ⟨clearSiteFlags s, .ok, wordBytes s.link.siteFlags⟩

def putDeskMask (d : Desk) (x : BitVec 6) (s : State) : State :=
  s.setLink { s.link with deskMasks := s.link.deskMasks.set d x }

def putSiteMask (x : BitVec 11) (s : State) : State := s.setLink { s.link with siteMask := x }

/-- R174 for a desk: no bit above the six flags. -/
def deskMaskRequest (word : Word16) (d : Desk) (s : State) : Answer :=
  if word.toNat < 64 then ⟨putDeskMask d (word.setWidth 6) s, .ok, bytes16 word⟩ else .refuse .badValue s

/-- R174 for the site: no bit above the eleven flags. -/
def siteMaskRequest (word : Word16) (s : State) : Answer :=
  if word.toNat < 2048 then ⟨putSiteMask (word.setWidth 11) s, .ok, bytes16 word⟩ else .refuse .badValue s

/-- R169, R174. -/
def maskRequest (sel : Byte) (word : Word16) (s : State) : Answer :=
  if sel = 4 then siteMaskRequest word s else forDesk sel (deskMaskRequest word) s

end Sys2Proof.Machine
end

