-- ==== Sys2Proof/Machine/Reports.lean ====
section
/-! DEFINITION. The reports of the link (R62, R100, R121, R135, R156, R162, R179 to R182, Table 10-6). -/

namespace Sys2Proof.Machine

/-! ### Encodings (R179) -/

def byteOf (n : Nat) : List Byte := numBytes 1 n
def markByte (b : Bool) : List Byte := [if b then 1 else 0]
def ones (n : Nat) : List Byte := List.replicate n 0xFF

/-- A value of n bytes that may be absent, all ones being no value of it. -/
def orOnes (n : Nat) (x : Option Nat) : List Byte :=
  match x with
  | some v => numBytes n v
  | none => ones n

/-- A value of n bytes behind a presence byte. -/
def orAbsent (n : Nat) (x : Option Nat) : List Byte :=
  match x with
  | some v => 1 :: numBytes n v
  | none => 0 :: ones n

/-- A desk s.d. -/
def deskBytes (k : Station) (d : Desk) : List Byte := byteOf k.val ++ byteOf d.val

/-! ### Positions of named values in the lists of their tables (R179) -/

def ResetCause.pos : ResetCause → Nat
  | .powerOn => 0
  | .brownOut => 1
  | .pin => 2

/-- HUNT, LOCKED, HOLDOVER, TIMING; a machine that is not running has none of them. -/
def SyncState.pos : SyncState → Option Nat
  | .notRunning => none
  | .hunt => some 0
  | .locked => some 1
  | .holdover => some 2
  | .timing => some 3

def JoinState.pos : JoinState → Nat
  | .unset => 0
  | .listen => 1
  | .announce => 2
  | .member => 3
  | .mismatch => 4
  | .fenced => 5

def PeerState.pos : PeerState → Nat
  | .unseen => 0
  | .joining => 1
  | .joined => 2
  | .mismatched => 3

def ProgResult.pos : ProgResult → Nat
  | .nothing => 0
  | .undriven => 1
  | .error => 2
  | .good => 3

def ClampSeen.pos : ClampSeen → Nat
  | .clamped => 0
  | .settling => 1
  | .clear => 2

def AirState.pos : AirState → Nat
  | .off => 0
  | .lead => 1
  | .prime => 2
  | .on => 3
  | .ident => 4
  | .tail => 5

def Purpose.pos : Purpose → Nat
  | .desk => 0
  | .tailIdent => 1

def IdentKind.pos : IdentKind → Nat
  | .interval => 0
  | .tail => 1

def IdentPhase.pos : IdentPhase → Nat
  | .nothing => 0
  | .ordered => 1
  | .lead => 2
  | .playing => 3

def Verdict.pos : Verdict → Nat
  | .notActive => 0
  | .frozenStale => 1
  | .frozenSplit => 2
  | .clampSettling => 3
  | .occupied => 4
  | .keyGap => 5
  | .noClaim => 6
  | .grant => 7

def GuardPhase.pos : GuardPhase → Nat
  | .off => 0
  | .idle => 1
  | .chargeRef => 2
  | .dischargeRef => 3
  | .chargeMeas => 4
  | .dischargeMeas => 5

/-! ### DESK_STATUS (R180) -/

def recordReport (r : Record) : List Byte :=
  byteOf r.state.code ++ byteOf r.cls.code ++ byteOf r.reason.code ++ numBytes 3 r.stamp.toNat

/-- R62. -/
def deskClaimReport (s : State) (d : Desk) : List Byte :=
  let o := getDesk s d
  recordReport o.record ++ markByte o.stampSet ++ orOnes 3 (deskAge s o) ++ markByte o.drain
    ++ markByte o.endPub.isSome ++ recordReport o.published ++ numBytes 2 o.barRun ++ markByte o.ack

def serves (s : State) (d : Desk) : Bool := s.air.serving == some d

/-- The voice sent mark reported for the desk is a free value: the desk is not served, and the setup is closed (log 18). -/
def reportsFreeMark (s : State) (d : Desk) : Bool := s.setup.closed && !serves s d

/-- R121. A desk that is not served reads OFF. Its voice sent mark is a free value after the close, and before it the value
after reset, not set (section 10.8, Table 6-2). -/
def deskAirReport (s : State) (d : Desk) : List Byte :=
  if serves s d then byteOf s.air.state.pos ++ markByte s.air.voiceSent
  else byteOf AirState.off.pos ++ markByte (reportsFreeMark s d && Config.freeVoiceMark s.freeIx)

/-- A block as the report gives it: its sequence behind a presence byte, and a count of cells. -/
def blockReport (x : Option (Seq × Nat)) : List Byte :=
  match x with
  | some (q, n) => 1 :: (bytes16 q ++ byteOf n)
  | none => 0 :: ones 3

def headBlock (q : DeskQueue) : Option (Seq × Nat) := q.queue.head?.map fun b => (b.seq, b.cells.length)

def currentBlock (q : DeskQueue) : Option (Seq × Nat) := q.current.map fun c => (c.seq, c.rest.length)

/-- R100, for a desk. What a desk outside desk_enable reports after the close, where R86 gives it no queue and R87 no playout
state, is the model's choice: the values after reset of Table 5-1 (log 33), and no quota (log 17). -/
def deskPoolReport (s : State) (d : Desk) : List Byte :=
  let q := getQueue s d
  byteOf q.queue.length ++ numBytes 2 q.cells ++ orOnes 2 (s.pool.quota.get d)
    ++ blockReport (headBlock q) ++ blockReport (currentBlock q)
    ++ orAbsent 2 (q.cursor.map BitVec.toNat) ++ byteOf q.trim.toNat ++ markByte q.hasReleaseAfter
    ++ numBytes 2 q.accepted ++ numBytes 2 q.played ++ numBytes 2 q.duplicate ++ numBytes 2 q.late
    ++ numBytes 2 q.full ++ numBytes 2 q.gap

def deskStatusBody (s : State) (d : Desk) : List Byte :=
  deskClaimReport s d ++ deskAirReport s d ++ deskPoolReport s d
    ++ wordBytes (s.link.deskFlags.get d) ++ wordBytes (s.link.deskMasks.get d)

/-! ### SITE_STATUS (R181, Table 10-6) -/

def setupReport (s : State) : List Byte :=
  byteOf s.setup.resetCause.pos ++ markByte s.setup.closed ++ orAbsent 2 (s.setup.digest.map BitVec.toNat)
    ++ byteOf s.setup.station.val ++ byteOf s.setup.settle.val

def syncReport (s : State) : List Byte :=
  orOnes 1 s.sync.state.pos ++ orAbsent 3 (s.sync.count.map BitVec.toNat) ++ orOnes 1 (s.sync.timingStation.map Fin.val)
    ++ byteOf s.sync.missRun ++ byteOf s.sync.huntRun ++ byteOf s.sync.holdoverRun ++ byteOf s.sync.readbackRun

def joinReport (s : State) : List Byte :=
  byteOf s.member.join.pos ++ byteOf s.member.announceRun ++ byteOf s.member.standing ++ byteOf s.bus.fenceRun

def presenceReport (s : State) (k : Station) : List Byte :=
  let e := s.member.presence.get k
  if k = ownStation s then ones 5
  else byteOf e.state.pos ++ byteOf e.freshRun ++ byteOf e.staleRun ++ numBytes 2 e.bad

def headerReport (s : State) (k : Station) : List Byte :=
  match (if k = ownStation s then none else s.bus.headers.get k) with
  | some h => 1 :: (numBytes 3 h.arrival.toNat ++ byteOf h.join.toNat ++ bytes16 h.setupDigest ++ bytes16 h.viewDigest
      ++ [h.causes] ++ byteOf h.flags.toNat)
  | none => 0 :: ones 10

def programReport (s : State) : List Byte := byteOf s.bus.progResult.pos ++ numBytes 2 s.bus.mismatchCount

def clampReport (s : State) : List Byte :=
  [s.clamp.causes] ++ byteOf s.clamp.seen.pos ++ byteOf s.clamp.settleRun ++ byteOf s.clamp.unclampCtr
    ++ byteOf s.clamp.orphanRun ++ byteOf s.clamp.stuckRun ++ byteOf s.clamp.progRun ++ byteOf s.clamp.noRfRun

/-- R121. -/
def airReport (s : State) : List Byte :=
  byteOf s.air.state.pos ++ orOnes 1 (s.air.purpose.map Purpose.pos) ++ orOnes 1 (s.air.serving.map Fin.val)
    ++ markByte s.air.holdingEnded ++ byteOf s.air.leadRun ++ byteOf s.air.tailRun ++ numBytes 2 s.air.starveRun
    ++ orOnes 1 (s.air.pendingStart.map Fin.val) ++ orOnes 1 (s.air.pendingIdent.map IdentKind.pos)

/-- R135. The due age is sent in the one byte that its range of 0 to 100 needs, the model's choice (log 17). The interval and
tail_wait are those held in the setup store, before the close as after it, the model's choice too (log 35). -/
def identReport (s : State) : List Byte :=
  numBytes 3 s.ident.a ++ numBytes 3 (interval s) ++ markByte s.ident.due ++ byteOf s.ident.dueAge
    ++ markByte s.ident.overdue ++ numBytes 2 s.ident.tailWait ++ numBytes 2 s.setup.tailWait
    ++ orOnes 1 (s.ident.choice.map Fin.val) ++ byteOf s.ident.phase.pos ++ orOnes 1 (s.ident.kind.map IdentKind.pos)
    ++ numBytes 2 s.ident.clipIndex ++ numBytes 2 (clipCells s) ++ markByte s.setup.clipReady

/-- R100, for the site. -/
def poolReport (s : State) : List Byte :=
  orOnes 2 s.pool.size ++ numBytes 2 (clipCells s) ++ numBytes 2 s.pool.free

/-- R163. -/
def historyReport (s : State) : List Byte := bytes16 s.history.total ++ byteOf s.history.ring.length

def flagReport (s : State) : List Byte :=
  wordBytes s.link.siteFlags ++ wordBytes s.link.siteMask ++ allDesks.flatMap fun d => wordBytes (s.link.deskMasks.get d)

def siteStatusBody (s : State) : List Byte :=
  setupReport s ++ syncReport s ++ joinReport s ++ allStations.flatMap (presenceReport s)
    ++ allStations.flatMap (headerReport s) ++ programReport s ++ clampReport s ++ airReport s ++ identReport s
    ++ poolReport s ++ historyReport s ++ flagReport s

/-! ### FLOOR_VIEW, HISTORY (R182) -/

/-- A seat with class and age, at the count of the snapshot. -/
def seatReport (now : Count) (x : Seat) : List Byte :=
  deskBytes x.station x.desk ++ byteOf x.record.cls.code ++ numBytes 3 (age now x.record.stamp)

def condsByte (c : Conds) : Byte :=
  BitVec.ofNat 8 (bit c.c1 0 + bit c.c2 1 + bit c.c3 2 + bit c.c4 3 + bit c.c5 4 + bit c.c6 5)

def floorViewBody (s : State) : List Byte :=
  (match snapHolder s with | some h => seatReport s.claims.snap.count h | none => ones 6)
    ++ byteOf (snapWaiting s).length ++ (snapWaiting s).flatMap (seatReport s.claims.snap.count)
    ++ bytes16 s.claims.viewDigest ++ byteOf s.claims.disagree ++ byteOf s.claims.splitRun
    ++ byteOf s.claims.verdict.pos ++ [condsByte s.claims.conds]
    ++ (match s.claims.grantee with | some (k, d) => deskBytes k d | none => ones 2)

def entryReport (e : HistoryEntry) : List Byte :=
  deskBytes e.station e.desk ++ byteOf e.cls.code ++ numBytes 3 e.start.toNat ++ numBytes 3 e.length ++ byteOf e.reason.code

def historyBody (s : State) : List Byte :=
  bytes16 s.history.total ++ byteOf s.history.ring.length ++ s.history.ring.flatMap entryReport

/-! ### GUARD_READ (R156, Table 8-4) -/

def guardBody (s : State) : List Byte :=
  let g := s.guard
  markByte g.on ++ byteOf g.phase.pos ++ byteOf g.since ++ [g.high, g.low] ++ numBytes 2 g.nRef ++ numBytes 2 g.nMeas
    ++ markByte g.doneRef ++ markByte g.doneMeas ++ markByte g.openRef ++ markByte g.shortRef ++ markByte g.openMeas
    ++ markByte g.shortMeas ++ orAbsent 2 g.ratio ++ byteOf g.heatRun
    ++ markByte (causeSet s .heat) ++ markByte (causeSet s .sensor) ++ markByte (causeSet s .reflect)
    ++ byteOf s.clamp.reflSet ++ byteOf s.clamp.reflClear

end Sys2Proof.Machine
end

