-- ==== Sys2Proof/Machine/SetupStore.lean ====
section
/-! DEFINITION. The setup store: SET, LOAD_CLIP, CLOSE_SETUP, the setup digest (R83, R85, R187 to R192). -/

namespace Sys2Proof.Machine

/-! ### SET (R187, Table 11-2) -/

/-- A field number of Table 11-2. -/
def fieldKnown (f : Nat) : Bool := decide (1 ≤ f ∧ f ≤ 19)

def within (lo hi v : Nat) : Bool := decide (lo ≤ v ∧ v ≤ hi)

/-- Ranges at SET. -/
def fieldOk (f v : Nat) : Bool :=
  match f with
  | 1 => within 1 15 v
  | 2 => v == 512 || v == 1024 || v == 2048
  | 3 | 4 | 5 | 6 => within 20 1024 v
  | 7 | 8 => within 0 1 v
  | 9 => within 1 65534 v
  | 10 => within 2 65535 v
  | 11 => within 10000 600000 v
  | 12 => within 1000 60000 v
  | 13 => within 10000 1200000 v
  | 14 => v == 20 || v == 40 || v == 80 || v == 160
  | 15 => within 0 50 v
  | 16 => within 100 2000 v
  | 17 => within 2 100 v
  | 18 => within 60 600 v
  | 19 => within 50 5000 v
  | _ => false

/-- R83: SET of pool_size forms or re-forms the pool; the value it holds leaves it as it is. -/
def setPoolSize (v : Nat) (s : State) : State := if s.pool.size = some v then s else formPool v s

def putQuota (d : Desk) (v : Nat) (s : State) : State :=
  s.setSetup { s.setup with quota := s.setup.quota.set d v }

/-- An accepted value put in its field. -/
def putField (f v : Nat) (s : State) : State :=
  match f with
  | 1 => s.setSetup { s.setup with deskEnable := BitVec.ofNat 4 v }
  | 2 => setPoolSize v s
  | 3 => putQuota 0 v s
  | 4 => putQuota 1 v s
  | 5 => putQuota 2 v s
  | 6 => putQuota 3 v s
  | 7 => s.setSetup { s.setup with guardOn := v == 1 }
  | 8 => s.setSetup { s.setup with rfSense := v == 1 }
  | 9 => s.setSetup { s.setup with heatTrip := v }
  | 10 => s.setSetup { s.setup with heatClear := v }
  | 11 => s.setSetup { s.setup with totLimit := v }
  | 12 => s.setSetup { s.setup with coolOff := v }
  | 13 => s.setSetup { s.setup with maxWait := v }
  | 14 => s.setSetup { s.setup with lead := v }
  | 15 => s.setSetup { s.setup with tail := v }
  | 16 => s.setSetup { s.setup with silenceHold := v }
  | 17 => s.setSetup { s.setup with prebuffer := v }
  | 18 => s.setSetup { s.setup with idInterval := v }
  | 19 => s.setSetup { s.setup with tailWait := v }
  | _ => s

/-- R187: the checks in order. -/
def setRequest (f v : Nat) (s : State) : Answer :=
  if s.setup.closed then .refuse .setupClosed s
  else if !fieldKnown f then .refuse .badField s
  else if !fieldOk f v then .refuse .badValue s
  else .ok (putField f v s)

/-! ### LOAD_CLIP (R85, R189) -/

def loadClipRequest (offset : Nat) (cells : List Cell) (s : State) : Answer :=
  if s.setup.closed then .refuse .setupClosed s
  else if s.pool.size.isNone then .refuse .notReady s
  else if !within 1 Config.maxCells cells.length then .refuse .badValue s
  else if 399 < offset ∨ Config.maxClip < offset + cells.length then .refuse .badValue s
  else .ok (loadClip offset cells s)

/-! ### CLOSE_SETUP (R188, R190, R191) -/

/-- R188: the 17 bytes of the shared fields. -/
def sharedBytes (x : Setup) : List Byte :=
  numBytes 3 x.totLimit ++ numBytes 2 x.coolOff ++ numBytes 3 x.maxWait ++ numBytes 1 x.lead ++ numBytes 1 x.tail
    ++ numBytes 2 x.silenceHold ++ numBytes 1 x.prebuffer ++ numBytes 2 x.idInterval ++ numBytes 2 x.tailWait

def enabledQuota (s : State) (d : Desk) : Nat := if deskEnabled s d then s.setup.quota.get d else 0

def quotaSum (s : State) : Nat := (allDesks.map (enabledQuota s)).sum

/-- The lowest enabled desk with a quota below 20 (R190 check 2). -/
def shortQuota (s : State) : Option Desk :=
  allDesks.find? fun d => deskEnabled s d && decide (s.setup.quota.get d < 20)

/-- R190: the field number of the first check that fails. -/
def closeFailure (s : State) : Option Nat :=
  match s.pool.size with
  | none => some 2
  | some n =>
    match shortQuota s with
    | some d => some (3 + d.val)
    | none =>
      if n < quotaSum s + clipCells s then some 2
      else if s.setup.heatClear ≤ s.setup.heatTrip then some 10
      else none

/-- R191: the setup store's part of the close. -/
def closeRecord (s : State) : State :=
  s.setSetup
    { s.setup with
      closed := true
      digest := some (crcBytes (sharedBytes s.setup))
      clipReady := decide (0 < clipCells s) }

/-- R191: the bus engine's part: frame timing runs, the key samples are negated (R15, R19). -/
def closeBus (s : State) : State :=
  (s.setBus { s.bus with sampNow := .negated, sampPrev := .negated }).setSync
    { s.sync with timingRunning := true, count := none }

/-- R191: a close that passes, with the frame start at its moment. -/
def closeWork (s : State) : State :=
  let s1 := putSeen .settling 0 (enterHunt (closeBus (closePool (closeRecord s))))
  frameWork false (if s1.setup.guardOn then startGuard s1 else s1)

def closeRequest (s : State) : Answer :=
  if s.setup.closed then .refuse .setupClosed s
  else
    match closeFailure s with
    | some f => ⟨s, .badValue, numBytes 1 f⟩
    | none => .ok (closeWork s)

/-- R150. -/
def guardOnRequest (s : State) : Answer :=
  if s.setup.closed then .ok (startGuard s) else .refuse .notReady s

end Sys2Proof.Machine
end

