-- ==== Sys2Proof/Machine/Requests.lean ====
section
/-! DEFINITION. The meanings of the transactions on the link: empty, read, refused, and the 21 requests of Table 10-2 (R165 to R182). -/

namespace Sys2Proof.Machine

/-- R165: no effect of any kind. -/
def execEmptyTransaction (s : State) : Out := .next s

def execReadTransaction (nbytes : Nat) (inBusyWindow : Bool) (s : State) : Out := .next (readWork nbytes inBusyWindow s)

/-- R167: a request whose framing is refused. -/
def badRequestWork (bytes : List Byte) (inBusyWindow : Bool) (s : State) : State :=
  if linkUp s && badFraming bytes then
    s.setLink { s.link with response := some ⟨.badRequest, []⟩, miso := shifted s bytes.length inBusyWindow }
  else s

def execBadRequest (bytes : List Byte) (s : State) (inBusyWindow : Bool := false) : Out :=
  .next (badRequestWork bytes inBusyWindow s)

/-! ### Setup store and guard meter -/

def execSet (field : Byte) (value : BitVec 32) (s : State) (inBusyWindow : Bool := false) : Out :=
  .next (takeRequest inBusyWindow 4 (setRequest field.toNat value.toNat) s)

def execCloseSetup (s : State) (inBusyWindow : Bool := false) : Out := .next (takeRequest inBusyWindow 0 closeRequest s)

def execLoadClip (offset : Word16) (cells : List Cell) (s : State) (inBusyWindow : Bool := false) : Out :=
  .next (takeRequest inBusyWindow (2 + 16 * cells.length) (loadClipRequest offset.toNat cells) s)

def execGuardOn (s : State) (inBusyWindow : Bool := false) : Out := .next (takeRequest inBusyWindow 0 guardOnRequest s)

/-! ### Claim table -/

def execOpenDesk (sel cls : Byte) (s : State) (inBusyWindow : Bool := false) : Out :=
  .next (takeRequest inBusyWindow 1 (forDesk sel (openRequest cls)) s)

def execCloseDesk (sel : Byte) (s : State) (inBusyWindow : Bool := false) : Out :=
  .next (takeRequest inBusyWindow 0 (forDesk sel closeDeskRequest) s)

def execClaim (sel : Byte) (s : State) (inBusyWindow : Bool := false) : Out :=
  .next (takeRequest inBusyWindow 0 (forDesk sel claimRequest) s)

def execRelease (sel mode : Byte) (s : State) (inBusyWindow : Bool := false) : Out :=
  .next (takeRequest inBusyWindow 1 (forDesk sel (releaseRequest mode)) s)

/-! ### Playout pool -/

/-- Release-after is bit 0 of the flags byte; the other bits are not examined. -/
def execPush (sel : Byte) (sequence : Seq) (flags : Byte) (cells : List Cell) (s : State) (inBusyWindow : Bool := false) : Out :=
  .next (takeRequest inBusyWindow (3 + 16 * cells.length) (forDesk sel (pushRequest sequence (flags.getLsbD 0) cells)) s)

def execFlush (sel : Byte) (s : State) (inBusyWindow : Bool := false) : Out :=
  .next (takeRequest inBusyWindow 0 (forDesk sel flushRequest) s)

def execTrim (sel value : Byte) (s : State) (inBusyWindow : Bool := false) : Out :=
  .next (takeRequest inBusyWindow 1 (forDesk sel (trimRequest value)) s)

/-! ### Events and reports -/

def execDeskEvents (sel : Byte) (s : State) (inBusyWindow : Bool := false) : Out :=
  .next (takeRequest inBusyWindow 0 (forDesk sel deskEventsRequest) s)

/-- A report with a free voice sent mark uses up one free value. -/
def deskStatusRequest (d : Desk) (s : State) : Answer :=
  ⟨if reportsFreeMark s d then s.setFreeIx (s.freeIx + 1) else s, .ok, deskStatusBody s d⟩

def execDeskStatus (sel : Byte) (s : State) (inBusyWindow : Bool := false) : Out :=
  .next (takeRequest inBusyWindow 0 (forDesk sel deskStatusRequest) s)

def execSiteEvents (s : State) (inBusyWindow : Bool := false) : Out := .next (takeRequest inBusyWindow 0 siteEventsRequest s)

/-- A report that reads and changes nothing. -/
def report (body : State → List Byte) (s : State) : Answer := ⟨s, .ok, body s⟩

def execSiteStatus (s : State) (inBusyWindow : Bool := false) : Out :=
  .next (takeRequest inBusyWindow 0 (report siteStatusBody) s)

def execFloorView (s : State) (inBusyWindow : Bool := false) : Out :=
  .next (takeRequest inBusyWindow 0 (report floorViewBody) s)

def execHistory (s : State) (inBusyWindow : Bool := false) : Out := .next (takeRequest inBusyWindow 0 (report historyBody) s)

def execGuardRead (s : State) (inBusyWindow : Bool := false) : Out := .next (takeRequest inBusyWindow 0 (report guardBody) s)

/-! ### Clamp unit and masks -/

def execClamp (sel : Byte) (s : State) (inBusyWindow : Bool := false) : Out :=
  .next (takeRequest inBusyWindow 0 (forDesk sel clampRequest) s)

def execUnclamp (sel : Byte) (s : State) (inBusyWindow : Bool := false) : Out :=
  .next (takeRequest inBusyWindow 0 (forDesk sel unclampRequest) s)

def execMask (sel : Byte) (word : Word16) (s : State) (inBusyWindow : Bool := false) : Out :=
  .next (takeRequest inBusyWindow 2 (maskRequest sel word) s)

end Sys2Proof.Machine
end

