-- ==== Sys2Proof/Machine/Dispatch.lean ====
section
/-! DEFINITION. One arm for each command: the direct call of its meaning. -/

namespace Sys2Proof.Machine

def exec (i : Instr) (s : State) : Host.Outcome State Fault Refusal :=
  match i with
  | .powerOnReset => Sys2Proof.Machine.execPowerOnReset s
  | .brownOutReset => Sys2Proof.Machine.execBrownOutReset s
  | .pinReset => Sys2Proof.Machine.execPinReset s
  | .resetEnd stn settle => Sys2Proof.Machine.execResetEnd stn settle s
  | .settleEnd => Sys2Proof.Machine.execSettleEnd s
  | .emptyTransaction => Sys2Proof.Machine.execEmptyTransaction s
  | .readTransaction nbytes inBusyWindow => Sys2Proof.Machine.execReadTransaction nbytes inBusyWindow s
  | .badRequest bytes inBusyWindow => Sys2Proof.Machine.execBadRequest bytes s inBusyWindow
  | .setField field value inBusyWindow => Sys2Proof.Machine.execSet field value s inBusyWindow
  | .closeSetup inBusyWindow => Sys2Proof.Machine.execCloseSetup s inBusyWindow
  | .loadClip offset cells inBusyWindow => Sys2Proof.Machine.execLoadClip offset cells s inBusyWindow
  | .guardOn inBusyWindow => Sys2Proof.Machine.execGuardOn s inBusyWindow
  | .openDesk sel cls inBusyWindow => Sys2Proof.Machine.execOpenDesk sel cls s inBusyWindow
  | .closeDesk sel inBusyWindow => Sys2Proof.Machine.execCloseDesk sel s inBusyWindow
  | .claim sel inBusyWindow => Sys2Proof.Machine.execClaim sel s inBusyWindow
  | .release sel mode inBusyWindow => Sys2Proof.Machine.execRelease sel mode s inBusyWindow
  | .push sel sequence flags cells inBusyWindow => Sys2Proof.Machine.execPush sel sequence flags cells s inBusyWindow
  | .flush sel inBusyWindow => Sys2Proof.Machine.execFlush sel s inBusyWindow
  | .trim sel value inBusyWindow => Sys2Proof.Machine.execTrim sel value s inBusyWindow
  | .deskEvents sel inBusyWindow => Sys2Proof.Machine.execDeskEvents sel s inBusyWindow
  | .deskStatus sel inBusyWindow => Sys2Proof.Machine.execDeskStatus sel s inBusyWindow
  | .siteEvents inBusyWindow => Sys2Proof.Machine.execSiteEvents s inBusyWindow
  | .siteStatus inBusyWindow => Sys2Proof.Machine.execSiteStatus s inBusyWindow
  | .floorView inBusyWindow => Sys2Proof.Machine.execFloorView s inBusyWindow
  | .history inBusyWindow => Sys2Proof.Machine.execHistory s inBusyWindow
  | .clamp sel inBusyWindow => Sys2Proof.Machine.execClamp sel s inBusyWindow
  | .unclamp sel inBusyWindow => Sys2Proof.Machine.execUnclamp sel s inBusyWindow
  | .guardRead inBusyWindow => Sys2Proof.Machine.execGuardRead s inBusyWindow
  | .mask sel word inBusyWindow => Sys2Proof.Machine.execMask sel word s inBusyWindow
  | .frameStart reportFirst => Sys2Proof.Machine.execFrameStart reportFirst s
  | .syncFieldsReceived bits => Sys2Proof.Machine.execSyncFieldsReceived bits s
  | .slotReceived k bits => Sys2Proof.Machine.execSlotReceived k bits s
  | .keySample keyl clampl rfon refl => Sys2Proof.Machine.execKeySample keyl clampl rfon refl s
  | .snapshotComplete fence identFirst => Sys2Proof.Machine.execSnapshotComplete fence identFirst s
  | .programReceived bits => Sys2Proof.Machine.execProgramReceived bits s
  | .syncPatternFound pos c t => Sys2Proof.Machine.execSyncPatternFound pos c t s
  | .relockCandidateDropped pos => Sys2Proof.Machine.execRelockCandidateDropped pos s
  | .relockTestPassed pos c t => Sys2Proof.Machine.execRelockTestPassed pos c t s
  | .huntWaitExpired => Sys2Proof.Machine.execHuntWaitExpired s
  | .holdoverWaitExpired => Sys2Proof.Machine.execHoldoverWaitExpired s
  | .missRunLimit => Sys2Proof.Machine.execMissRunLimit s
  | .timingReadbackLimit => Sys2Proof.Machine.execTimingReadbackLimit s
  | .fence => Sys2Proof.Machine.execFence s
  | .announceComplete => Sys2Proof.Machine.execAnnounceComplete s
  | .peerJoined k => Sys2Proof.Machine.execPeerJoined k s
  | .peerLost k driven => Sys2Proof.Machine.execPeerLost k driven s
  | .waitExpiry => Sys2Proof.Machine.execWaitExpiry s
  | .timeLimit => Sys2Proof.Machine.execTimeLimit s
  | .totenf => Sys2Proof.Machine.execTotenf s
  | .splitRelease => Sys2Proof.Machine.execSplitRelease s
  | .barLifted d => Sys2Proof.Machine.execBarLifted d s
  | .leadEnd => Sys2Proof.Machine.execLeadEnd s
  | .primeToOn => Sys2Proof.Machine.execPrimeToOn s
  | .gapDeclared => Sys2Proof.Machine.execGapDeclared s
  | .releaseAfterDone => Sys2Proof.Machine.execReleaseAfterDone s
  | .drainComplete => Sys2Proof.Machine.execDrainComplete s
  | .starvation => Sys2Proof.Machine.execStarvation s
  | .tailEnd => Sys2Proof.Machine.execTailEnd s
  | .identEnd => Sys2Proof.Machine.execIdentEnd s
  | .idDue holder => Sys2Proof.Machine.execIdDue holder s
  | .idOverdue => Sys2Proof.Machine.execIdOverdue s
  | .tailWaitComplete => Sys2Proof.Machine.execTailWaitComplete s
  | .orphan => Sys2Proof.Machine.execOrphan s
  | .stuck => Sys2Proof.Machine.execStuck s
  | .programRunLimit => Sys2Proof.Machine.execProgramRunLimit s
  | .noRf => Sys2Proof.Machine.execNoRf s
  | .reflectSet => Sys2Proof.Machine.execReflectSet s
  | .reflectClear => Sys2Proof.Machine.execReflectClear s
  | .settleComplete => Sys2Proof.Machine.execSettleComplete s
  | .guardCycleBegin => Sys2Proof.Machine.execGuardCycleBegin s
  | .chargePhaseEnd gcmpAbove => Sys2Proof.Machine.execChargePhaseEnd gcmpAbove s
  | .dischargeEnd ticks => Sys2Proof.Machine.execDischargeEnd ticks s
  | .dischargeOverflow => Sys2Proof.Machine.execDischargeOverflow s
  | .heatSet => Sys2Proof.Machine.execHeatSet s

end Sys2Proof.Machine
end

