-- ==== Sys2Proof/WellFormed.lean ====
section
/-! DEFINITION. Which commands are well formed: operand ranges that the types do not already hold. -/

namespace Sys2Proof

/-- A read clocks at least one whole byte (R165); a block and a LOAD_CLIP carry at most 20 cells (R166, Table 10-2);
a BAD_REQUEST carries a frame that R167 refuses; a discharge ends before its counter carries out (R153). -/
def Instr.wellFormed (i : Instr) : Bool :=
  match i with
  | .readTransaction n _ => decide (1 ≤ n)
  | .badRequest bytes _ => badFraming bytes
  | .loadClip _ cells _ => decide (cells.length ≤ Config.maxCells)
  | .push _ _ _ cells _ => decide (cells.length ≤ Config.maxCells)
  | .dischargeEnd ticks => decide (ticks < Config.carryOut)
  | .powerOnReset | .brownOutReset | .pinReset | .resetEnd .. | .settleEnd | .emptyTransaction => true
  | .setField .. | .closeSetup .. | .guardOn .. | .openDesk .. | .closeDesk .. | .claim .. | .release .. | .flush .. | .trim .. => true
  | .deskEvents .. | .deskStatus .. | .siteEvents .. | .siteStatus .. | .floorView .. | .history .. | .clamp .. | .unclamp .. => true
  | .guardRead .. | .mask .. => true
  | .frameStart .. | .syncFieldsReceived .. | .slotReceived .. | .keySample .. | .snapshotComplete .. | .programReceived .. => true
  | .syncPatternFound .. | .relockCandidateDropped .. | .relockTestPassed .. => true
  | .huntWaitExpired | .holdoverWaitExpired | .missRunLimit | .timingReadbackLimit | .fence | .announceComplete => true
  | .peerJoined .. | .peerLost .. | .waitExpiry | .timeLimit | .totenf | .splitRelease | .barLifted .. => true
  | .leadEnd | .primeToOn | .gapDeclared | .releaseAfterDone | .drainComplete | .starvation | .tailEnd | .identEnd => true
  | .idDue .. | .idOverdue | .tailWaitComplete => true
  | .orphan | .stuck | .programRunLimit | .noRf | .reflectSet | .reflectClear | .settleComplete => true
  | .guardCycleBegin | .chargePhaseEnd .. | .dischargeOverflow | .heatSet => true

end Sys2Proof
end

