-- ==== Sys2Proof/Safety.lean ====
section
/-! DEFINITION. What the part keeps: the laws of the manual as predicates of a state, the frame of a request, the order of the frame points. -/

namespace Sys2Proof

open Machine

/-! ### What a command leaves -/

/-- t with the response of a request of n body bytes, taken in s (R167, R168, R165). -/
def replied (inBusyWindow : Bool) (s t : State) (n : Nat) (st : Status) (body : List Byte) : State :=
  t.setLink { t.link with response := some ⟨st, body⟩, miso := shifted s (4 + n) inBusyWindow }

/-- Value of a setup field of Table 11-2. -/
def fieldValue (s : State) (f : Nat) : Option Nat :=
  match f with
  | 1 => some s.setup.deskEnable.toNat
  | 2 => s.pool.size
  | 3 => some (s.setup.quota.get 0)
  | 4 => some (s.setup.quota.get 1)
  | 5 => some (s.setup.quota.get 2)
  | 6 => some (s.setup.quota.get 3)
  | 7 => some (if s.setup.guardOn then 1 else 0)
  | 8 => some (if s.setup.rfSense then 1 else 0)
  | 9 => some s.setup.heatTrip
  | 10 => some s.setup.heatClear
  | 11 => some s.setup.totLimit
  | 12 => some s.setup.coolOff
  | 13 => some s.setup.maxWait
  | 14 => some s.setup.lead
  | 15 => some s.setup.tail
  | 16 => some s.setup.silenceHold
  | 17 => some s.setup.prebuffer
  | 18 => some s.setup.idInterval
  | 19 => some s.setup.tailWait
  | _ => none

/-! ### Values after reset, as the tables of the chapters show them -/

/-- Table 1-4; STALE at the own position is the model's choice (log 21). -/
def busReset (t : State) : Prop :=
  (∀ k, t.bus.judge.get k = .stale ∧ t.bus.headers.get k = none) ∧ t.bus.ownSlot = none ∧ t.bus.ownSlotDriven = false
    ∧ t.bus.readback = .notDriven ∧ t.bus.fenceRun = 0 ∧ t.bus.progDrive = false ∧ t.bus.keylDrive = false
    ∧ t.bus.sampNow = ⟨false, false, false, false⟩ ∧ t.bus.sampPrev = ⟨false, false, false, false⟩
    ∧ t.bus.progResult = .nothing ∧ t.bus.mismatchCount = 0

/-- Tables 2-5 and 2-6. -/
def syncReset (t : State) : Prop :=
  t.sync.state = .notRunning ∧ t.sync.timingRunning = false ∧ t.sync.count = none ∧ t.sync.timingStation = none
    ∧ t.sync.candidates = [] ∧ t.sync.huntRun = 0 ∧ t.sync.missRun = 0 ∧ t.sync.holdoverRun = 0 ∧ t.sync.readbackRun = 0
    ∧ t.member.join = .unset ∧ t.member.announceRun = 0 ∧ t.member.standing = 0
    ∧ ∀ k, t.member.presence.get k = ⟨.unseen, 0, 0, 0⟩

/-- Tables 3-3, 3-7 and 4-1; the published record, which no table gives, is the model's choice (log 32). -/
def claimsReset (t : State) : Prop :=
  (∀ d, getDesk t d = ⟨⟨.absent, .normal, .noReason, 0⟩, false, false, none, 0, false, ⟨.absent, .normal, .noReason, 0⟩⟩)
    ∧ (∀ k d, (t.claims.mirrors.get k).get d = ⟨.absent, .normal, .noReason, 0⟩)
    ∧ (∀ k d, ((t.claims.snap.recs.get k).get d).state = .absent ∧ ((t.claims.prev.recs.get k).get d).state = .absent)
    ∧ t.claims.viewDigest = 0 ∧ t.claims.splitRun = 0 ∧ t.claims.conds = ⟨false, false, false, false, false, false⟩
    ∧ t.claims.verdict = .notActive ∧ t.claims.grantee = none ∧ t.claims.disagree = 0

/-- Tables 5-1, 5-2, 6-2 and 7-2. -/
def airReset (t : State) : Prop :=
  t.pool.size = none ∧ t.pool.free = 0 ∧ t.pool.clip = []
    ∧ (∀ d, t.pool.quota.get d = none ∧ getQueue t d = ⟨[], none, none, 0, 0, 0, 0, 0, 0, 0⟩)
    ∧ t.air.state = .off ∧ t.air.purpose = none ∧ t.air.serving = none ∧ t.air.holdingEnded = false
    ∧ t.air.voiceSent = false ∧ t.air.leadRun = 0 ∧ t.air.tailRun = 0 ∧ t.air.starveRun = 0
    ∧ t.air.pendingStart = none ∧ t.air.pendingIdent = none
    ∧ t.ident.a = 0 ∧ t.ident.due = false ∧ t.ident.dueAge = 0 ∧ t.ident.overdue = false ∧ t.ident.tailWait = 0
    ∧ t.ident.choice = none ∧ t.ident.phase = .nothing ∧ t.ident.kind = none ∧ t.ident.clipIndex = 0

/-- Tables 8-2, 8-4 and 10-5, and R157. -/
def clampReset (t : State) : Prop :=
  t.clamp = ⟨0, .settling, 0, 0, 0, 0, 0, 0, 0, 0⟩
    ∧ t.guard.on = false ∧ t.guard.phase = .off ∧ t.guard.since = 0 ∧ t.guard.high = 0 ∧ t.guard.low = 0
    ∧ t.guard.nRef = 0 ∧ t.guard.nMeas = 0 ∧ t.guard.doneRef = false ∧ t.guard.doneMeas = false
    ∧ t.guard.openRef = false ∧ t.guard.shortRef = false ∧ t.guard.openMeas = false ∧ t.guard.shortMeas = false
    ∧ t.guard.ratio = none ∧ t.guard.heatRun = 0 ∧ t.history.ring = [] ∧ t.history.total = 0
    ∧ t.link.response = none ∧ t.link.siteFlags = 0 ∧ t.link.siteMask = 0
    ∧ ∀ d, t.link.deskFlags.get d = 0 ∧ t.link.deskMasks.get d = 0

/-- Tables 11-2 and 11-3. -/
def setupReset (t : State) : Prop :=
  t.power.phase = .inReset ∧ t.setup.closed = false ∧ t.setup.digest = none ∧ t.setup.clipReady = false
    ∧ t.setup.deskEnable = 1 ∧ (∀ d, t.setup.quota.get d = 0) ∧ t.setup.guardOn = false ∧ t.setup.rfSense = false
    ∧ t.setup.heatTrip = 128 ∧ t.setup.heatClear = 160 ∧ t.setup.totLimit = 180000 ∧ t.setup.coolOff = 5000
    ∧ t.setup.maxWait = 300000 ∧ t.setup.lead = 40 ∧ t.setup.tail = 10 ∧ t.setup.silenceHold = 500
    ∧ t.setup.prebuffer = 20 ∧ t.setup.idInterval = 600 ∧ t.setup.tailWait = 3000

def resetValues (t : State) : Prop := setupReset t ∧ busReset t ∧ syncReset t ∧ claimsReset t ∧ airReset t ∧ clampReset t

/-- The row of each reset kind. -/
def resetCommand (c : ResetCause) : Instr :=
  match c with
  | .powerOn => .powerOnReset
  | .brownOut => .brownOutReset
  | .pin => .pinReset

/-! ### Kinds of commands -/

/-- A transaction on the link. -/
def isTransaction (i : Instr) : Bool :=
  isRequest i || (match i with
    | .emptyTransaction | .readTransaction .. | .badRequest .. => true
    | _ => false)

/-- A frame point, a finding of the relock search, or the row of a limit that is counted on frame points. -/
def isPoint (i : Instr) : Bool :=
  match i with
  | .huntWaitExpired | .holdoverWaitExpired | .missRunLimit | .timingReadbackLimit | .fence | .announceComplete => true
  | .peerJoined .. | .peerLost .. | .waitExpiry | .timeLimit | .totenf | .splitRelease | .barLifted .. => true
  | .leadEnd | .primeToOn | .gapDeclared | .releaseAfterDone | .drainComplete | .starvation | .tailEnd | .identEnd => true
  | .idDue .. | .idOverdue | .tailWaitComplete => true
  | .orphan | .stuck | .programRunLimit | .noRf | .reflectSet | .reflectClear | .settleComplete | .guardCycleBegin => true
  | .frameStart .. | .syncFieldsReceived .. | .slotReceived .. | .keySample .. | .snapshotComplete .. => true
  | .programReceived .. | .syncPatternFound .. | .relockCandidateDropped .. | .relockTestPassed .. => true
  | _ => false

/-- A desk request of Table 10-2 with its selector. -/
def deskSelector (i : Instr) : Option Byte :=
  match i with
  | .openDesk d .. | .closeDesk d _ | .claim d _ | .release d .. | .push d .. | .flush d _ | .trim d .. => some d
  | .deskEvents d _ | .deskStatus d _ | .clamp d _ | .unclamp d _ => some d
  | _ => none

/-- The body length of a request (Table 10-2). -/
def bodyLength (i : Instr) : Nat := (frameOf i).length - 4

/-- Table 10-2: a code and a body length that it allows. -/
def allowedBody (code n : Nat) : Prop :=
  (code = 0x01 ∧ n = 4) ∨ (code = 0x03 ∧ ∃ m, m ≤ 20 ∧ n = 2 + 16 * m) ∨ (code = 0x14 ∧ ∃ m, m ≤ 20 ∧ n = 3 + 16 * m)
    ∨ ((code = 0x10 ∨ code = 0x13 ∨ code = 0x16) ∧ n = 1) ∨ (code = 0x38 ∧ n = 2)
    ∨ ((code = 0x02 ∨ code = 0x04 ∨ code = 0x11 ∨ code = 0x12 ∨ code = 0x15 ∨ code = 0x20 ∨ code = 0x21 ∨ code = 0x22
      ∨ code = 0x23 ∨ code = 0x24 ∨ code = 0x25 ∨ code = 0x30 ∨ code = 0x31 ∨ code = 0x32) ∧ n = 0)

/-- Table 11-2: a field number and a value in its range at SET. -/
def fieldRange (f v : Nat) : Prop :=
  (f = 1 ∧ 1 ≤ v ∧ v ≤ 15) ∨ (f = 2 ∧ (v = 512 ∨ v = 1024 ∨ v = 2048)) ∨ (3 ≤ f ∧ f ≤ 6 ∧ 20 ≤ v ∧ v ≤ 1024)
    ∨ ((f = 7 ∨ f = 8) ∧ v ≤ 1) ∨ (f = 9 ∧ 1 ≤ v ∧ v ≤ 65534) ∨ (f = 10 ∧ 2 ≤ v ∧ v ≤ 65535)
    ∨ (f = 11 ∧ 10000 ≤ v ∧ v ≤ 600000) ∨ (f = 12 ∧ 1000 ≤ v ∧ v ≤ 60000) ∨ (f = 13 ∧ 10000 ≤ v ∧ v ≤ 1200000)
    ∨ (f = 14 ∧ (v = 20 ∨ v = 40 ∨ v = 80 ∨ v = 160)) ∨ (f = 15 ∧ v ≤ 50) ∨ (f = 16 ∧ 100 ≤ v ∧ v ≤ 2000)
    ∨ (f = 17 ∧ 2 ≤ v ∧ v ≤ 100) ∨ (f = 18 ∧ 60 ≤ v ∧ v ≤ 600) ∨ (f = 19 ∧ 50 ≤ v ∧ v ≤ 5000)

/-! ### Flags that stand after a command -/

def deskFlagSet (t : State) (d : Desk) (f : DeskFlag) : Prop := t.link.deskFlags.get d &&& f.mask ≠ 0

def siteFlagSet (t : State) (f : SiteFlag) : Prop := t.link.siteFlags &&& f.mask ≠ 0

/-- The quotas of the enabled desks, added up. -/
def enabledSum (s : State) : Nat :=
  (allDesks.map fun d => if deskEnabled s d then s.setup.quota.get d else 0).sum

/-- The end publication of a desk after a record is put there where it was empty (R47, R50). -/
def pubAfter (o : OwnDesk) (r : Record) : Option Record := some (o.endPub.getD r)

/-- The body of a PUSH answer. -/
def pushBody (q : DeskQueue) : List Byte := numBytes 1 q.queue.length ++ numBytes 2 q.cells

/-! ### Laws of one block -/

/-- R157: the ring holds at most 8 entries. -/
def ringLaw (s : State) : Prop := s.history.ring.length ≤ 8

/-- R123: the kind is none exactly while the phase is NONE. -/
def identLaw (s : State) : Prop := s.ident.kind = none ↔ s.ident.phase = .nothing

/-- R139: the settle run stands at 10 exactly in CLEAR, and at 0 in CLAMPED. -/
def settleLaw (s : State) : Prop :=
  (s.clamp.seen = .clear ↔ s.clamp.settleRun = 10) ∧ (s.clamp.seen = .clamped → s.clamp.settleRun = 0)
    ∧ s.clamp.settleRun ≤ 10

/-- R123: the due flag is set exactly while A is the interval or more. Before the close nothing has been counted, and
the interval is one that SET allows. -/
def dueLaw (s : State) : Prop :=
  (s.ident.due = true ↔ interval s ≤ s.ident.a) ∧ s.ident.a ≤ 16777215 ∧ 60 ≤ s.setup.idInterval
    ∧ (s.setup.closed = false → s.ident.a = 0)

/-! ### Claim records -/

/-- R39, Table 3-1: the combinations of field values of a record. -/
def recordShape (r : Record) : Prop :=
  match r.state with
  | .absent => r.cls = .normal ∧ r.reason = .noReason ∧ r.stamp = 0
  | .idle => r.stamp = 0
  | .barred => r.stamp = 0 ∧ (r.reason = .timeout ∨ r.reason = .starved)
  | .waiting | .holding => r.reason = .noReason

/-- Every own record and every record published or waiting to be published has a shape of Table 3-1. -/
def recordLaw (s : State) : Prop :=
  ∀ d, recordShape (getDesk s d).record ∧ recordShape (getDesk s d).published
    ∧ ∀ r, (getDesk s d).endPub = some r → recordShape r

abbrev hasState (s : State) (d : Desk) (x : RecState) : Prop := (getDesk s d).record.state = x

/-- R52 and the law of R120 on sync and join states: out of MEMBER nothing waits or holds, out of LOCKED and TIMING
nothing holds, and out of either the air sequencer is OFF with nothing pending. In HUNT no station is MEMBER. -/
def siteLaw (s : State) : Prop :=
  (s.member.join ≠ .member → ∀ d, ¬ hasState s d .waiting ∧ ¬ hasState s d .holding)
    ∧ (syncActive s = false → ∀ d, ¬ hasState s d .holding)
    ∧ (memberActive s = false → s.air.state = .off ∧ s.air.pendingStart = none ∧ s.air.pendingIdent = none)
    ∧ (s.sync.state = .hunt ∨ s.sync.state = .notRunning → s.member.join ≠ .member)

/-- At most one record of a set is HOLDING (R58). -/
def oneHolding (r : Records) : Prop :=
  ∀ k d k' d', ((r.get k).get d).state = .holding → ((r.get k').get d').state = .holding → k = k' ∧ d = d'

/-! ### Pool -/

/-- Cells of the four desks, queued and current. -/
def deskCells (s : State) : Nat := (allDesks.map fun d => (getQueue s d).cells).sum

def quotaTotal (s : State) : Nat := (allDesks.map (quotaOf s)).sum

/-- R84: the four holders together hold exactly the pool's cells. -/
def cellsConserved (s : State) : Prop :=
  s.pool.free + s.pool.clip.length + deskCells s = s.pool.size.getD 0

/-- R84, with what makes it lasting: before the close no desk holds cells; from the close each desk keeps to its quota,
and the quotas and the clip fit in the pool (R86). -/
def poolLaw (s : State) : Prop :=
  cellsConserved s ∧ s.pool.clip.length ≤ 400
    ∧ (s.pool.size = none ∨ s.pool.size = some 512 ∨ s.pool.size = some 1024 ∨ s.pool.size = some 2048)
    ∧ (s.setup.closed = false → deskCells s = 0)
    ∧ (s.setup.closed = true → quotaTotal s + s.pool.clip.length ≤ s.pool.size.getD 0
      ∧ ∀ d, (getQueue s d).cells ≤ quotaOf s d)

/-- Strictly ascending positions from a base, all below half of the sequence space. -/
def ascendingFrom (base : Seq) (low : Nat) : List Block → Prop
  | [] => True
  | b :: rest => low ≤ (b.seq - base).toNat ∧ (b.seq - base).toNat < 32768
      ∧ ascendingFrom base ((b.seq - base).toNat + 1) rest

/-- R90: at most 32 blocks in strictly ascending order of their positions, from the cursor where it is set and from the
head where it is not. While a current block exists the cursor is its sequence, and no queued block has it. -/
def queueLaw (q : DeskQueue) : Prop :=
  q.queue.length ≤ 32
    ∧ (match q.current with
      | some c => q.cursor = some c.seq ∧ c.rest ≠ [] ∧ ascendingFrom c.seq 1 q.queue
      | none =>
        match q.cursor, q.queue with
        | some c, _ => ascendingFrom c 0 q.queue
        | none, [] => True
        | none, b :: rest => ascendingFrom b.seq 0 (b :: rest))

/-- R88, R90: the law of every desk queue; a queued block carries cells. -/
def queuesLaw (s : State) : Prop :=
  ∀ d, queueLaw (getQueue s d) ∧ ∀ b ∈ (getQueue s d).queue, 1 ≤ b.cells.length ∧ b.cells.length ≤ 20

/-! ### Frame points -/

/-- The bit time of a frame point (R2, Table 0-1); snapshot complete follows the key sample at bit time 1776. -/
def pointTime (i : Instr) : Option Nat :=
  match i with
  | .frameStart _ => some 0
  | .syncFieldsReceived _ => some 42
  | .slotReceived k _ => some (Config.slotEnd k)
  | .keySample .. => some 1776
  | .snapshotComplete .. => some 1777
  | .programReceived _ => some 1943
  | _ => none

/-- The points of one frame stand in the order of R2. -/
def frameOrdered (is : List Instr) : Prop := (is.filterMap pointTime).Pairwise (· < ·)

/-! ### Entries to sync states, as the rules of chapter 2 leave them -/

/-- The record of a holding or wait ended with a reason that leads to IDLE (Table 3-5, R50). -/
def idleRecord (o : OwnDesk) (r : EndReason) : Record := ⟨.idle, o.record.cls, r, 0⟩

/-- Desk d of t is that of s with its holding, if it has one, ended into IDLE with a reason and ENDED raised (R47);
any other desk is kept. -/
def holdingEndedAt (r : EndReason) (s t : State) (d : Desk) : Prop :=
  (hasState s d .holding → (getDesk t d).record = idleRecord (getDesk s d) r ∧ (getDesk t d).drain = false
    ∧ (getDesk t d).endPub = pubAfter (getDesk s d) (idleRecord (getDesk s d) r) ∧ deskFlagSet t d .ended)
    ∧ (¬ hasState s d .holding → getDesk t d = getDesk s d)

/-- Desk d of t is that of s with its wait, if it has one, withdrawn with a reason and WAIT_END raised (R50). -/
def waitEndedAt (r : EndReason) (s t : State) (d : Desk) : Prop :=
  (hasState s d .waiting → getDesk t d = { getDesk s d with record := idleRecord (getDesk s d) r, endPub := pubAfter (getDesk s d) (idleRecord (getDesk s d) r) } ∧ deskFlagSet t d .waitEnd)
    ∧ (¬ hasState s d .waiting → getDesk t d = getDesk s d)

/-- Own holdings ended and own waits withdrawn with SYNC_LOST (R20, R35). -/
def syncLostAt (s t : State) (d : Desk) : Prop :=
  (hasState s d .holding ∨ hasState s d .waiting → (getDesk t d).record = idleRecord (getDesk s d) .syncLost
    ∧ (getDesk t d).endPub = pubAfter (getDesk s d) (idleRecord (getDesk s d) .syncLost))
    ∧ (hasState s d .holding → deskFlagSet t d .ended) ∧ (hasState s d .waiting → deskFlagSet t d .waitEnd)
    ∧ (¬ hasState s d .holding → ¬ hasState s d .waiting → getDesk t d = getDesk s d)

/-- R120: the air sequencer is OFF, its pending work dropped, KEYL released, the program field withheld, an own
identification abandoned. -/
def airIsOff (t : State) : Prop :=
  t.air.state = .off ∧ t.air.purpose = none ∧ t.air.serving = none ∧ t.air.pendingStart = none
    ∧ t.air.pendingIdent = none ∧ t.bus.keylDrive = false ∧ t.bus.progDrive = false
    ∧ t.ident.phase = .nothing ∧ t.ident.kind = none

/-- What the entry to HUNT leaves (R20, R31, R148, and the rules that clear at it: R2, R12, R14, R17, R56, R60, R61, R72, R160).
That the grantee is none then is the model's reading (log 15). -/
def huntEntered (s t : State) : Prop :=
  t.sync = { s.sync with
      state := .hunt, timingStation := none, candidates := [], huntRun := 0, missRun := 0, holdoverRun := 0, readbackRun := 0 }
    ∧ airIsOff t ∧ (∀ d, syncLostAt s t d)
    ∧ t.member.presence = .all ⟨.unseen, 0, 0, 0⟩
    ∧ t.member.join = (if s.member.join = .mismatch ∨ s.member.join = .fenced then s.member.join else .listen)
    ∧ t.bus.fenceRun = 0 ∧ t.bus.headers = .all none ∧ t.bus.progResult = .nothing
    ∧ t.history.ring = [] ∧ t.history.total = 0
    ∧ t.claims.snap = .empty ∧ t.claims.viewDigest = 0 ∧ t.claims.splitRun = 0 ∧ t.claims.verdict = .notActive
    ∧ t.claims.grantee = none ∧ t.claims.mirrors = .absent ∧ siteFlagSet t .syncChange
    ∧ t = { s with
        bus := t.bus, sync := t.sync, member := t.member, claims := t.claims, air := t.air, ident := t.ident
        clamp := t.clamp, history := t.history, link := t.link }

/-- What the entry to HOLDOVER leaves (R25, R31). That the miss run is kept is the model's reading (log 28). -/
def holdoverEntered (s t : State) : Prop :=
  t.sync = { s.sync with state := .holdover, timingStation := none, candidates := [], holdoverRun := 0 }
    ∧ airIsOff t ∧ (∀ d, holdingEndedAt .syncLost s t d)
    ∧ t.member.join = (if s.member.join = .announce then .listen else s.member.join)
    ∧ t.member.presence = s.member.presence ∧ siteFlagSet t .syncChange
    ∧ t = { s with
        bus := t.bus, sync := t.sync, member := t.member, claims := t.claims, air := t.air, ident := t.ident, link := t.link }

/-- Join state and standing at the entry to LOCKED or TIMING (Table 2-4, R33). -/
def joinAfterEntry (m : Member) : Member :=
  if m.join = .listen then { m with join := .announce, announceRun := 0, standing := 0 } else m

/-- What the entry to LOCKED in a relock frame of count c under station n leaves (R23, R31). -/
def lockedEntered (c : Count) (n : Station) (s t : State) : Prop :=
  t.sync = { s.sync with
      state := .locked, count := some c, timingStation := some n, candidates := [], huntRun := 0, missRun := 0, holdoverRun := 0 }
    ∧ t.bus = { s.bus with relockRest := true } ∧ t.member = joinAfterEntry s.member ∧ siteFlagSet t .syncChange
    ∧ t = { s with bus := t.bus, sync := t.sync, member := t.member, claims := t.claims, link := t.link }

/-- What the entry to TIMING at the own frame start leaves (R28, R31). That the miss run is kept is the model's reading (log
28). -/
def timingEntered (s t : State) : Prop :=
  t.sync = { s.sync with
      state := .timing, count := some (s.sync.count.getD 0), timingStation := some s.setup.station, candidates := []
      huntRun := 0, holdoverRun := 0, readbackRun := 0 }
    ∧ t.member = joinAfterEntry s.member ∧ siteFlagSet t .syncChange
    ∧ t = { s with sync := t.sync, member := t.member, link := t.link }

/-- s with its held count advanced by one frame (R19). -/
def countAdvanced (s : State) : State := s.setSync { s.sync with count := s.sync.count.map (· + 1) }

/-- R137: s with a set of causes, CLAMP_CHANGE raised where it differs from the one held. -/
def causesBecome (x : Byte) (s : State) : State :=
  if x = s.clamp.causes then s
  else { s with
    clamp := { s.clamp with causes := x }
    link := { s.link with siteFlags := s.link.siteFlags ||| SiteFlag.clampChange.mask } }

/-- R137, R149, R153, R154, R155: s with a set of guard causes, CLAMP_CHANGE and GUARD raised where it differs. -/
def guardCausesBecome (x : Byte) (s : State) : State :=
  if x = s.clamp.causes then s
  else { s with
    clamp := { s.clamp with causes := x }
    link := { s.link with siteFlags := s.link.siteFlags ||| SiteFlag.clampChange.mask ||| SiteFlag.guard.mask } }

/-- A record of the snapshot is HOLDING. -/
def holdsFloor (r : Records) (k : Station) (d : Desk) : Prop := ((r.get k).get d).state = .holding

/-- R57: the record of desk k.d in the snapshot of the frame, before R58. -/
def formedRecord (s : State) (k : Station) (d : Desk) : Record :=
  if k = s.setup.station then (getDesk s d).published
  else if (s.member.presence.get k).state = .joined then (s.claims.mirrors.get k).get d
  else ⟨.absent, .normal, .noReason, 0⟩

/-- R14 is not reported at this snapshot complete. -/
def noFence (s : State) : Prop := ¬ (s.bus.readback = .mismatch ∧ 2 ≤ s.bus.fenceRun)

/-- The frame start is not one at which the wait of HUNT or HOLDOVER runs out (R22, R27). -/
def waitGoesOn (s : State) : Prop :=
  (s.sync.state = .hunt → s.sync.huntRun + 1 < 16 + 4 * s.setup.station.val ∨ s.member.join ≠ .listen)
    ∧ (s.sync.state = .holdover → s.sync.holdoverRun + 1 < 4 + 2 * s.setup.station.val)

/-- The own count of the frame that a frame start begins (R19). -/
def nextCount (s : State) : Count := (s.sync.count.map (· + 1)).getD 0

/-- The frame that t begins is keyed with a program field of the station of s (R102, R103, R6). -/
def putsOnAir (s t : State) (kind : BitVec 3) (d : Desk) (last : Bool) (x : Cell) : Prop :=
  t.bus.progLatch = some
      { kind := kind
        station := BitVec.ofNat 3 s.setup.station.val
        desk := BitVec.ofNat 2 d.val
        endIdent := last
        echo := (nextCount s).extractLsb' 0 8
        samples := x }
    ∧ t.bus.keylDrive = true ∧ t.bus.progDrive = true

/-- The program field of the frame is undriven and KEYL released (R102). -/
def offAir (t : State) : Prop := t.air.state = .off ∧ t.bus.keylDrive = false ∧ t.bus.progDrive = false

/-- R142: the 208 bits received at position k are an own slot read back good, or a fresh peer slot, of a MEMBER station and
carry an unclamp order. -/
def carriesOrder (s : State) (k : Station) (x : BitVec 208) : Prop :=
  k = s.setup.station ∧ s.bus.ownSlotDriven = true
      ∧ (∃ o, s.bus.ownSlot = some o ∧ x = slotBits o ∧ o.join = .member ∧ o.flags.getLsbD 2 = true)
    ∨ k ≠ s.setup.station ∧ slotFresh (s.sync.count.getD 0) k x = true ∧ (slotOf x).join = 2
      ∧ (slotOf x).flags.getLsbD 2 = true

/-- R133: a fresh slot of a MEMBER station at a position below the own carries IDENT_ACTIVE. -/
def lowerStationIdentifies (s : State) : Prop :=
  ∃ k h, k < s.setup.station ∧ s.bus.judge.get k = .fresh ∧ s.bus.headers.get k = some h ∧ h.join = 2
    ∧ h.flags.getLsbD 4 = true

/-- R115: what the air sequencer does when it is told that a holding of the desk it serves has ended. -/
def servedEnding (s t : State) (d : Desk) : Prop :=
  s.air.serving = some d →
    (s.air.state = .lead ∨ s.air.state = .prime ∨ s.air.state = .on →
      t.air.state = .tail ∧ t.air.tailRun = 0 ∧ t.air.holdingEnded = true)
    ∧ (s.air.state = .ident → t.air.state = .ident ∧ t.air.holdingEnded = true)

/-- R115: what else it does: a pending start of the desk is dropped, and the state stays where it does not serve the desk,
and in OFF and TAIL. -/
def otherEnding (s t : State) (d : Desk) : Prop :=
  t.air.pendingStart = (if s.air.pendingStart = some d then none else s.air.pendingStart)
    ∧ (s.air.serving ≠ some d ∨ s.air.state = .off ∨ s.air.state = .tail → t.air.state = s.air.state)

/-! ### Playing cells -/

/-- R104: the samples of y are those of x scaled by a trim. -/
def scaledBy (trim : BitVec 4) (x y : Cell) : Prop :=
  ∀ i, (y.get i).toInt = ((x.get i).toInt * (16 - (trim.toNat : Int))).tdiv 16

/-- R108: the desk has what its over needs to begin. -/
abbrev canBegin (s : State) (d : Desk) : Prop :=
  min s.setup.prebuffer (quotaOf s d) ≤ (getQueue s d).cells ∨ (getDesk s d).drain = true
    ∨ (getQueue s d).hasReleaseAfter = true

/-- R107, R108: the decision of the frame is the cell choice of ON: in ON, and where PRIME or the end of LEAD finds that the
over can begin. -/
abbrev choosesCell (s : State) (d : Desk) : Prop :=
  s.air.state = .on
    ∨ (s.air.state = .prime ∨ s.air.state = .lead ∧ s.setup.lead ≤ s.air.leadRun ∧ s.air.purpose = some .desk)
      ∧ canBegin s d

/-- R95, R104, R111, R113, R114: from s to t, a cell x of a block of desk d is played, scaled by the block's trim. With
lastOne the cell is the last of a release-after block, and the holding ends with DONE. -/
def cellPlayed (s t : State) (d : Desk) (trim : BitVec 4) (x : Cell) (lastOne : Prop) : Prop :=
  (∃ p, t.bus.progLatch = some p ∧ p.kind = 1 ∧ p.desk.toNat = d.val ∧ scaledBy trim x p.samples)
    ∧ t.pool.free = s.pool.free + 1 ∧ (getQueue t d).played = min ((getQueue s d).played + 1) 65535
    ∧ t.air.starveRun = 0 ∧ t.air.voiceSent = true ∧ (s.air.voiceSent = false → deskFlagSet t d .onAir)
    ∧ (lastOne → hasState s d .holding → t.air.state = .tail ∧ t.air.tailRun = 0 ∧ t.air.holdingEnded = true
      ∧ (getDesk t d).record = idleRecord (getDesk s d) .done ∧ deskFlagSet t d .ended)
    ∧ (¬ lastOne → t.air.state = .on)

/-- R95: the block c of desk d, current in s with x next and rest after it, has x played; with no rest it finishes. -/
def currentPlayed (s t : State) (d : Desk) (c : Current) (x : Cell) (rest : List Cell) : Prop :=
  cellPlayed s t d c.trim x (rest = [] ∧ c.releaseAfter = true)
    ∧ (getQueue t d).queue = (getQueue s d).queue ∧ (getQueue t d).gap = (getQueue s d).gap
    ∧ (rest ≠ [] → (getQueue t d).current = some { c with rest := rest, playIndex := c.playIndex + 1 }
      ∧ (getQueue t d).cursor = (getQueue s d).cursor)
    ∧ (rest = [] → (getQueue t d).current = none ∧ (getQueue t d).cursor = some (c.seq + 1))

/-- R94, R95: the block b, head of the queue of desk d in s with cells x :: rest, begins and has x played; with no rest it
finishes at once. -/
def headPlayed (s t : State) (d : Desk) (b : Block) (x : Cell) (rest : List Cell) : Prop :=
  cellPlayed s t d b.trim x (rest = [] ∧ b.releaseAfter = true)
    ∧ (getQueue t d).queue = (getQueue s d).queue.tail
    ∧ (rest ≠ [] → (getQueue t d).current = some ⟨b.seq, rest, b.trim, b.releaseAfter, 1⟩
      ∧ (getQueue t d).cursor = some b.seq)
    ∧ (rest = [] → (getQueue t d).current = none ∧ (getQueue t d).cursor = some (b.seq + 1))

/-- R96, R110: the blocks from sequence c to the head b of desk d are declared lost. -/
def gapCounted (s t : State) (d : Desk) (b : Block) (c : Seq) : Prop :=
  (getQueue t d).gap = min ((getQueue s d).gap + (b.seq - c).toNat) 65535 ∧ deskFlagSet t d .gap

/-- A frame in which the air sequencer has nothing pending. -/
def nothingPending (s : State) : Prop :=
  s.air.pendingStart = none ∧ s.air.pendingIdent = none ∧ s.air.withdrawDue = false

end Sys2Proof
end

