-- ==== Sys2Proof/Certificates/Slice0/Obligations.lean ====
section
/-! DEFINITION. The statements for the provers. Each says what a command does, for every state and operands that meet its hypotheses, or a law that every step keeps. -/

open Sys2Proof Sys2Proof.Machine

/-! ### The queue, resets, start-up -/

/-- The command at the front of the queue is executed on the state with the rest of the queue. -/
def Obligations.StepRunsFrontCommand : Prop :=
  ∀ (c : Instr) (rest : List Instr) (s : State), s.pending = c :: rest → step s = exec c (s.setPending rest)

/-- The model's choice of log 4: on an empty queue one reference cycle passes, in the settle wait, a charge phase or a
discharge phase, and nothing else changes. -/
def Obligations.IdleStepIsOneReferenceCycle : Prop :=
  ∀ s : State, s.pending = [] → ∃ t, step s = .next t
    ∧ t = { s with power := t.power, guard := t.guard }
    ∧ (s.power.phase = .settling →
      t.power = ⟨.settling, min (s.power.settleCount + 1) (Config.settleCycles s.setup.settle)⟩)
    ∧ (s.power.phase ≠ .settling → t.power = s.power)
    ∧ (s.guard.phase = .chargeRef ∨ s.guard.phase = .chargeMeas →
      t.guard = { s.guard with ticks := min (s.guard.ticks + 1) 20480 })
    ∧ (s.guard.phase = .dischargeRef ∨ s.guard.phase = .dischargeMeas →
      t.guard = { s.guard with high := t.guard.high, low := t.guard.low }
        ∧ counterOf t.guard = min (counterOf s.guard + 1) 65535)
    ∧ (s.guard.phase = .off ∨ s.guard.phase = .idle → t.guard = s.guard)

/-- R183 to R186: each reset sets every block to its value after reset, from any state, and records its kind; the end of a
reset samples the straps and begins the settle wait from 0; at its end the part is up. (Values that the spec does not give are
those of logs 2, 3, 21 and 32.) -/
def Obligations.ResetAndStartUp : Prop :=
  ∀ s : State,
    (∀ c : ResetCause, ∃ t, exec (resetCommand c) s = .next t
      ∧ resetValues t ∧ t.setup.resetCause = c ∧ t.pending = s.pending)
    ∧ (∀ (stn : Station) (settle : Fin 4), s.power.phase = .inReset → exec (.resetEnd stn settle) s = .next
      { s with power := ⟨.settling, 0⟩, setup := { s.setup with station := stn, settle := settle } })
    ∧ (s.power.phase = .settling → exec .settleEnd s = .next
      { s with power := ⟨.up, Config.settleCycles s.setup.settle⟩ })

/-- R165, R1: while the part is not up no transaction has an effect, and before the setup close no frame point is signalled
and no limit counted on frame points is reached. -/
def Obligations.NothingBeforeItsTime : Prop :=
  ∀ (i : Instr) (s : State),
    (s.power.phase ≠ .up → isTransaction i = true → exec i s = .next s)
    ∧ (s.power.phase ≠ .up ∨ s.setup.closed = false → isPoint i = true → exec i s = .next s)

/-! ### The link -/

/-- R165, R167, R168: an empty transaction does nothing; a read that clocks the whole response empties the buffer, a
shorter one keeps it, one in a busy window shifts ones; a refused request is answered BAD_REQUEST. A request transaction
shifts the response pending at its CSL assertion, and ones in the busy window of an earlier request; its own response
replaces that. -/
def Obligations.ReadsAndRefusedRequests : Prop :=
  ∀ (s : State) (n : Nat), linkUp s = true → 0 < n →
    exec .emptyTransaction s = .next s
    ∧ (∀ r, s.link.response = some r → 4 + r.body.length ≤ n → exec (.readTransaction n false) s = .next
      (s.setLink
        { s.link with
          response := none
          miso := responseBytes s r ++ List.replicate (n - (4 + r.body.length)) 0xFF }))
    ∧ (∀ r, s.link.response = some r → n < 4 + r.body.length → exec (.readTransaction n false) s = .next
      (s.setLink { s.link with miso := (responseBytes s r).take n }))
    ∧ exec (.readTransaction n true) s = .next (s.setLink { s.link with miso := List.replicate n 0xFF })
    ∧ (s.link.response = none → ∀ b, exec (.readTransaction n b) s = .next
      (s.setLink { s.link with miso := List.replicate n 0xFF }))
    ∧ (∀ bytes w, badFraming bytes = true → exec (.badRequest bytes w) s = .next
      (s.setLink { s.link with response := some ⟨.badRequest, []⟩, miso := shifted s bytes.length w }))
    ∧ (∀ i, isRequest i = true → ∃ t r, exec i s = .next t ∧ t.link.response = some r
      ∧ t.link.miso = shifted s (frameOf i).length (windowOf i))
    ∧ (∀ k w, w = true ∨ s.link.response = none → shifted s k w = List.replicate k 0xFF)
    ∧ ∀ k r, s.link.response = some r →
      shifted s k false = (responseBytes s r ++ List.replicate (k - (4 + r.body.length)) 0xFF).take k

/-- R167: a frame is taken as a request exactly when none of the five framing checks refuses it. -/
def Obligations.FramingAcceptsExactlyTable : Prop :=
  ∀ (bytes : List Byte) (w : Bool), (requestOf bytes w).isSome = true ↔ ∃ code sel hi lo body,
    bytes = code :: sel :: hi :: lo :: body ∧ (word16 hi lo).toNat ≤ 330
      ∧ body.length = (word16 hi lo).toNat ∧ allowedBody code.toNat body.length

/-- Tables 10-1 and 10-2: every well-formed request is read back from its frame with every operand. -/
def Obligations.RequestFrameRoundTrip : Prop :=
  ∀ i : Instr, isRequest i = true → i.wellFormed = true → requestOf (frameOf i) (windowOf i) = some i

/-- R169 stage 2: a desk selector above 3, or a MASK selector above 4, is answered NO_DESK and changes nothing else. -/
def Obligations.SelectorOutOfRange : Prop :=
  ∀ (i : Instr) (s : State), linkUp s = true →
    (∀ d, deskSelector i = some d → 4 ≤ d.toNat → exec i s = .next (replied (windowOf i) s s (bodyLength i) .noDesk []))
    ∧ ∀ d x w, i = .mask d x w → 5 ≤ d.toNat → exec i s = .next (replied w s s 2 .noDesk [])

/-! ### Setup store -/

/-- R187: SET checks, in order, the close, the field number and the range; an accepted SET writes that field and no
other, and pool_size forms or re-forms the pool (R83). -/
def Obligations.SetWritesOneField : Prop :=
  ∀ (s : State) (f : Byte) (v : BitVec 32) (w : Bool), linkUp s = true →
    (s.setup.closed = true → exec (.setField f v w) s = .next (replied w s s 4 .setupClosed []))
    ∧ (s.setup.closed = false → (f.toNat = 0 ∨ 19 < f.toNat) →
      exec (.setField f v w) s = .next (replied w s s 4 .badField []))
    ∧ (s.setup.closed = false → 1 ≤ f.toNat → f.toNat ≤ 19 → ¬ fieldRange f.toNat v.toNat →
      exec (.setField f v w) s = .next (replied w s s 4 .badValue []))
    ∧ (s.setup.closed = false → fieldRange f.toNat v.toNat → fieldValue s f.toNat = some v.toNat →
      exec (.setField f v w) s = .next (replied w s s 4 .ok []))
    ∧ (s.setup.closed = false → fieldRange f.toNat v.toNat → ∃ t, exec (.setField f v w) s = .next (replied w s t 4 .ok [])
      ∧ t = { s with setup := t.setup, pool := t.pool }
      ∧ fieldValue t f.toNat = some v.toNat ∧ (∀ g, g ≠ f.toNat → fieldValue t g = fieldValue s g)
      ∧ t.setup.station = s.setup.station ∧ t.setup.settle = s.setup.settle ∧ t.setup.resetCause = s.setup.resetCause
      ∧ t.setup.closed = false ∧ t.setup.digest = s.setup.digest ∧ t.setup.clipReady = s.setup.clipReady
      ∧ (f.toNat ≠ 2 → t.pool = s.pool)
      ∧ (f.toNat = 2 → s.pool.size ≠ some v.toNat →
        t.pool = { s.pool with size := some v.toNat, free := v.toNat - s.pool.clip.length }))

/-- R189, R85: LOAD_CLIP checks in order, and writes and grows the clip region from the free list. -/
def Obligations.LoadClipWritesTheClip : Prop :=
  ∀ (s : State) (o : Word16) (cells : List Cell) (w : Bool), linkUp s = true →
    (s.setup.closed = true →
      exec (.loadClip o cells w) s = .next (replied w s s (2 + 16 * cells.length) .setupClosed []))
    ∧ (s.setup.closed = false → s.pool.size = none →
      exec (.loadClip o cells w) s = .next (replied w s s (2 + 16 * cells.length) .notReady []))
    ∧ (s.setup.closed = false → s.pool.size ≠ none →
      (cells.length = 0 ∨ 20 < cells.length ∨ 399 < o.toNat ∨ 400 < o.toNat + cells.length) →
      exec (.loadClip o cells w) s = .next (replied w s s (2 + 16 * cells.length) .badValue []))
    ∧ (s.setup.closed = false → s.pool.size ≠ none → 1 ≤ cells.length → cells.length ≤ 20 → o.toNat ≤ 399 →
      o.toNat + cells.length ≤ 400 → ∃ p : Pool,
        exec (.loadClip o cells w) s = .next (replied w s (s.setPool p) (2 + 16 * cells.length) .ok [])
        ∧ p = { s.pool with clip := p.clip, free := s.pool.free - (p.clip.length - s.pool.clip.length) }
        ∧ p.clip.length = max s.pool.clip.length (o.toNat + cells.length)
        ∧ ∀ i, i < p.clip.length → p.clip[i]? =
          if o.toNat ≤ i ∧ i < o.toNat + cells.length then cells[i - o.toNat]?
          else if i < s.pool.clip.length then s.pool.clip[i]? else some (Eight.all 0))

/-- R190: the four checks of the close in order, each with the field number it returns; a refused close changes nothing. -/
def Obligations.CloseSetupRefused : Prop :=
  ∀ (s : State) (w : Bool), linkUp s = true →
    (s.setup.closed = true → exec (.closeSetup w) s = .next (replied w s s 0 .setupClosed []))
    ∧ (s.setup.closed = false →
      (s.pool.size = none → exec (.closeSetup w) s = .next (replied w s s 0 .badValue [2]))
      ∧ ∀ n, s.pool.size = some n →
        (∀ d : Desk, deskEnabled s d = true → s.setup.quota.get d < 20 →
          (∀ e : Desk, e < d → deskEnabled s e = true → 20 ≤ s.setup.quota.get e) →
          exec (.closeSetup w) s = .next (replied w s s 0 .badValue [BitVec.ofNat 8 (3 + d.val)]))
        ∧ ((∀ d : Desk, deskEnabled s d = true → 20 ≤ s.setup.quota.get d) →
          (n < enabledSum s + s.pool.clip.length → exec (.closeSetup w) s = .next (replied w s s 0 .badValue [2]))
          ∧ (enabledSum s + s.pool.clip.length ≤ n → s.setup.heatClear ≤ s.setup.heatTrip →
            exec (.closeSetup w) s = .next (replied w s s 0 .badValue [10]))))

/-- R191, R188, R86, R19, R20, R31: a close that passes closes the record, gives the pool its quotas, starts the frame
timing in HUNT and LISTEN with SYNC_CHANGE raised, and starts a guard whose field is set. -/
def Obligations.CloseSetupStartsTheStation : Prop :=
  ∀ (s : State) (n : Nat) (w : Bool), linkUp s = true → s.setup.closed = false → s.pool.size = some n →
    (∀ d : Desk, deskEnabled s d = true → 20 ≤ s.setup.quota.get d) → enabledSum s + s.pool.clip.length ≤ n →
    s.setup.heatTrip < s.setup.heatClear → s.guard.on = false → ∃ t, exec (.closeSetup w) s = .next t
      ∧ t.setup = { s.setup with
          closed := true
          digest := some (crcBytes (numBytes 3 s.setup.totLimit ++ numBytes 2 s.setup.coolOff ++ numBytes 3 s.setup.maxWait
            ++ numBytes 1 s.setup.lead ++ numBytes 1 s.setup.tail ++ numBytes 2 s.setup.silenceHold
            ++ numBytes 1 s.setup.prebuffer ++ numBytes 2 s.setup.idInterval ++ numBytes 2 s.setup.tailWait))
          clipReady := decide (0 < s.pool.clip.length) }
      ∧ t.pool.clip = s.pool.clip ∧ t.pool.free = n - s.pool.clip.length
      ∧ (∀ d, t.pool.quota.get d = (if deskEnabled s d then some (s.setup.quota.get d) else none)
        ∧ (getQueue t d).queue = [] ∧ (getQueue t d).current = none ∧ (getQueue t d).cursor = none)
      ∧ t.sync.state = .hunt ∧ t.sync.timingRunning = true ∧ t.sync.count = none ∧ t.sync.huntRun = 0
      ∧ (s.member.join = .unset → t.member.join = .listen)
      ∧ t.bus.sampNow = ⟨false, false, false, false⟩ ∧ t.bus.sampPrev = ⟨false, false, false, false⟩
      ∧ t.bus.ownSlotDriven = false ∧ t.air.state = .off ∧ t.clamp.seen = .settling ∧ t.clamp.settleRun = 0
      ∧ (s.setup.guardOn = true → t.guard.on = true ∧ t.guard.phase = .chargeRef ∧ siteFlagSet t .guard)
      ∧ (s.setup.guardOn = false → t.guard = s.guard)
      ∧ siteFlagSet t .syncChange ∧ t.link.response = some ⟨.ok, []⟩

/-- R150: GUARD_ON is refused before the close; after it, guard-on becomes set once, raising GUARD. -/
def Obligations.GuardOnIsSetOnce : Prop :=
  ∀ (s : State) (w : Bool), linkUp s = true →
    (s.setup.closed = false → exec (.guardOn w) s = .next (replied w s s 0 .notReady []))
    ∧ (s.setup.closed = true → s.guard.on = true → exec (.guardOn w) s = .next (replied w s s 0 .ok []))
    ∧ (s.setup.closed = true → s.guard.on = false → exec (.guardOn w) s = .next (replied w s
      { s with
        guard := { s.guard with on := true, phase := .idle, since := 0, beginDue := true }
        link := { s.link with siteFlags := s.link.siteFlags ||| SiteFlag.guard.mask } } 0 .ok []))

/-! ### Desks -/

/-- R42: OPEN_DESK checks in order; an opened desk is IDLE with the class given, and its playout state is that of Table
5-1, its cells on the free list. (That the stamp-set mark is kept is the reading of log 28.) -/
def Obligations.OpenDeskMakesItIdle : Prop :=
  ∀ (s : State) (d : Desk) (sel cls : Byte) (w : Bool), linkUp s = true → sel.toNat = d.val →
    (s.setup.closed = false → exec (.openDesk sel cls w) s = .next (replied w s s 1 .notReady []))
    ∧ (s.setup.closed = true →
      (deskEnabled s d = false → exec (.openDesk sel cls w) s = .next (replied w s s 1 .noDesk []))
      ∧ (deskEnabled s d = true →
        (1 < cls.toNat → exec (.openDesk sel cls w) s = .next (replied w s s 1 .badValue []))
        ∧ (cls.toNat ≤ 1 →
          ((getDesk s d).record.state ≠ .absent → exec (.openDesk sel cls w) s = .next (replied w s s 1 .already []))
          ∧ ((getDesk s d).record.state = .absent → exec (.openDesk sel cls w) s = .next (replied w s
            ((setDesk s d
              { getDesk s d with
                record := ⟨.idle, if cls = 0 then .normal else .control, .noReason, 0⟩
                drain := false
                barRun := 0
                ack := false }).setPool
              { s.pool with
                desks := s.pool.desks.set d ⟨[], none, none, 0, 0, 0, 0, 0, 0, 0⟩
                free := s.pool.free + (getQueue s d).cells }) 1 .ok [])))))

/-- R43: CLAIM checks in order; an accepted CLAIM makes the desk WAITING with its stamp not set. -/
def Obligations.ClaimMakesTheDeskWait : Prop :=
  ∀ (s : State) (d : Desk) (sel : Byte) (w : Bool), linkUp s = true → sel.toNat = d.val →
    (s.setup.closed = false → exec (.claim sel w) s = .next (replied w s s 0 .notReady []))
    ∧ (s.setup.closed = true →
      (s.member.join = .fenced → exec (.claim sel w) s = .next (replied w s s 0 .fenced []))
      ∧ (s.member.join ≠ .fenced →
        (hasState s d .absent → exec (.claim sel w) s = .next (replied w s s 0 .notOpen []))
        ∧ (hasState s d .waiting ∨ hasState s d .holding → exec (.claim sel w) s = .next (replied w s s 0 .already []))
        ∧ (hasState s d .barred → exec (.claim sel w) s = .next (replied w s s 0 .barred []))
        ∧ (hasState s d .idle → ¬ (s.member.join = .member ∧ s.member.standing = 8) →
          exec (.claim sel w) s = .next (replied w s s 0 .notJoined []))
        ∧ (hasState s d .idle → s.member.join = .member → s.member.standing = 8 →
          exec (.claim sel w) s = .next (replied w s (setDesk s d
            { getDesk s d with
              record := { (getDesk s d).record with state := .waiting, reason := .noReason }
              stampSet := false }) 0 .ok []))))

/-- R44, R47, R50, R115: RELEASE by the state of the desk. A holding released with NOW ends with RELEASED, ENDED is raised
and the air sequencer is told. (BAD_VALUE before NOT_READY is the reading of log 24; that a withdrawal and an ending keep the
stamp-set mark is that of log 28.) -/
def Obligations.ReleaseEndsHoldingOrWait : Prop :=
  ∀ (s : State) (d : Desk) (sel mode : Byte) (w : Bool), linkUp s = true → sel.toNat = d.val →
    (1 < mode.toNat → exec (.release sel mode w) s = .next (replied w s s 1 .badValue []))
    ∧ (mode.toNat ≤ 1 →
      (s.setup.closed = false → exec (.release sel mode w) s = .next (replied w s s 1 .notReady []))
      ∧ (s.setup.closed = true →
        (hasState s d .absent → exec (.release sel mode w) s = .next (replied w s s 1 .notOpen []))
        ∧ (hasState s d .idle ∨ hasState s d .barred → exec (.release sel mode w) s = .next (replied w s s 1 .already []))
        ∧ (hasState s d .waiting → ∃ t, exec (.release sel mode w) s = .next (replied w s t 1 .ok [])
          ∧ t = { s with claims := t.claims, link := t.link }
          ∧ t.claims = (setDesk s d
            { getDesk s d with
              record := ⟨.idle, (getDesk s d).record.cls, .released, 0⟩
              endPub := pubAfter (getDesk s d) ⟨.idle, (getDesk s d).record.cls, .released, 0⟩ }).claims
          ∧ deskFlagSet t d .waitEnd)
        ∧ (hasState s d .holding → mode.toNat = 1 →
          exec (.release sel mode w) s = .next (replied w s (setDesk s d { getDesk s d with drain := true }) 1 .ok []))
        ∧ (hasState s d .holding → mode.toNat = 0 → ∃ t, exec (.release sel mode w) s = .next (replied w s t 1 .ok [])
          ∧ t = { s with claims := t.claims, link := t.link, air := t.air }
          ∧ t.claims = (setDesk s d
            { getDesk s d with
              record := ⟨.idle, (getDesk s d).record.cls, .released, 0⟩
              drain := false
              endPub := pubAfter (getDesk s d) ⟨.idle, (getDesk s d).record.cls, .released, 0⟩ }).claims
          ∧ deskFlagSet t d .ended ∧ servedEnding s t d ∧ otherEnding s t d)))

/-- R45, R47, R97, R115: CLOSE_DESK ends any holding or wait with CLOSED, makes the desk ABSENT, flushes its queue and clears
its flags; the air sequencer is told of a holding. (That the stamp-set mark is kept is the reading of log 28.) -/
def Obligations.CloseDeskMakesItAbsent : Prop :=
  ∀ (s : State) (d : Desk) (sel : Byte) (w : Bool), linkUp s = true → sel.toNat = d.val →
    (s.setup.closed = false → exec (.closeDesk sel w) s = .next (replied w s s 0 .notReady []))
    ∧ (s.setup.closed = true →
      (hasState s d .absent → exec (.closeDesk sel w) s = .next (replied w s s 0 .notOpen []))
      ∧ (¬ hasState s d .absent → ∃ t, exec (.closeDesk sel w) s = .next (replied w s t 0 .ok [])
        ∧ t = { s with claims := t.claims, link := t.link, air := t.air, pool := t.pool }
        ∧ t.claims = (setDesk s d
          { getDesk s d with
            record := ⟨.absent, .normal, .noReason, 0⟩
            drain := false
            barRun := 0
            ack := false
            endPub := if hasState s d .holding ∨ hasState s d .waiting then
                pubAfter (getDesk s d) ⟨.idle, (getDesk s d).record.cls, .closed, 0⟩ else (getDesk s d).endPub }).claims
        ∧ t.pool =
          { s.pool with
            desks := s.pool.desks.set d { getQueue s d with queue := [], current := none, cursor := none }
            free := s.pool.free + (getQueue s d).cells }
        ∧ t.link = { s.link with deskFlags := s.link.deskFlags.set d 0 }
        ∧ (hasState s d .holding → servedEnding s t d ∧ otherEnding s t d)
        ∧ (¬ hasState s d .holding → t.air = s.air)))

/-! ### Playout pool -/

/-- R91: the checks of PUSH in order, each with its answer and the count it increases. -/
def Obligations.PushRefused : Prop :=
  ∀ (s : State) (d : Desk) (sel : Byte) (n : Seq) (f : Byte) (cells : List Cell) (w : Bool), linkUp s = true → sel.toNat = d.val →
    (s.setup.closed = false →
      exec (.push sel n f cells w) s = .next (replied w s s (3 + 16 * cells.length) .notReady (pushBody (getQueue s d))))
    ∧ (s.setup.closed = true →
      (cells.length = 0 ∨ 20 < cells.length →
        exec (.push sel n f cells w) s = .next (replied w s s (3 + 16 * cells.length) .badValue (pushBody (getQueue s d))))
      ∧ (1 ≤ cells.length → cells.length ≤ 20 →
        (s.member.join = .fenced →
          exec (.push sel n f cells w) s = .next (replied w s s (3 + 16 * cells.length) .fenced (pushBody (getQueue s d))))
        ∧ (s.member.join ≠ .fenced →
          (hasState s d .absent → exec (.push sel n f cells w) s = .next
            (replied w s s (3 + 16 * cells.length) .notOpen (pushBody (getQueue s d))))
          ∧ (hasState s d .barred → exec (.push sel n f cells w) s = .next
            (replied w s s (3 + 16 * cells.length) .barred (pushBody (getQueue s d))))
          ∧ (¬ hasState s d .absent → ¬ hasState s d .barred →
            ((getQueue s d).holds n = true → exec (.push sel n f cells w) s = .next
              (replied w s (setQueue d { getQueue s d with duplicate := min ((getQueue s d).duplicate + 1) 65535 } s)
                (3 + 16 * cells.length) .duplicate (pushBody (getQueue s d))))
            ∧ ((getQueue s d).holds n = false → (getQueue s d).isLate n = true → exec (.push sel n f cells w) s = .next
              (replied w s (setQueue d { getQueue s d with late := min ((getQueue s d).late + 1) 65535 } s)
                (3 + 16 * cells.length) .late (pushBody (getQueue s d))))
            ∧ ((getQueue s d).holds n = false → (getQueue s d).isLate n = false →
              (32 < (getQueue s d).queue.length + 1 ∨ quotaOf s d < (getQueue s d).cells + cells.length) →
              exec (.push sel n f cells w) s = .next
              (replied w s (setQueue d { getQueue s d with full := min ((getQueue s d).full + 1) 65535 } s)
                (3 + 16 * cells.length) .full (pushBody (getQueue s d))))))))

/-- R92, R88, R90: an accepted block takes its cells from the free list, carries the desk's trim and bit 0 of the flags,
and stands in the queue between the blocks before it and those after it; in a queue that keeps R90, that law still holds. -/
def Obligations.PushAccepted : Prop :=
  ∀ (s : State) (d : Desk) (sel : Byte) (n : Seq) (f : Byte) (cells : List Cell) (w : Bool), linkUp s = true → sel.toNat = d.val →
    s.setup.closed = true → 1 ≤ cells.length → cells.length ≤ 20 → s.member.join ≠ .fenced →
    ¬ hasState s d .absent → ¬ hasState s d .barred → (getQueue s d).holds n = false → (getQueue s d).isLate n = false →
    (getQueue s d).queue.length + 1 ≤ 32 → (getQueue s d).cells + cells.length ≤ quotaOf s d →
    ∃ (q : DeskQueue) (before after : List Block), exec (.push sel n f cells w) s = .next
      (replied w s (s.setPool { s.pool with desks := s.pool.desks.set d q, free := s.pool.free - cells.length })
        (3 + 16 * cells.length) .ok (pushBody q))
      ∧ q = { getQueue s d with queue := q.queue, accepted := min ((getQueue s d).accepted + 1) 65535 }
      ∧ (getQueue s d).queue = before ++ after
      ∧ q.queue = before ++ ⟨n, cells, (getQueue s d).trim, f.getLsbD 0⟩ :: after
      ∧ (queueLaw (getQueue s d) → queueLaw q)

/-- R97: FLUSH returns every cell of the queue and the current block and unsets the cursor; counts, trim, the claim record
and the air sequencer stay. -/
def Obligations.FlushEmptiesTheQueue : Prop :=
  ∀ (s : State) (d : Desk) (sel : Byte) (w : Bool), linkUp s = true → sel.toNat = d.val →
    (s.setup.closed = false → exec (.flush sel w) s = .next (replied w s s 0 .notReady []))
    ∧ (s.setup.closed = true → hasState s d .absent → exec (.flush sel w) s = .next (replied w s s 0 .notOpen []))
    ∧ (s.setup.closed = true → ¬ hasState s d .absent → exec (.flush sel w) s = .next (replied w s
      (s.setPool
        { s.pool with
          desks := s.pool.desks.set d { getQueue s d with queue := [], current := none, cursor := none }
          free := s.pool.free + (getQueue s d).cells }) 0 .ok []))

/-- R89: TRIM, its checks in order. Queued blocks and the current block keep their trim, and OPEN_DESK sets it to 0. -/
def Obligations.TrimSetsTheTrim : Prop :=
  ∀ (s : State) (d : Desk) (sel x : Byte) (w : Bool), linkUp s = true → sel.toNat = d.val →
    (s.setup.closed = false → exec (.trim sel x w) s = .next (replied w s s 1 .notReady []))
    ∧ (s.setup.closed = true → 15 < x.toNat → exec (.trim sel x w) s = .next (replied w s s 1 .badValue []))
    ∧ (s.setup.closed = true → x.toNat ≤ 15 → hasState s d .absent →
      exec (.trim sel x w) s = .next (replied w s s 1 .notOpen []))
    ∧ (s.setup.closed = true → x.toNat ≤ 15 → ¬ hasState s d .absent → ∃ t : BitVec 4, t.toNat = x.toNat ∧
      exec (.trim sel x w) s = .next (replied w s
        (s.setPool { s.pool with desks := s.pool.desks.set d { getQueue s d with trim := t } }) 1 .ok []))
    ∧ (s.setup.closed = true → deskEnabled s d = true → hasState s d .absent → x.toNat ≤ 1 →
      ∃ t, exec (.openDesk sel x w) s = .next t ∧ (getQueue t d).trim = 0)

/-! ### Events, reports, clamp requests, masks -/

/-- R177, R178, R54: DESK_EVENTS and SITE_EVENTS return the flags as they stand and clear them. DESK_EVENTS then gives a
BARRED desk the starvation acknowledgment and lifts its bar where the run is complete, raising BAR_LIFTED after the
clearing. -/
def Obligations.EventsReadAndClear : Prop :=
  ∀ (s : State) (d : Desk) (sel : Byte) (w : Bool), linkUp s = true → sel.toNat = d.val →
    exec (.siteEvents w) s = .next (replied w s (s.setLink { s.link with siteFlags := 0 }) 0 .ok
      (bytes16 (s.link.siteFlags.setWidth 16)))
    ∧ (¬ hasState s d .barred → exec (.deskEvents sel w) s = .next (replied w s
      (s.setLink { s.link with deskFlags := s.link.deskFlags.set d 0 }) 0 .ok
      (bytes16 ((s.link.deskFlags.get d).setWidth 16))))
    ∧ (hasState s d .barred → s.setup.coolOff ≤ (getDesk s d).barRun → exec (.deskEvents sel w) s = .next (replied w s
      ((setDesk s d { getDesk s d with record := { (getDesk s d).record with state := .idle }, ack := true }).setLink
        { s.link with deskFlags := s.link.deskFlags.set d DeskFlag.barLifted.mask }) 0 .ok
      (bytes16 ((s.link.deskFlags.get d).setWidth 16))))
    ∧ (hasState s d .barred → (getDesk s d).barRun < s.setup.coolOff → exec (.deskEvents sel w) s = .next (replied w s
      ((setDesk s d { getDesk s d with ack := true }).setLink
        { s.link with deskFlags := s.link.deskFlags.set d 0 }) 0 .ok
      (bytes16 ((s.link.deskFlags.get d).setWidth 16))))

/-- R179 to R182, R121, R156: a report returns its body, of at most 512 bytes, and changes nothing. After the close DESK_STATUS
of a desk that is not served uses up one free value (the model's own, log 18); before it, such a desk reads OFF with no voice
sent. -/
def Obligations.ReportsChangeNothing : Prop :=
  ∀ (s : State) (d : Desk) (sel : Byte) (w : Bool), linkUp s = true → sel.toNat = d.val →
    exec (.siteStatus w) s = .next (replied w s s 0 .ok (siteStatusBody s))
    ∧ exec (.floorView w) s = .next (replied w s s 0 .ok (floorViewBody s))
    ∧ exec (.history w) s = .next (replied w s s 0 .ok (bytes16 s.history.total ++ numBytes 1 s.history.ring.length
      ++ s.history.ring.flatMap fun e => numBytes 1 e.station.val ++ numBytes 1 e.desk.val ++ numBytes 1 e.cls.code
        ++ numBytes 3 e.start.toNat ++ numBytes 3 e.length ++ numBytes 1 e.reason.code))
    ∧ exec (.guardRead w) s = .next (replied w s s 0 .ok (guardBody s))
    ∧ (s.air.serving = some d ∨ s.setup.closed = false →
      exec (.deskStatus sel w) s = .next (replied w s s 0 .ok (deskStatusBody s d)))
    ∧ (s.air.serving ≠ some d → s.setup.closed = true → exec (.deskStatus sel w) s = .next
      (replied w s { s with freeIx := s.freeIx + 1 } 0 .ok (deskStatusBody s d)))
    ∧ (s.air.serving ≠ some d → ∃ x : Byte, (s.setup.closed = false → x = 0) ∧
      deskStatusBody s d = deskClaimReport s d ++ [0, x] ++ deskPoolReport s d
        ++ wordBytes (s.link.deskFlags.get d) ++ wordBytes (s.link.deskMasks.get d))
    ∧ (deskStatusBody s d).length ≤ 512 ∧ (siteStatusBody s).length ≤ 512 ∧ (floorViewBody s).length ≤ 512
    ∧ (guardBody s).length ≤ 512 ∧ (ringLaw s → (historyBody s).length ≤ 512)

/-- R140, R141: CLAMP and UNCLAMP need an open CONTROL desk. CLAMP sets OPERATOR, raising CLAMP_CHANGE where it was clear;
UNCLAMP sets the publication counter to 4 and clears no cause. -/
def Obligations.ClampSetsOperator : Prop :=
  ∀ (s : State) (d : Desk) (sel : Byte) (w : Bool), linkUp s = true → sel.toNat = d.val →
    (s.setup.closed = false → exec (.clamp sel w) s = .next (replied w s s 0 .notReady [])
      ∧ exec (.unclamp sel w) s = .next (replied w s s 0 .notReady []))
    ∧ (s.setup.closed = true → (hasState s d .absent ∨ (getDesk s d).record.cls = .normal) →
      exec (.clamp sel w) s = .next (replied w s s 0 .notControl [])
      ∧ exec (.unclamp sel w) s = .next (replied w s s 0 .notControl []))
    ∧ (s.setup.closed = true → ¬ hasState s d .absent → (getDesk s d).record.cls = .control →
      exec (.unclamp sel w) s = .next (replied w s (s.setClamp { s.clamp with unclampCtr := 4 }) 0 .ok [])
      ∧ (s.clamp.causes &&& 0x80 ≠ 0 → exec (.clamp sel w) s = .next (replied w s s 0 .ok []))
      ∧ (s.clamp.causes &&& 0x80 = 0 → exec (.clamp sel w) s = .next (replied w s
        { s with
          clamp := { s.clamp with causes := s.clamp.causes ||| 0x80 }
          link := { s.link with siteFlags := s.link.siteFlags ||| SiteFlag.clampChange.mask } } 0 .ok [])))

/-- R174: MASK of a desk and of the site; a word with a bit that names no flag is answered BAD_VALUE. -/
def Obligations.MaskBecomesTheWord : Prop :=
  ∀ (s : State) (sel : Byte) (x : Word16) (w : Bool), linkUp s = true →
    (∀ d : Desk, sel.toNat = d.val → x.toNat < 64 → exec (.mask sel x w) s = .next (replied w s
      (s.setLink { s.link with deskMasks := s.link.deskMasks.set d (x.setWidth 6) }) 2 .ok (bytes16 x)))
    ∧ (∀ d : Desk, sel.toNat = d.val → 64 ≤ x.toNat → exec (.mask sel x w) s = .next (replied w s s 2 .badValue []))
    ∧ (sel = 4 → x.toNat < 2048 → exec (.mask sel x w) s = .next (replied w s
      (s.setLink { s.link with siteMask := x.setWidth 11 }) 2 .ok (bytes16 x)))
    ∧ (sel = 4 → 2048 ≤ x.toNat → exec (.mask sel x w) s = .next (replied w s s 2 .badValue []))

/-- R175: each summary bit says whether a pending flag of its set is unmasked; ATTN follows the summary at every moment,
negated during reset and settle; reading the summary clears nothing. -/
def Obligations.SummaryAndAttnFollowFlags : Prop :=
  ∀ s : State,
    (∀ d : Desk, (summary s).getLsbD d.val = true ↔
      ∃ f : DeskFlag, deskFlagSet s d f ∧ s.link.deskMasks.get d &&& f.mask = 0)
    ∧ ((summary s).getLsbD 4 = true ↔ ∃ f : SiteFlag, siteFlagSet s f ∧ s.link.siteMask &&& f.mask = 0)
    ∧ (∀ i, 5 ≤ i → (summary s).getLsbD i = false)
    ∧ (attn s = true ↔ s.power.phase = .up ∧ summary s ≠ 0)
    ∧ ∀ n b, ∃ t, exec (.readTransaction n b) s = .next t
      ∧ t.link = { s.link with response := t.link.response, miso := t.link.miso } ∧ summary t = summary s ∧ attn t = attn s

/-! ### The wire -/

/-- R9: start and step of the CRC, its value for "123456789", what a good CRC is on reception, and that the CRC a station
sends after its data is good so. -/
def Obligations.CrcIsThatOfR9 : Prop :=
  crcBits [] = 0xFFFF
    ∧ (∀ bits b, crcBits (bits ++ [b]) =
      if (crcBits bits).getMsbD 0 = b then crcBits bits <<< 1 else (crcBits bits <<< 1) ^^^ 0x1021)
    ∧ (∀ bytes (x : Byte), crcBytes (bytes ++ [x]) = (List.range 8).foldl (fun r i => crcStep r (x.getMsbD i)) (crcBytes bytes))
    ∧ crcBytes [0x31, 0x32, 0x33, 0x34, 0x35, 0x36, 0x37, 0x38, 0x39] = 0x29B1
    ∧ (∀ b : BitVec 208, slotCrcGood b = true ↔
      crcBits ((List.range 192).map fun i => b.getMsbD i) = b.extractLsb' 0 16)
    ∧ (∀ b : BitVec 168, progCrcGood b = true ↔
      crcBits ((List.range 152).map fun i => b.getMsbD i) = b.extractLsb' 0 16)
    ∧ (∀ o : OwnSlot, slotCrcGood (slotBits o) = true) ∧ ∀ p : ProgField, progCrcGood (progBits p) = true

/-- Table 1-2, R3, R5, R6, R9, R10, R17: what a station drives is read back field by field: the sync fields, a slot, which
a peer of the same count judges fresh, and a program field, which it classifies GOOD. -/
def Obligations.WireFormsReadBack : Prop :=
  (∀ (c : Count) (n : Station), syncPatternOf (syncBits c n) = 0xD14B ∧ syncCountOf (syncBits c n) = c
    ∧ syncStationOf (syncBits c n) = n)
    ∧ (∀ (o : OwnSlot) (c : Count), o.echo = some (c.extractLsb' 0 8) → (∀ d, (o.recs.get d).reason ≠ .lost) →
      slotFresh c o.station (slotBits o) = true
      ∧ (slotOf (slotBits o)).join = o.join.field ∧ (slotOf (slotBits o)).setupDigest = o.setupDigest
      ∧ (slotOf (slotBits o)).viewDigest = o.viewDigest ∧ (slotOf (slotBits o)).causes = o.causes
      ∧ (slotOf (slotBits o)).flags = o.flags ∧ (slotOf (slotBits o)).recs = o.recs)
    ∧ ∀ (p : ProgField) (c : Count), p.echo = c.extractLsb' 0 8 → p.kind.toNat ≤ 2 →
      classify c (progBits p) = .good ∧ progOf (progBits p) = p

/-! ### Frame start -/

/-- R19, R22, R27, R10, R13, R4, R32, R33, R125, R151: a frame start at which no wait runs out, in every sync state: it advances
a held count and the wait of HUNT or HOLDOVER, makes every peer position STALE and the readback NONE, decides the own
slot's drive, and counts the announcement, the standing, the due age and the frame starts of the guard meter. -/
def Obligations.FrameStartAdvances : Prop :=
  ∀ (s : State) (b : Bool), frameRuns s = true → waitGoesOn s →
    ∃ t, exec (.frameStart b) s = .next t
      ∧ t.sync = { s.sync with
          count := s.sync.count.map (· + 1)
          huntRun := if s.sync.state = .hunt then min (s.sync.huntRun + 1) (16 + 4 * s.setup.station.val) else s.sync.huntRun
          holdoverRun := if s.sync.state = .holdover then s.sync.holdoverRun + 1 else s.sync.holdoverRun }
      ∧ (∀ k, t.bus.judge.get k = if k = s.setup.station then .own else .stale)
      ∧ t.bus.readback = .notDriven ∧ t.bus.syncGood = false ∧ t.bus.relockRest = false
      ∧ (t.bus.ownSlotDriven = true ↔ (s.sync.state = .locked ∨ s.sync.state = .timing)
        ∧ (s.member.join = .announce ∨ s.member.join = .member ∨ s.member.join = .mismatch))
      ∧ t.member = { s.member with
          standing := if s.member.join = .member then min (s.member.standing + 1) 8 else s.member.standing
          announceRun := if s.member.join = .announce ∧ (s.sync.state = .locked ∨ s.sync.state = .timing) then
              min (s.member.announceRun + 1) 16 else s.member.announceRun }
      ∧ t.bus.headers = s.bus.headers ∧ t.bus.sampNow = s.bus.sampNow ∧ t.bus.sampPrev = s.bus.sampPrev
      ∧ t.bus.progResult = s.bus.progResult ∧ t.bus.fenceRun = s.bus.fenceRun
      ∧ t.ident.dueAge = (if s.ident.due then min (s.ident.dueAge + 1) 100 else s.ident.dueAge)
      ∧ t.ident.a = s.ident.a ∧ t.ident.due = s.ident.due
      ∧ (s.guard.on = false → t.guard = s.guard)
      ∧ (s.guard.on = true → s.guard.beginDue = false → s.guard.since + 1 < 100 →
        t.guard = { s.guard with since := s.guard.since + 1 })
      ∧ t = { s with
          bus := t.bus, sync := t.sync, member := t.member, claims := t.claims, pool := t.pool, air := t.air
          ident := t.ident, clamp := t.clamp, guard := t.guard, link := t.link }

/-- R40, R48, R53, R54: what a frame start publishes for a desk, in every sync state (a frame start that enters HUNT apart, which
ends holdings and waits before): the ended record that waits for publication, else the local record, its stamp set now
where it is a claim not yet published; the bar work comes before. A holding that the air sequencer ends at the frame start
is published as ended where the report is taken first, and as HOLDING, the ended record waiting, where it is not. -/
def Obligations.FrameStartPublishesRecords : Prop :=
  ∀ (s : State) (b : Bool) (d : Desk), frameRuns s = true →
    ¬ (s.sync.state = .holdover ∧ 4 + 2 * s.setup.station.val ≤ s.sync.holdoverRun + 1 ∧ s.member.join ≠ .member) →
    ∃ t, exec (.frameStart b) s = .next t
      ∧ (∀ r, (getDesk s d).endPub = some r → (getDesk t d).published = r)
      ∧ (b = false ∨ s.air.serving ≠ some d → (getDesk s d).endPub = none →
        ((hasState s d .waiting ∨ hasState s d .holding) → (getDesk s d).stampSet = false →
          (getDesk t d).published = { (getDesk s d).record with stamp := nextCount s } ∧ (getDesk t d).stampSet = true)
        ∧ ((hasState s d .waiting ∨ hasState s d .holding) → (getDesk s d).stampSet = true →
          (getDesk t d).published = (getDesk s d).record)
        ∧ (hasState s d .idle ∨ hasState s d .absent → (getDesk t d).published = (getDesk s d).record)
        ∧ (hasState s d .barred → (getDesk s d).barRun + 1 < s.setup.coolOff →
          (getDesk t d).published = (getDesk s d).record ∧ (getDesk t d).barRun = (getDesk s d).barRun + 1)
        ∧ (hasState s d .barred → s.setup.coolOff ≤ (getDesk s d).barRun + 1 →
          (getDesk s d).record.reason = .starved → (getDesk s d).ack = false →
          (getDesk t d).published = (getDesk s d).record)
        ∧ (hasState s d .barred → s.setup.coolOff ≤ (getDesk s d).barRun + 1 →
          ((getDesk s d).record.reason ≠ .starved ∨ (getDesk s d).ack = true) →
          (getDesk t d).published = { (getDesk s d).record with state := .idle }
          ∧ (getDesk t d).record = { (getDesk s d).record with state := .idle } ∧ deskFlagSet t d .barLifted))
      ∧ (hasState s d .holding → (getDesk s d).endPub = none →
        (b = true → hasState t d .holding → (getDesk t d).published = (getDesk t d).record ∧ (getDesk t d).stampSet = true)
        ∧ (b = true → ¬ hasState t d .holding →
          (getDesk t d).published = (getDesk t d).record ∧ (getDesk t d).endPub = none)
        ∧ (b = false → ¬ hasState t d .holding →
          (getDesk t d).published.state = .holding ∧ (getDesk t d).endPub = some (getDesk t d).record))
      ∧ (s.air.state = .off → nothingPending s → (getDesk t d).endPub = none)

/-- R3, R5, R8, R141: the latches of a frame, in every sync state. The slot's view digest is that held from the frame before; its order flag shows
the counter before this frame takes one from it. -/
def Obligations.OwnSlotLatched : Prop :=
  ∀ (s : State) (b : Bool), frameRuns s = true → waitGoesOn s →
    ∃ (t : State) (o : OwnSlot), exec (.frameStart b) s = .next t ∧ t.bus.ownSlot = some o
      ∧ o.station = s.setup.station ∧ o.join = s.member.join
      ∧ o.echo = s.sync.count.map (fun c => (c + 1).extractLsb' 0 8)
      ∧ o.setupDigest = s.setup.digest.getD 0 ∧ o.viewDigest = s.claims.viewDigest ∧ o.causes = s.clamp.causes
      ∧ o.flags.getLsbD 4 = t.air.identActive ∧ o.flags.getLsbD 3 = s.setup.clipReady
      ∧ o.flags.getLsbD 2 = decide (s.clamp.unclampCtr ≠ 0) ∧ o.flags.getLsbD 1 = s.guard.on
      ∧ o.flags.getLsbD 0 = s.setup.rfSense
      ∧ (∀ d, o.recs.get d = if s.member.join = .announce ∨ s.member.join = .mismatch then ⟨.absent, .normal, .noReason, 0⟩
        else (getDesk t d).published)
      ∧ t.clamp = { s.clamp with unclampCtr := s.clamp.unclampCtr - 1 }
      ∧ t.bus.syncLatch = (if s.sync.state = .timing ∧ s.member.join ≠ .fenced then
        some ((0xD14B : Word16) ++ ((s.sync.count.map (· + 1)).getD 0) ++ BitVec.ofNat 3 s.setup.station.val) else none)

/-- R94, R95, R102 to R110, R116 to R119, R133: what a MEMBER's air sequencer puts on the air at a frame start. In ON, and where
an over begins, the next cell of the current block goes out, or the head block begins, after a declared gap where it is later
than the cursor; a VOICE cell is scaled by its block's trim, truncated toward zero, sample by sample in the order pushed; a
clip cell goes out as loaded; FILL is silence. A pending start begins LEAD, or waits for the end of IDENT; a pending identification begins, or is
dropped; a withdrawal goes OFF. (KEYL where a start ends the LEAD of a tail identification is the reading of log 30.) -/
def Obligations.FrameStartPutsOnAir : Prop :=
  ∀ (s : State) (b : Bool), frameRuns s = true → s.sync.state = .locked ∨ s.sync.state = .timing →
    s.member.join = .member → ∃ (t : State), exec (.frameStart b) s = .next t
      ∧ (nothingPending s →
        (∀ d, s.air.serving = some d → choosesCell s d →
          (∀ c x rest, (getQueue s d).current = some c → c.rest = x :: rest →
            currentPlayed s t d c x rest ∧ ∃ y, putsOnAir s t 1 d false y ∧ scaledBy c.trim x y)
          ∧ (∀ b x rest, (getQueue s d).current = none → (getQueue s d).queue.head? = some b → b.cells = x :: rest →
            ((getQueue s d).cursor = none ∨ (getQueue s d).cursor = some b.seq →
              headPlayed s t d b x rest ∧ (getQueue t d).gap = (getQueue s d).gap
              ∧ ∃ y, putsOnAir s t 1 d false y ∧ scaledBy b.trim x y)
            ∧ (∀ c, (getQueue s d).cursor = some c → b.seq ≠ c → canBegin s d →
              headPlayed s t d b x rest ∧ gapCounted s t d b c
              ∧ ∃ y, putsOnAir s t 1 d false y ∧ scaledBy b.trim x y)))
        ∧ (∀ x, s.air.state = .ident → s.pool.clip[s.ident.clipIndex]? = some x → t.air.identActive = true
          ∧ putsOnAir s t 2 (s.air.serving.getD 0) (decide (s.ident.clipIndex + 1 = s.pool.clip.length)) x)
        ∧ (s.air.state = .lead ∧ s.air.leadRun < s.setup.lead ∨ s.air.state = .tail ∧ s.air.tailRun < s.setup.tail →
          putsOnAir s t 0 (s.air.serving.getD 0) false (.all 0)
          ∧ (t.air.identActive = true ↔ s.air.state = .lead ∧ s.air.purpose = some .tailIdent))
        ∧ (∀ d, s.air.serving = some d →
          s.air.state = .prime ∧ ¬ canBegin s d
            ∨ s.air.state = .on ∧ (getQueue s d).current = none ∧ (getQueue s d).queue = []
            ∨ s.air.state = .on ∧ (getQueue s d).current = none ∧ ¬ canBegin s d ∧ (∃ b c,
              (getQueue s d).queue.head? = some b ∧ (getQueue s d).cursor = some c ∧ b.seq ≠ c) →
          putsOnAir s t 0 d false (.all 0) ∧ t.air.identActive = false)
        ∧ (s.air.state = .off → offAir t))
      ∧ (∀ d, s.air.pendingStart = some d →
        (s.air.state ≠ .ident → putsOnAir s t 0 d false (.all 0) ∧ t.ident.phase = .nothing ∧ t.ident.kind = none
          ∧ t.air = { s.air with
            state := .lead, purpose := some .desk, serving := some d, holdingEnded := false, voiceSent := false
            leadRun := 1, starveRun := 0, pendingStart := none, pendingIdent := none, identActive := false
            withdrawDue := false })
        ∧ (∀ x, s.air.state = .ident → s.air.withdrawDue = false → s.pool.clip[s.ident.clipIndex]? = some x →
          t.air.state = .ident ∧ t.air.pendingStart = some d
          ∧ putsOnAir s t 2 (s.air.serving.getD 0) (decide (s.ident.clipIndex + 1 = s.pool.clip.length)) x))
      ∧ (s.air.pendingStart = none → s.air.withdrawDue = false → s.air.pendingIdent = some .interval →
        (∀ x, s.air.state = .on ∨ s.air.state = .tail → s.bus.sampNow.clampl = false → s.pool.clip[0]? = some x →
          putsOnAir s t 2 (s.air.serving.getD 0) (decide (s.pool.clip.length = 1)) x ∧ t.pool = s.pool
          ∧ t.air = { s.air with state := .ident, pendingIdent := none, identActive := true }
          ∧ t.ident.phase = .playing ∧ t.ident.kind = some .interval ∧ t.ident.clipIndex = 1)
        ∧ (s.air.state = .off ∨ s.air.state = .prime
            ∨ (s.air.state = .on ∨ s.air.state = .tail) ∧ (s.bus.sampNow.clampl = true ∨ s.pool.clip = []) →
          t.air.pendingIdent = none ∧ t.air.state ≠ .ident ∧ t.ident.phase = .nothing ∧ t.ident.kind = none))
      ∧ (s.air.pendingStart = none → s.air.withdrawDue = false → s.air.pendingIdent = some .tail → s.air.state = .off →
        (s.bus.sampNow.clampl = false → s.pool.clip ≠ [] → putsOnAir s t 0 0 false (.all 0)
          ∧ t.air = { s.air with
            state := .lead, purpose := some .tailIdent, serving := none, holdingEnded := false, leadRun := 1
            pendingIdent := none, identActive := true }
          ∧ t.ident.phase = .lead ∧ t.ident.kind = some .tail)
        ∧ (s.bus.sampNow.clampl = true ∨ s.pool.clip = [] → offAir t ∧ t.air.pendingIdent = none
          ∧ t.ident.phase = .nothing ∧ t.ident.kind = none))
      ∧ (s.air.withdrawDue = true → s.air.pendingStart = none → s.air.pendingIdent = none →
        offAir t ∧ t.air.purpose = none ∧ t.air.withdrawDue = false)

/-! ### Sync fields, slots -/

/-- R24, R29: the sync fields of a frame, checked in LOCKED, read back in TIMING, passed over in HUNT and HOLDOVER. The second
mismatch enters HUNT, with no grantee (log 15). -/
def Obligations.SyncFieldsByState : Prop :=
  ∀ (s : State) (x : BitVec 43), sampleRuns s = true →
    (s.sync.state = .locked →
      (syncPatternOf x = 0xD14B → s.sync.count = some (syncCountOf x) →
        (s.sync.timingStation = some (syncStationOf x) →
          exec (.syncFieldsReceived x) s = .next (s.setBus { s.bus with syncGood := true }))
        ∧ (s.sync.timingStation ≠ some (syncStationOf x) → exec (.syncFieldsReceived x) s = .next
          { s with
            bus := { s.bus with syncGood := true }
            sync := { s.sync with timingStation := some (syncStationOf x) }
            link := { s.link with siteFlags := s.link.siteFlags ||| SiteFlag.syncChange.mask } }))
      ∧ (syncPatternOf x ≠ 0xD14B ∨ s.sync.count ≠ some (syncCountOf x) →
        exec (.syncFieldsReceived x) s = .next (s.setBus { s.bus with syncGood := false })))
    ∧ (s.sync.state = .timing →
      (s.bus.syncLatch = none → exec (.syncFieldsReceived x) s = .next s)
      ∧ ∀ y, s.bus.syncLatch = some y →
        (x = y → exec (.syncFieldsReceived x) s = .next (s.setSync { s.sync with readbackRun := 0 }))
        ∧ (x ≠ y → s.sync.readbackRun = 0 →
          exec (.syncFieldsReceived x) s = .next (s.setSync { s.sync with readbackRun := 1 }))
        ∧ (x ≠ y → 1 ≤ s.sync.readbackRun → ∃ t, exec (.syncFieldsReceived x) s = .next t ∧ huntEntered s t))
    ∧ (s.sync.state = .hunt ∨ s.sync.state = .holdover → exec (.syncFieldsReceived x) s = .next s)

/-- R10, R11, R12, R36, R37, R55, R56: a peer's slot, fresh or stale. -/
def Obligations.PeerSlotFreshOrStale : Prop :=
  ∀ (s : State) (k : Station) (x : BitVec 208), pointsRun s = true → k ≠ s.setup.station →
    ∃ t, exec (.slotReceived k x) s = .next t
      ∧ (x ≠ BitVec.allOnes 208 → slotCrcGood x = true → (slotOf x).echo = (s.sync.count.getD 0).extractLsb' 0 8 →
        (slotOf x).station.toNat = k.val →
        t.bus.judge = s.bus.judge.set k .fresh
        ∧ t.bus.headers = s.bus.headers.set k (some ⟨(slotOf x).join, (slotOf x).setupDigest, (slotOf x).viewDigest,
          (slotOf x).causes, (slotOf x).flags, s.sync.count.getD 0⟩)
        ∧ t.claims.mirrors = s.claims.mirrors.set k (slotOf x).recs
        ∧ (∀ j, j ≠ k → t.member.presence.get j = s.member.presence.get j)
        ∧ (t.member.presence.get k).staleRun = 0
        ∧ (t.member.presence.get k).bad = (s.member.presence.get k).bad
        ∧ ((slotOf x).join = 1 → (t.member.presence.get k).state = .joining ∧ (t.member.presence.get k).freshRun = 0)
        ∧ ((slotOf x).join = 2 →
          (t.member.presence.get k).freshRun = min ((s.member.presence.get k).freshRun + 1) 4
          ∧ (t.member.presence.get k).state =
            if 4 ≤ (s.member.presence.get k).freshRun + 1 then .joined else (s.member.presence.get k).state)
        ∧ ((slotOf x).join = 3 → (t.member.presence.get k).state = .mismatched ∧ (t.member.presence.get k).freshRun = 0)
        ∧ ((slotOf x).join = 0 ∨ 4 ≤ (slotOf x).join.toNat →
          (t.member.presence.get k).state = (s.member.presence.get k).state
          ∧ (t.member.presence.get k).freshRun = 0)
        ∧ ((t.member.presence.get k).state ≠ (s.member.presence.get k).state → siteFlagSet t .peerChange))
      ∧ (x = BitVec.allOnes 208 ∨ slotCrcGood x = false ∨ (slotOf x).echo ≠ (s.sync.count.getD 0).extractLsb' 0 8
          ∨ (slotOf x).station.toNat ≠ k.val →
        t.bus.judge = s.bus.judge.set k .stale ∧ t.bus.headers = s.bus.headers
        ∧ (∀ j, j ≠ k → t.member.presence.get j = s.member.presence.get j)
        ∧ (t.member.presence.get k).freshRun = 0
        ∧ (t.member.presence.get k).staleRun = min ((s.member.presence.get k).staleRun + 1) 16
        ∧ (t.member.presence.get k).bad = (if x = BitVec.allOnes 208 then (s.member.presence.get k).bad
          else min ((s.member.presence.get k).bad + 1) 65535)
        ∧ (15 ≤ (s.member.presence.get k).staleRun →
          (s.member.presence.get k).state = .joining ∨ (s.member.presence.get k).state = .joined →
          (t.member.presence.get k).state = .unseen ∧ siteFlagSet t .peerChange)
        ∧ ((s.member.presence.get k).staleRun < 15 ∨ (s.member.presence.get k).state = .unseen
            ∨ (s.member.presence.get k).state = .mismatched →
          (t.member.presence.get k).state = (s.member.presence.get k).state ∧ t.claims.mirrors = s.claims.mirrors)
        ∧ (15 ≤ (s.member.presence.get k).staleRun → (s.member.presence.get k).state = .joined →
          t.claims.mirrors = s.claims.mirrors.set k (.all ⟨.absent, .normal, .noReason, 0⟩)))

/-- R13, R32, R142: the readback of the own slot, and the receipt of an unclamp order, from the own slot or a fresh peer slot,
by a station that is MEMBER, or becomes MEMBER at this slot received 7: the latching causes and the supervision runs are
cleared. -/
def Obligations.ReadbackAndUnclampOrder : Prop :=
  ∀ (s : State) (k : Station) (x : BitVec 208), pointsRun s = true → ∃ t, exec (.slotReceived k x) s = .next t
    ∧ (k = s.setup.station → t.bus.judge = s.bus.judge ∧ t.bus.headers = s.bus.headers
      ∧ (s.bus.ownSlotDriven = false → t.bus.readback = .notDriven)
      ∧ ∀ o, s.bus.ownSlot = some o → s.bus.ownSlotDriven = true →
        (x = slotBits o → t.bus.readback = .good) ∧ (x ≠ slotBits o → t.bus.readback = .mismatch))
    ∧ (s.member.join = .member → t.member.join = .member)
    ∧ (t.member.join = .member → s.member.join = .member ∨ s.member.join = .announce ∧ k = 7)
    ∧ (s.member.join = .announce → k = 7 → 16 ≤ s.member.announceRun →
      (s.sync.state = .timing → t.member.join = .member)
      ∧ ∀ j h, s.sync.state = .locked → s.bus.syncGood = true → s.sync.timingStation = some j → j ≠ 7 →
        j ≠ s.setup.station → s.bus.judge.get j = .fresh → s.bus.headers.get j = some h →
        s.setup.digest = some h.setupDigest → t.member.join = .member)
    ∧ (t.member.join = .member → carriesOrder s k x →
      t.clamp = { s.clamp with causes := s.clamp.causes &&& 0x07, orphanRun := 0, stuckRun := 0, progRun := 0 }
      ∧ (s.clamp.causes &&& 0x07 ≠ s.clamp.causes → siteFlagSet t .clampChange))
    ∧ (t.member.join ≠ .member ∨ ¬ carriesOrder s k x → t.clamp = s.clamp)

/-! ### Key sample -/

/-- R15, R16, R49, R120, R139: a key sample shifts the kept samples (a line that the part itself asserts reads asserted, log
9); one that finds CLAMPL asserted ends own holdings with CLAMPED, puts the air sequencer OFF and restarts the settle. -/
def Obligations.KeySampleTaken : Prop :=
  ∀ (s : State) (keyl clampl rfon refl : Bool), sampleRuns s = true →
    ∃ t, exec (.keySample keyl clampl rfon refl) s = .next t
      ∧ t.bus.sampNow = ⟨keyl || s.bus.keylDrive, clampl || decide (s.clamp.causes ≠ 0), rfon, refl⟩
      ∧ t.bus.sampPrev = s.bus.sampNow
      ∧ t = { s with bus := t.bus, claims := t.claims, air := t.air, ident := t.ident, clamp := t.clamp, link := t.link }
      ∧ (clampl = true ∨ s.clamp.causes ≠ 0 → airIsOff t ∧ (∀ d, holdingEndedAt .clamped s t d)
        ∧ (s.air.state ≠ .off → t.air.leadRun = 0 ∧ t.air.tailRun = 0)
        ∧ (s.air.state = .off → t.air.leadRun = s.air.leadRun ∧ t.air.tailRun = s.air.tailRun)
        ∧ t.clamp.seen = .clamped ∧ t.clamp.settleRun = 0)
      ∧ (clampl = false → s.clamp.causes = 0 → t.claims = s.claims ∧ t.air = s.air ∧ t.ident = s.ident
        ∧ t.bus.keylDrive = s.bus.keylDrive ∧ t.bus.progDrive = s.bus.progDrive
        ∧ (s.clamp.seen = .clamped → t.clamp.seen = .settling ∧ t.clamp.settleRun = 1)
        ∧ (s.clamp.seen = .settling → s.clamp.settleRun < 9 →
          t.clamp.seen = .settling ∧ t.clamp.settleRun = s.clamp.settleRun + 1)
        ∧ (s.clamp.seen = .settling → 9 ≤ s.clamp.settleRun → t.clamp.seen = .clear ∧ t.clamp.settleRun = 10)
        ∧ (s.clamp.seen = .clear → t.clamp.seen = .clear ∧ t.clamp.settleRun = 10))
      ∧ (t.clamp.seen ≠ s.clamp.seen → siteFlagSet t .clampChange)

/-- R145, R147, R149: the stuck, no-RF and reflected-power runs at a key sample. (That a line which the part itself asserts, KEYL
by its drive and CLAMPL by its causes, is sampled asserted is the reading of log 9.) -/
def Obligations.KeySampleRuns : Prop :=
  ∀ (s : State) (keyl clampl rfon refl : Bool), sampleRuns s = true →
    ∃ t, exec (.keySample keyl clampl rfon refl) s = .next t
      ∧ (s.setup.rfSense = false → t.clamp.stuckRun = s.clamp.stuckRun ∧ t.clamp.noRfRun = s.clamp.noRfRun)
      ∧ (s.setup.rfSense = true →
        (s.member.join = .member → rfon = true → keyl = false → s.bus.keylDrive = false →
          t.clamp.stuckRun = min (s.clamp.stuckRun + 1) 20
          ∧ (s.clamp.stuckRun = 19 → t.clamp.causes &&& 0x20 ≠ 0))
        ∧ (s.member.join ≠ .member ∨ rfon = false ∨ keyl = true ∨ s.bus.keylDrive = true → t.clamp.stuckRun = 0)
        ∧ ((keyl = true ∨ s.bus.keylDrive = true) → clampl = false → s.clamp.causes = 0 → rfon = false →
          t.clamp.noRfRun = min (s.clamp.noRfRun + 1) (s.setup.lead + 50)
          ∧ (s.clamp.noRfRun + 1 = s.setup.lead + 50 → siteFlagSet t .noRf))
        ∧ (clampl = true ∨ s.clamp.causes ≠ 0 ∨ rfon = true ∨ (keyl = false ∧ s.bus.keylDrive = false) →
          t.clamp.noRfRun = 0))
      ∧ (s.guard.on = false → t.clamp.reflSet = s.clamp.reflSet ∧ t.clamp.reflClear = s.clamp.reflClear)
      ∧ (s.guard.on = true → s.clamp.causes &&& 0x01 = 0 →
        (refl = false → t.clamp.reflSet = 0 ∧ t.clamp.causes &&& 0x01 = 0)
        ∧ (refl = true → s.clamp.reflSet = 0 → t.clamp.reflSet = 1 ∧ t.clamp.causes &&& 0x01 = 0)
        ∧ (refl = true → s.clamp.reflSet = 1 → t.clamp.causes &&& 0x01 ≠ 0 ∧ t.clamp.reflSet = 0
          ∧ siteFlagSet t .guard ∧ siteFlagSet t .clampChange))
      ∧ (s.guard.on = true → s.clamp.causes &&& 0x01 ≠ 0 →
        (refl = true → t.clamp.reflClear = 0 ∧ t.clamp.causes &&& 0x01 ≠ 0)
        ∧ (refl = false → s.clamp.reflClear < 99 →
          t.clamp.reflClear = s.clamp.reflClear + 1 ∧ t.clamp.causes &&& 0x01 ≠ 0)
        ∧ (refl = false → 99 ≤ s.clamp.reflClear → t.clamp.causes &&& 0x01 = 0 ∧ t.clamp.reflClear = 0
          ∧ siteFlagSet t .guard ∧ siteFlagSet t .clampChange))

/-! ### Snapshot complete -/

/-- R57, R58, R60, R63: the snapshot of a frame, at most one record HOLDING, the one kept first in floor order; the snapshot
before is kept; the waiting list is in floor order; the view digest is that of the holder and the list. A replaced mirror is
stored as replaced, and a replaced own holding ends with SPLIT (R47, R115). -/
def Obligations.SnapshotFormed : Prop :=
  ∀ (s : State) (o : FenceOrder) (b : Bool), pointsRun s = true → noFence s →
    ∃ t, exec (.snapshotComplete o b) s = .next t
      ∧ t.claims.prev = s.claims.snap ∧ t.claims.snap.count = s.sync.count.getD 0
      ∧ (∀ k d, (t.claims.snap.recs.get k).get d = formedRecord s k d
        ∨ ((formedRecord s k d).state = .holding
          ∧ (t.claims.snap.recs.get k).get d = ⟨.idle, (formedRecord s k d).cls, .split, 0⟩))
      ∧ oneHolding t.claims.snap.recs
      ∧ (∀ k d, k ≠ s.setup.station →
        ((formedRecord s k d).state = .holding → ¬ holdsFloor t.claims.snap.recs k d →
          (t.claims.mirrors.get k).get d = ⟨.idle, (formedRecord s k d).cls, .split, 0⟩)
        ∧ ((formedRecord s k d).state ≠ .holding ∨ holdsFloor t.claims.snap.recs k d →
          (t.claims.mirrors.get k).get d = (s.claims.mirrors.get k).get d))
      ∧ (∀ d, (formedRecord s s.setup.station d).state = .holding → ¬ holdsFloor t.claims.snap.recs s.setup.station d →
        hasState s d .holding → holdingEndedAt .split s t d ∧ servedEnding s t d)
      ∧ (∀ k d, (formedRecord s k d).state = .holding → ∃ k' d', holdsFloor t.claims.snap.recs k' d'
        ∧ ((k', d') = (k, d) ∨ floorBefore (s.sync.count.getD 0) ⟨k', d', formedRecord s k' d'⟩ ⟨k, d, formedRecord s k d⟩ = true))
      ∧ (snapWaiting t).Pairwise (fun x y => floorBefore (s.sync.count.getD 0) x y = true)
      ∧ (∀ x, x ∈ snapWaiting t ↔
        x.record = (t.claims.snap.recs.get x.station).get x.desk ∧ x.record.state = .waiting)
      ∧ t.claims.viewDigest = crcBytes
        ((match snapHolder t with
          | some h => [BitVec.ofNat 8 h.station.val, BitVec.ofNat 8 h.desk.val]
          | none => [0xFF, 0xFF])
          ++ (snapWaiting t).flatMap fun x => [BitVec.ofNat 8 x.station.val, BitVec.ofNat 8 x.desk.val])

/-- R66 to R72, R46, R75: the six conditions of a frame, its verdict, the grantee, the grant of an own desk still WAITING
whose wait has not expired, and the pre-emption of an own NORMAL holder by a CONTROL desk at the head of the waiting list.
That a grant keeps the stamp of the WAITING record until the next publication is the model's reading (log 28). -/
def Obligations.VerdictFromSixConditions : Prop :=
  ∀ (s : State) (o : FenceOrder) (b : Bool), pointsRun s = true → noFence s →
    ∃ t, exec (.snapshotComplete o b) s = .next t
      ∧ (t.claims.conds.c1 = true ↔ memberActive s = true)
      ∧ (t.claims.conds.c2 = true ↔ joinedStale s = false ∧ s.bus.readback = .good)
      ∧ (t.claims.conds.c3 = true ↔ t.claims.disagree = 0)
      ∧ (t.claims.conds.c4 = true ↔ s.clamp.settleRun = 10)
      ∧ (t.claims.conds.c5 = true ↔ (∀ k d, ¬ holdsFloor t.claims.snap.recs k d) ∧ identOnBus s = false)
      ∧ (t.claims.conds.c6 = true ↔ s.bus.sampNow.keyl = false ∧ s.bus.sampPrev.keyl = false)
      ∧ t.claims.verdict = (if t.claims.conds.c1 = false then .notActive
        else if t.claims.conds.c2 = false then .frozenStale
        else if t.claims.conds.c3 = false then .frozenSplit
        else if t.claims.conds.c4 = false then .clampSettling
        else if t.claims.conds.c5 = false then .occupied
        else if t.claims.conds.c6 = false then .keyGap
        else if snapWaiting t = [] then .noClaim else .grant)
      ∧ (t.claims.verdict ≠ .grant → t.claims.grantee = none)
      ∧ (t.claims.verdict = .grant → t.claims.grantee = (snapWaiting t).head?.map fun x => (x.station, x.desk))
      ∧ (∀ d, t.claims.grantee = some (s.setup.station, d) → hasState s d .waiting →
        ((getDesk s d).stampSet = false ∨ age (s.sync.count.getD 0) (getDesk s d).record.stamp < s.setup.maxWait) →
        getDesk t d = { getDesk s d with
            record := { (getDesk s d).record with state := .holding, reason := .noReason }, stampSet := false, drain := false }
        ∧ deskFlagSet t d .granted ∧ t.air.pendingStart = some d)
      ∧ (∀ h g, t.claims.conds.c1 = true → t.claims.conds.c2 = true → t.claims.conds.c3 = true →
        snapHolder t = some h → h.station = s.setup.station → h.record.cls = .normal → hasState s h.desk .holding →
        ((getDesk s h.desk).stampSet = false
          ∨ age (s.sync.count.getD 0) (getDesk s h.desk).record.stamp < s.setup.totLimit) →
        (snapWaiting t).head? = some g → g.record.cls = .control →
        holdingEndedAt .preempted s t h.desk
        ∧ (s.air.serving = some h.desk → s.air.state = .lead ∨ s.air.state = .prime ∨ s.air.state = .on →
          t.air.state = .tail ∧ t.air.tailRun = 0 ∧ t.air.holdingEnded = true))
      ∧ (∀ d, hasState s d .holding → (getDesk s d).record.reason = .noReason → (getDesk t d).record.reason = .preempted →
        t.claims.conds.c1 = true ∧ t.claims.conds.c2 = true ∧ t.claims.conds.c3 = true
        ∧ (∃ h, snapHolder t = some h ∧ h.station = s.setup.station ∧ h.desk = d ∧ h.record.cls = .normal)
        ∧ ∃ g, (snapWaiting t).head? = some g ∧ g.record.cls = .control)

/-- R65, R73, R76: a desk becomes HOLDING by no command but a SNAPSHOT_COMPLETE whose verdict is GRANT, all six conditions
held, the desk the named grantee, WAITING before, in LOCKED or TIMING and MEMBER, with no record of the snapshot HOLDING. -/
def Obligations.GrantsComeFromTheVerdict : Prop :=
  ∀ (i : Instr) (s t : State) (d : Desk), exec i s = .next t → ¬ hasState s d .holding → hasState t d .holding →
    (∃ o b, i = .snapshotComplete o b) ∧ t.claims.verdict = .grant ∧ t.claims.conds = ⟨true, true, true, true, true, true⟩
      ∧ t.claims.grantee = some (s.setup.station, d) ∧ hasState s d .waiting
      ∧ (s.sync.state = .locked ∨ s.sync.state = .timing) ∧ s.member.join = .member
      ∧ ∀ k e, ¬ holdsFloor t.claims.snap.recs k e

/-- R61: the digest agreement test: the slots that disagree, and the split run with the report of each split frame. -/
def Obligations.DigestDisagreementCountsSplits : Prop :=
  ∀ (s : State) (o : FenceOrder) (b : Bool), pointsRun s = true → noFence s →
    ∃ t, exec (.snapshotComplete o b) s = .next t
      ∧ t.claims.disagree = ((allStations.filter fun k => decide (k ≠ s.setup.station) && s.bus.judge.get k == .fresh
        && (match s.bus.headers.get k with
          | some h => h.join == 2 && h.viewDigest != s.claims.viewDigest
          | none => false)).length)
      ∧ (memberActive s = false → t.claims.splitRun = 0)
      ∧ (memberActive s = true → joinedStale s = true ∨ s.bus.readback ≠ .good → t.claims.splitRun = s.claims.splitRun)
      ∧ (memberActive s = true → joinedStale s = false → s.bus.readback = .good →
        (t.claims.disagree = 0 → t.claims.splitRun = 0)
        ∧ (t.claims.disagree ≠ 0 → t.claims.splitRun = min (s.claims.splitRun + 1) 8 ∧ siteFlagSet t .split)
        ∧ (t.claims.disagree ≠ 0 → 7 ≤ s.claims.splitRun → ∀ d, ¬ hasState t d .holding))

/-- R59, R158, R159: each desk HOLDING in the snapshot before and not in this one is recorded, in ascending order, at the front
of the ring of 8; the total counts every recording. -/
def Obligations.EndedHoldingsAreRecorded : Prop :=
  ∀ (s : State) (o : FenceOrder) (b : Bool), pointsRun s = true → noFence s → ringLaw s →
    ∃ (t : State) (es : List HistoryEntry), exec (.snapshotComplete o b) s = .next t
      ∧ t.history.ring = (es.reverse ++ s.history.ring).take 8
      ∧ t.history.total = s.history.total + BitVec.ofNat 16 es.length
      ∧ es.map (fun e => (e.station, e.desk)) =
        ((allStations.flatMap fun k => allDesks.map fun d => (k, d)).filter fun x =>
          ((s.claims.snap.recs.get x.1).get x.2).state == .holding
            && ((t.claims.snap.recs.get x.1).get x.2).state != .holding)
      ∧ ∀ e ∈ es, e.cls = ((s.claims.snap.recs.get e.station).get e.desk).cls
        ∧ e.start = ((s.claims.snap.recs.get e.station).get e.desk).stamp
        ∧ e.length = age (s.sync.count.getD 0) ((s.claims.snap.recs.get e.station).get e.desk).stamp
        ∧ e.reason = (if e.station ≠ s.setup.station ∧ (s.member.presence.get e.station).state ≠ .joined then .lost
          else if (formedRecord s e.station e.desk).state = .absent then .closed
          else ((t.claims.snap.recs.get e.station).get e.desk).reason)

/-! ### Program received -/

/-- R17, R18, R124, R146: a program field is classified, a good one counts for the identification unit, an error under KEYL is
counted, and so is a VOICE field that names neither the holder nor the previous snapshot's holder whose holding has ended. -/
def Obligations.ProgramReceived : Prop :=
  ∀ (s : State) (x : BitVec 168), pointsRun s = true → ∃ t, exec (.programReceived x) s = .next t
    ∧ (x = BitVec.allOnes 168 → t.bus.progResult = .undriven)
    ∧ (x ≠ BitVec.allOnes 168 → (progCrcGood x = false ∨ 3 ≤ (progOf x).kind.toNat
        ∨ (progOf x).echo ≠ (s.sync.count.getD 0).extractLsb' 0 8) → t.bus.progResult = .error)
    ∧ (x ≠ BitVec.allOnes 168 → progCrcGood x = true → (progOf x).kind.toNat < 3 →
      (progOf x).echo = (s.sync.count.getD 0).extractLsb' 0 8 → t.bus.progResult = .good)
    ∧ (t.bus.progResult ≠ .good → t.ident = s.ident ∧ t.air = s.air ∧ t.claims = s.claims)
    ∧ (t.bus.progResult = .good → (progOf x).kind = 1 → s.member.join = .member →
      t.ident.a = min (s.ident.a + 1) 16777215
      ∧ (interval s ≤ min (s.ident.a + 1) 16777215 → s.ident.due = false → t.ident.due = true ∧ t.ident.dueAge = 0))
    ∧ (t.bus.progResult = .good → (progOf x).kind = 1 → s.member.join ≠ .member → t.ident = s.ident)
    ∧ (t.bus.progResult = .good → (progOf x).kind = 2 → (progOf x).endIdent = true →
      t.ident = { s.ident with a := 0, due := false, dueAge := 0, overdue := false } ∧ siteFlagSet t .idSent)
    ∧ (t.bus.progResult = .good → (progOf x).kind = 2 → (progOf x).endIdent = false →
      t.ident = { s.ident with dueAge := if s.ident.due then 0 else s.ident.dueAge })
    ∧ (t.bus.progResult = .error → s.member.join = .member → s.bus.sampNow.keyl = true →
      t.clamp.progRun = min (s.clamp.progRun + 1) 20
      ∧ (s.clamp.progRun = 19 → t.clamp.causes &&& 0x08 ≠ 0))
    ∧ (t.bus.progResult ≠ .error ∨ s.member.join ≠ .member ∨ s.bus.sampNow.keyl = false → t.clamp.progRun = 0)
    ∧ (t.bus.progResult = .good → (progOf x).kind = 1 → memberActive s = true →
      (∀ h, snapHolder s = some h → namesSeat (progOf x) h = false) →
      (∀ h, holderOf s.claims.prev.count s.claims.prev.recs = some h → namesSeat (progOf x) h = true →
        holdsFloor s.claims.snap.recs h.station h.desk) →
      t.bus.mismatchCount = min (s.bus.mismatchCount + 1) 65535 ∧ siteFlagSet t .programMismatch)
    ∧ (∀ h, snapHolder s = some h → namesSeat (progOf x) h = true → t.bus.mismatchCount = s.bus.mismatchCount)
    ∧ (∀ h, holderOf s.claims.prev.count s.claims.prev.recs = some h → namesSeat (progOf x) h = true →
      ¬ holdsFloor s.claims.snap.recs h.station h.desk → t.bus.mismatchCount = s.bus.mismatchCount)
    ∧ (∀ h : Seat, namesSeat (progOf x) h = true ↔
      (progOf x).station.toNat = h.station.val ∧ (progOf x).desk.toNat = h.desk.val)
    ∧ (memberActive s = false ∨ t.bus.progResult ≠ .good ∨ (progOf x).kind ≠ 1 →
      t.bus.mismatchCount = s.bus.mismatchCount)

/-! ### Relock search, waits, losses of sync, fence -/

/-- R21, R22, R23, R26, R31: a pattern found is held, or passes the test with the candidate before it; the station then enters
LOCKED, from HOLDOVER with its claims withdrawn where the counts jump. A candidate dropped leaves the search. (A finding's form
is that of log 13; that a withdrawal keeps the stamp-set mark is the reading of log 28.) -/
def Obligations.RelockEntersLocked : Prop :=
  ∀ (s : State) (pos : BitVec 11) (c : Count) (n : Station), searching s = true →
    exec (.relockCandidateDropped pos) s = .next
      (s.setSync { s.sync with candidates := s.sync.candidates.filter fun x => x.pos != pos })
    ∧ ((∀ x ∈ s.sync.candidates, ¬ (x.pos = pos ∧ x.count + 1 = c ∧ x.station = n)) →
      exec (.syncPatternFound pos c n) s = .next
        (s.setSync
          { s.sync with
            huntRun := if s.sync.state = .hunt then 0 else s.sync.huntRun
            candidates := (s.sync.candidates.filter fun x => x.pos != pos) ++ [⟨pos, c, n⟩] }))
    ∧ ((∃ x ∈ s.sync.candidates, x.pos = pos ∧ x.count + 1 = c ∧ x.station = n) →
      ∃ t, exec (.syncPatternFound pos c n) s = .next t ∧ exec (.relockTestPassed pos c n) s = .next t
        ∧ lockedEntered c n s t
        ∧ (s.sync.state = .hunt → t.claims = s.claims)
        ∧ (∀ r, s.sync.state = .holdover → s.sync.count = some r →
          ((c - r).toNat ≤ 2 ∨ 16777214 ≤ (c - r).toNat → t.claims = s.claims)
          ∧ (3 ≤ (c - r).toNat → (c - r).toNat ≤ 16777213 →
            siteFlagSet t .countJump ∧ ∀ d, waitEndedAt .countJump s t d)))

/-- R22, R27, R28, R20: the hunt wait and the holdover wait run out at an own frame start, in the row of the limit and in the
frame start alike. (The entry to HUNT leaves no grantee, log 15; the entry to TIMING keeps the miss run, log 28.) -/
def Obligations.WaitsRunOut : Prop :=
  ∀ s : State, frameRuns s = true →
    (s.sync.state = .hunt → s.sync.huntRun + 1 = 16 + 4 * s.setup.station.val →
      (s.member.join = .listen → ∃ t, exec .huntWaitExpired s = .next t ∧ timingEntered (countAdvanced s) t
        ∧ ∀ b, ∃ u, exec (.frameStart b) s = .next u ∧ u.sync = t.sync ∧ u.member.join = .announce)
      ∧ (s.member.join ≠ .listen → exec .huntWaitExpired s = .next
        (s.setSync { s.sync with count := s.sync.count.map (· + 1), huntRun := 16 + 4 * s.setup.station.val })))
    ∧ (s.sync.state = .holdover → s.sync.holdoverRun + 1 = 4 + 2 * s.setup.station.val →
      (s.member.join = .member → ∃ t, exec .holdoverWaitExpired s = .next t ∧ timingEntered (countAdvanced s) t
        ∧ ∀ b, ∃ u, exec (.frameStart b) s = .next u ∧ u.sync = t.sync ∧ u.member.join = .member)
      ∧ (s.member.join ≠ .member → ∃ t, exec .holdoverWaitExpired s = .next t ∧ huntEntered (countAdvanced s) t
        ∧ ∀ b, ∃ u, exec (.frameStart b) s = .next u ∧ u.sync = t.sync ∧ u.member.join = t.member.join))

/-- R24, R25, R29, R20: the third miss enters HOLDOVER, the second readback mismatch HUNT; the miss run at slot received 7.
(The entry to HUNT leaves no grantee, log 15; the entry to HOLDOVER keeps the miss run, log 28.) -/
def Obligations.SyncIsLost : Prop :=
  ∀ s : State,
    (pointsRun s = true → s.sync.state = .locked → s.sync.missRun = 2 → ∃ t, exec .missRunLimit s = .next t
      ∧ holdoverEntered (s.setSync { s.sync with missRun := 3 }) t)
    ∧ (sampleRuns s = true → s.sync.state = .timing → s.bus.syncLatch ≠ none → s.sync.readbackRun = 1 →
      ∃ t, exec .timingReadbackLimit s = .next t ∧ huntEntered s t)
    ∧ (pointsRun s = true → s.sync.state = .locked → ∀ x, ∃ t, exec (.slotReceived 7 x) s = .next t
      ∧ (s.bus.syncGood = false → s.sync.missRun < 2 → t.sync.state = .locked ∧ t.sync.missRun = s.sync.missRun + 1)
      ∧ (s.bus.syncGood = false → s.sync.missRun = 2 → t.sync.state = .holdover ∧ airIsOff t
        ∧ ∀ d, ¬ hasState t d .holding)
      ∧ (s.bus.syncGood = true → ∀ k, k ≠ 7 → k ≠ s.setup.station → s.bus.judge.get k = .fresh →
        t.sync.state = .locked ∧ t.sync.missRun = 0)
      ∧ (s.bus.syncGood = true → (∀ k, k ≠ 7 → k ≠ s.setup.station → s.bus.judge.get k ≠ .fresh) →
        x = BitVec.allOnes 208 → s.sync.missRun < 2 → t.sync.state = .locked ∧ t.sync.missRun = s.sync.missRun + 1))

/-- R14, R35, R66, R4, R5: a FENCE report makes the station FENCED: it stops driving, its holdings and waits end with
SYNC_LOST, the air sequencer goes OFF, and a timing station enters HUNT; in a snapshot complete with its third mismatch too,
in every order of the work there. -/
def Obligations.FenceTaken : Prop :=
  ∀ s : State, pointsRun s = true →
    s.member.join = .announce ∨ s.member.join = .member ∨ s.member.join = .mismatch → s.bus.fenceRun = 2 →
    ∃ t, exec .fence s = .next t ∧ t.member.join = .fenced ∧ t.member.standing = 0 ∧ airIsOff t
      ∧ (∀ d, syncLostAt s t d) ∧ t.bus.ownSlotDriven = false ∧ t.bus.syncLatch = none ∧ siteFlagSet t .fenced
      ∧ (s.sync.state = .timing → t.sync.state = .hunt ∧ t.bus.fenceRun = 0)
      ∧ (s.sync.state ≠ .timing → t.sync = s.sync ∧ t.bus.fenceRun = 3)
      ∧ ∀ (o : FenceOrder) (b : Bool), s.bus.readback = .mismatch →
        (∃ k, k ≠ s.setup.station ∧ s.bus.judge.get k = .fresh) → ∃ u, exec (.snapshotComplete o b) s = .next u
          ∧ u.member.join = .fenced ∧ airIsOff u ∧ (∀ d, ¬ hasState u d .waiting ∧ ¬ hasState u d .holding)
          ∧ u.bus.ownSlotDriven = false ∧ siteFlagSet u .fenced

/-- R32, R33, R36, R37, R56: the comparison that ends an announcement; a peer joined; a peer lost. -/
def Obligations.MembershipChanges : Prop :=
  ∀ s : State, pointsRun s = true →
    (s.member.join = .announce → 16 ≤ s.member.announceRun →
      (s.sync.state = .timing → exec .announceComplete s = .next
        { s with
          member := { s.member with join := .member, standing := 0 }
          link := { s.link with siteFlags := s.link.siteFlags ||| SiteFlag.syncChange.mask } })
      ∧ (∀ k h, s.sync.state = .locked → s.sync.timingStation = some k → k ≠ s.setup.station →
        s.bus.headers.get k = some h →
        (s.bus.judge.get k = .fresh → exec .announceComplete s = .next
          { s with
            member := { s.member with
              join := if s.setup.digest = some h.setupDigest then .member else .mismatch
              standing := 0 }
            link := { s.link with siteFlags := s.link.siteFlags ||| SiteFlag.syncChange.mask } })
        ∧ (s.bus.judge.get k ≠ .fresh → exec .announceComplete s = .next s))
      ∧ (s.sync.state = .locked → s.sync.timingStation = some s.setup.station → exec .announceComplete s = .next s))
    ∧ (∀ k, k ≠ s.setup.station → (s.member.presence.get k).freshRun = 3 → (s.member.presence.get k).state ≠ .joined →
      exec (.peerJoined k) s = .next
        { s with
          member := { s.member with
            presence := s.member.presence.set k ⟨.joined, 4, 0, (s.member.presence.get k).bad⟩ }
          link := { s.link with siteFlags := s.link.siteFlags ||| SiteFlag.peerChange.mask } })
    ∧ (∀ k driven, k ≠ s.setup.station → (s.member.presence.get k).staleRun = 15 →
      (s.member.presence.get k).state = .joining ∨ (s.member.presence.get k).state = .joined →
      exec (.peerLost k driven) s = .next
        { s with
          member := { s.member with
            presence := s.member.presence.set k ⟨.unseen, 0, 16, if driven then min ((s.member.presence.get k).bad + 1) 65535
              else (s.member.presence.get k).bad⟩ }
          claims := { s.claims with
            mirrors := if (s.member.presence.get k).state = .joined then
                s.claims.mirrors.set k (.all ⟨.absent, .normal, .noReason, 0⟩) else s.claims.mirrors }
          link := { s.link with siteFlags := s.link.siteFlags ||| SiteFlag.peerChange.mask } })

/-! ### Limits of the claim table -/

/-- R51, R77, R78, R144, R79, R61, R54, R47, R53: the wait limit withdraws every own WAITING desk that has reached it, the time
limit bars every own HOLDING desk that has reached it; TOTENF by the snapshot's holder past its limit, the release of the
eighth split frame, the bar lifted at a frame start. -/
def Obligations.ClaimTableLimitsAct : Prop :=
  ∀ s : State, (pointsRun s = true →
    (∃ t, exec .waitExpiry s = .next t ∧ t = { s with claims := t.claims, link := t.link } ∧ ∀ d,
      (hasState s d .waiting → (getDesk s d).stampSet = true →
        s.setup.maxWait ≤ age (s.sync.count.getD 0) (getDesk s d).record.stamp →
        (getDesk t d).record = idleRecord (getDesk s d) .waitExpired
        ∧ (getDesk t d).endPub = pubAfter (getDesk s d) (idleRecord (getDesk s d) .waitExpired) ∧ deskFlagSet t d .waitEnd)
      ∧ (¬ hasState s d .waiting ∨ (getDesk s d).stampSet = false
          ∨ age (s.sync.count.getD 0) (getDesk s d).record.stamp < s.setup.maxWait → getDesk t d = getDesk s d))
    ∧ (∃ t, exec .timeLimit s = .next t ∧ t = { s with claims := t.claims, link := t.link, air := t.air } ∧ ∀ d,
      (hasState s d .holding → (getDesk s d).stampSet = true →
        s.setup.totLimit ≤ age (s.sync.count.getD 0) (getDesk s d).record.stamp →
        (getDesk t d).record = ⟨.barred, (getDesk s d).record.cls, .timeout, 0⟩ ∧ (getDesk t d).barRun = 0
        ∧ (getDesk t d).ack = false ∧ (getDesk t d).drain = false
        ∧ (getDesk t d).endPub = pubAfter (getDesk s d) ⟨.barred, (getDesk s d).record.cls, .timeout, 0⟩
        ∧ deskFlagSet t d .ended)
      ∧ (¬ hasState s d .holding ∨ (getDesk s d).stampSet = false
          ∨ age (s.sync.count.getD 0) (getDesk s d).record.stamp < s.setup.totLimit → getDesk t d = getDesk s d)))
    ∧ (pointsRun s = true →
      (∀ h, s.member.join = .member → snapHolder s = some h →
        s.setup.totLimit + 20 ≤ age (s.sync.count.getD 0) h.record.stamp →
        exec .totenf s = .next (causesBecome (s.clamp.causes ||| 0x10) s))
      ∧ (s.member.join ≠ .member ∨ snapHolder s = none → exec .totenf s = .next s)
      ∧ (memberActive s = true → s.claims.splitRun = 7 → ∃ t, exec .splitRelease s = .next t
        ∧ t.claims.splitRun = 8 ∧ siteFlagSet t .split ∧ ∀ d, holdingEndedAt .split s t d))
    ∧ ∀ d, frameRuns s = true → hasState s d .barred → s.setup.coolOff ≤ (getDesk s d).barRun + 1 →
      ((getDesk s d).record.reason ≠ .starved ∨ (getDesk s d).ack = true) → exec (.barLifted d) s = .next
        ((setDesk s d
          { getDesk s d with
            record := { (getDesk s d).record with state := .idle }
            barRun := min ((getDesk s d).barRun + 1) s.setup.coolOff }).setLink
          { s.link with deskFlags := s.link.deskFlags.set d (s.link.deskFlags.get d ||| DeskFlag.barLifted.mask) })

/-! ### Limits of the air sequencer -/

/-- R94 to R96, R107 to R112, R119: the end of LEAD of a desk that cannot begin its over goes to PRIME; that of a tail
identification goes to IDENT with the first clip cell. A desk that can begin goes to ON at the end of LEAD, or from PRIME, in
the same frame start: it plays the next cell of its current block, or of its head block, or, draining with nothing queued,
ends. There and in ON, with the head later than the cursor, it declares the gap, counts the missing sequences, raises GAP and
plays the head. (That these rows pass over what is pending, which a frame start would take first, is the choice of log 36.) -/
def Obligations.LeadPrimeAndGap : Prop :=
  ∀ s : State, frameRuns s = true →
    (∀ d, s.air.state = .lead → s.setup.lead ≤ s.air.leadRun → s.air.purpose = some .desk → s.air.serving = some d →
      ¬ canBegin s d → s.air.starveRun + 1 < s.setup.silenceHold →
      ∃ t, exec .leadEnd s = .next t ∧ t.air.state = .prime ∧ t.air.starveRun = s.air.starveRun + 1
        ∧ (∃ p, t.bus.progLatch = some p ∧ p.kind = 0) ∧ t.claims = s.claims ∧ t.pool = s.pool)
    ∧ (s.air.state = .lead → s.setup.lead ≤ s.air.leadRun → s.air.purpose = some .tailIdent → ∀ x, s.pool.clip[0]? = some x →
      ∃ t, exec .leadEnd s = .next t ∧ t.air.state = .ident ∧ t.ident.phase = .playing ∧ t.ident.kind = some .tail
        ∧ t.ident.clipIndex = 1 ∧ t.air.identActive = true
        ∧ (∃ p, t.bus.progLatch = some p ∧ p.kind = 2 ∧ p.samples = x))
    ∧ ∀ i d, s.air.serving = some d → canBegin s d →
      (i = .leadEnd ∧ s.air.state = .lead ∧ s.setup.lead ≤ s.air.leadRun ∧ s.air.purpose = some .desk
          ∨ i = .primeToOn ∧ s.air.state = .prime →
        (∀ c x rest, (getQueue s d).current = some c → c.rest = x :: rest →
          ∃ t, exec i s = .next t ∧ currentPlayed s t d c x rest)
        ∧ (∀ b x rest, (getQueue s d).current = none → (getQueue s d).queue.head? = some b → b.cells = x :: rest →
          (getQueue s d).cursor = none ∨ (getQueue s d).cursor = some b.seq →
          ∃ t, exec i s = .next t ∧ headPlayed s t d b x rest ∧ (getQueue t d).gap = (getQueue s d).gap)
        ∧ ((getQueue s d).current = none → (getQueue s d).queue = [] → (getDesk s d).drain = true →
          hasState s d .holding → ∃ t, exec i s = .next t ∧ holdingEndedAt .done s t d ∧ t.air.state = .tail
            ∧ t.air.tailRun = 0 ∧ t.air.holdingEnded = true ∧ ∃ p, t.bus.progLatch = some p ∧ p.kind = 0))
      ∧ (i = .leadEnd ∧ s.air.state = .lead ∧ s.setup.lead ≤ s.air.leadRun ∧ s.air.purpose = some .desk
          ∨ i = .primeToOn ∧ s.air.state = .prime ∨ i = .gapDeclared ∧ s.air.state = .on →
        ∀ b x rest c, (getQueue s d).current = none → (getQueue s d).queue.head? = some b → b.cells = x :: rest →
          (getQueue s d).cursor = some c → b.seq ≠ c →
          ∃ t, exec i s = .next t ∧ headPlayed s t d b x rest ∧ gapCounted s t d b c)

/-- R111, R112, R113, R47, R48: the three endings that the air sequencer reports: DONE with the last cell of a release-after
block, DONE when a draining desk's queue is empty, STARVED at silence_hold. The sequencer goes to TAIL. (That these rows
pass over what is pending is the choice of log 36.) -/
def Obligations.EndingsOnAir : Prop :=
  ∀ (s : State) (d : Desk), frameRuns s = true → s.air.state = .on → s.air.serving = some d → hasState s d .holding →
    (∀ c x, (getQueue s d).current = some c → c.rest = [x] → c.releaseAfter = true →
      ∃ t, exec .releaseAfterDone s = .next t ∧ t.air.state = .tail ∧ t.air.tailRun = 0 ∧ t.air.holdingEnded = true
        ∧ holdingEndedAt .done s t d ∧ (getQueue t d).cursor = some (c.seq + 1) ∧ (getQueue t d).current = none
        ∧ (getQueue t d).queue = (getQueue s d).queue ∧ t.pool.free = s.pool.free + 1
        ∧ ∃ p, t.bus.progLatch = some p ∧ p.kind = 1)
    ∧ ((getQueue s d).current = none → (getQueue s d).queue = [] →
      ((getDesk s d).drain = true → ∃ t, exec .drainComplete s = .next t ∧ t.air.state = .tail ∧ t.air.tailRun = 0
        ∧ t.air.holdingEnded = true ∧ holdingEndedAt .done s t d ∧ ∃ p, t.bus.progLatch = some p ∧ p.kind = 0)
      ∧ ((getDesk s d).drain = false → s.setup.silenceHold ≤ s.air.starveRun + 1 →
        ∃ t, exec .starvation s = .next t ∧ t.air.state = .tail ∧ t.air.tailRun = 0 ∧ t.air.holdingEnded = true
          ∧ (getDesk t d).record = ⟨.barred, (getDesk s d).record.cls, .starved, 0⟩ ∧ (getDesk t d).barRun = 0
          ∧ (getDesk t d).ack = false ∧ deskFlagSet t d .ended ∧ t.pool = s.pool))

/-- R116, R118, R129, R105: TAIL ends OFF; IDENT ends in a start that waits, in TAIL, or back in ON. (That these rows
pass over any other pending work is the choice of log 36.) -/
def Obligations.TailAndIdentEnd : Prop :=
  ∀ s : State, frameRuns s = true →
    (s.air.state = .tail → s.setup.tail ≤ s.air.tailRun → ∃ t, exec .tailEnd s = .next t ∧ t.air.state = .off
      ∧ t.air.serving = none ∧ t.air.purpose = none ∧ t.bus.keylDrive = false ∧ t.bus.progDrive = false
      ∧ t.claims = s.claims ∧ t.pool = s.pool)
    ∧ (s.air.state = .ident → s.pool.clip.length ≤ s.ident.clipIndex →
      (∀ d, s.air.purpose = some .tailIdent ∨ s.air.holdingEnded = true → s.air.pendingStart = some d →
        ∃ t, exec .identEnd s = .next t ∧ t.ident.phase = .nothing ∧ t.ident.kind = none ∧ t.air.state = .lead
          ∧ t.air.serving = some d ∧ t.air.leadRun = 1 ∧ t.air.pendingStart = none)
      ∧ (s.air.purpose = some .tailIdent ∨ s.air.holdingEnded = true → s.air.pendingStart = none → 0 < s.setup.tail →
        ∃ t, exec .identEnd s = .next t ∧ t.ident.phase = .nothing ∧ t.ident.kind = none ∧ t.air.state = .tail
          ∧ t.air.tailRun = 1)
      ∧ (s.air.purpose = some .tailIdent ∨ s.air.holdingEnded = true → s.air.pendingStart = none → s.setup.tail = 0 →
        ∃ t, exec .identEnd s = .next t ∧ t.ident.phase = .nothing ∧ t.ident.kind = none ∧ t.air.state = .off)
      ∧ (∀ d c x y rest, s.air.purpose = some .desk → s.air.holdingEnded = false → s.air.serving = some d →
        (getQueue s d).current = some c → c.rest = x :: y :: rest →
        ∃ t, exec .identEnd s = .next t ∧ t.ident.phase = .nothing ∧ t.ident.kind = none ∧ t.air.state = .on
          ∧ (getQueue t d).current = some { c with rest := y :: rest, playIndex := c.playIndex + 1 }))

/-! ### Limits of the identification unit -/

/-- R124 to R128, R130 to R133: the identification falls due, acts at the holder's station, is overdue, and the quiet site's
tail identification is chosen and ordered. At a snapshot complete the tail-wait run follows the lines of R128 (where a JOINED
peer's slot is stale it is kept, whatever R133 says of a withdrawal: log 34), the tail order is considered where the run is
complete, and an own tail identification ORDERED or in LEAD is withdrawn where a lower station identifies. -/
def Obligations.IdentificationLimitsAct : Prop :=
  ∀ s : State,
    (pointsRun s = true → s.member.join = .member → s.ident.due = false → s.ident.a + 1 = s.setup.idInterval * 1000 →
      s.ident.a < 16777215 → ∀ k : Station,
      (k ≠ s.setup.station ∨ s.ident.phase ≠ .nothing → exec (.idDue k) s = .next
        (s.setIdent { s.ident with a := s.ident.a + 1, due := true, dueAge := 0 }))
      ∧ (∀ d, k = s.setup.station → s.ident.phase = .nothing → s.pool.clip = [] → s.air.state = .on →
        s.air.serving = some d → s.air.holdingEnded = false → hasState s d .holding →
        ∃ t, exec (.idDue k) s = .next t ∧ t.ident = { s.ident with a := s.ident.a + 1, due := true, dueAge := 0 }
          ∧ holdingEndedAt .noIdent s t d ∧ t.air.state = .tail)
      ∧ (k = s.setup.station → s.ident.phase = .nothing → s.pool.clip ≠ [] → s.air.state = .on ∨ s.air.state = .tail →
        s.air.pendingIdent = none → s.sync.state = .locked ∨ s.sync.state = .timing → s.bus.sampNow.clampl = false →
        exec (.idDue k) s = .next
          { s with
            ident := { s.ident with
              a := s.ident.a + 1, due := true, dueAge := 0, phase := .ordered, kind := some .interval }
            air := { s.air with pendingIdent := some .interval } }))
    ∧ (frameRuns s = true → s.ident.due = true → s.ident.overdue = false → s.ident.dueAge = 99 →
      exec .idOverdue s = .next
        { s with
          ident := { s.ident with dueAge := 100, overdue := true }
          link := { s.link with siteFlags := s.link.siteFlags ||| SiteFlag.idOverdue.mask } })
    ∧ (pointsRun s = true → memberActive s = true → joinedStale s = false → s.ident.a ≠ 0 →
      (∀ k d, ¬ holdsFloor s.claims.snap.recs k d) → identOnBus s = false → s.bus.sampNow.keyl = false →
      s.ident.tailWait + 1 = s.setup.tailWait →
      (s.ident.phase ≠ .nothing ∨ s.clamp.settleRun ≠ 10 → exec .tailWaitComplete s = .next
        (s.setIdent { s.ident with tailWait := s.setup.tailWait }))
      ∧ (s.ident.phase = .nothing → s.clamp.settleRun = 10 → ∃ t, exec .tailWaitComplete s = .next t
        ∧ t.ident.tailWait = s.setup.tailWait
        ∧ (∀ e k, s.history.ring.head? = some e → e.station = k → qualifies s k = true → t.ident.choice = some k)
        ∧ ((∀ e, s.history.ring.head? = some e → qualifies s e.station = false) →
          (∀ k, t.ident.choice = some k ↔ qualifies s k = true ∧ ∀ j, j < k → qualifies s j = false)
          ∧ (t.ident.choice = none ↔ ∀ k, qualifies s k = false))
        ∧ (t.ident.choice = some s.setup.station → s.air.state = .off → s.air.pendingStart = none →
          s.air.pendingIdent = none → s.bus.sampNow.clampl = false → s.pool.clip ≠ [] →
          t.ident.phase = .ordered ∧ t.ident.kind = some .tail ∧ t.air.pendingIdent = some .tail)
        ∧ (t.ident.choice ≠ some s.setup.station → t.ident.phase = .nothing ∧ t.air = s.air)))
    ∧ (pointsRun s = true → noFence s → ∀ (o : FenceOrder) (b : Bool), ∃ t, exec (.snapshotComplete o b) s = .next t
      ∧ t.ident.a = s.ident.a ∧ t.ident.due = s.ident.due ∧ t.ident.dueAge = s.ident.dueAge
      ∧ t.ident.overdue = s.ident.overdue
      ∧ (memberActive s = false → t.ident.tailWait = 0)
      ∧ (memberActive s = true → joinedStale s = true → t.ident.tailWait = s.ident.tailWait)
      ∧ (memberActive s = true → joinedStale s = false →
        (s.ident.a = 0 ∨ (∃ k d, holdsFloor t.claims.snap.recs k d) ∨ identOnBus s = true ∨ s.bus.sampNow.keyl = true →
          t.ident.tailWait = 0)
        ∧ (s.ident.a ≠ 0 → (∀ k d, ¬ holdsFloor t.claims.snap.recs k d) → identOnBus s = false →
          s.bus.sampNow.keyl = false → t.ident.tailWait = min (s.ident.tailWait + 1) s.setup.tailWait))
      ∧ (s.ident.phase = .ordered ∨ s.ident.phase = .lead → s.ident.kind = some .tail → lowerStationIdentifies s →
        t.ident.phase = .nothing ∧ t.ident.kind = none ∧ t.ident.clipIndex = 0
        ∧ (s.ident.phase = .ordered → t.air.pendingIdent = none ∧ t.air.withdrawDue = s.air.withdrawDue)
        ∧ (s.ident.phase = .lead → t.air.withdrawDue = true ∧ t.air.pendingIdent = s.air.pendingIdent))
      ∧ (s.ident.phase ≠ .nothing →
        s.ident.phase = .playing ∨ s.ident.kind ≠ some .tail ∨ ¬ lowerStationIdentifies s →
        t.ident.phase = s.ident.phase ∧ t.ident.kind = s.ident.kind ∧ t.ident.clipIndex = s.ident.clipIndex
        ∧ t.air.pendingIdent = s.air.pendingIdent ∧ t.air.withdrawDue = s.air.withdrawDue)
      ∧ (s.ident.phase = .nothing → ¬ lowerStationIdentifies s →
        (t.ident.tailWait = s.setup.tailWait → joinedStale s = false → s.clamp.settleRun = 10 →
          t.ident.choice = chooseStation t
          ∧ (t.ident.choice = some s.setup.station → memberActive s = true → s.air.state = .off →
            s.air.pendingStart = none → t.air.pendingStart = none → s.air.pendingIdent = none →
            s.bus.sampNow.clampl = false → s.pool.clip ≠ [] →
            t.ident.phase = .ordered ∧ t.ident.kind = some .tail ∧ t.air.pendingIdent = some .tail)
          ∧ (t.ident.choice ≠ some s.setup.station → t.ident.phase = .nothing ∧ t.air.pendingIdent = s.air.pendingIdent))
        ∧ (t.ident.tailWait ≠ s.setup.tailWait ∨ joinedStale s = true ∨ s.clamp.settleRun ≠ 10 →
          t.ident.choice = s.ident.choice ∧ t.ident.phase = .nothing ∧ t.air.pendingIdent = s.air.pendingIdent)))

/-! ### Limits of the clamp unit -/

/-- R143, R145, R146, R147, R139, R137: each supervision run that reaches its limit sets its cause, or raises its flag. At a
snapshot complete with no FENCE report the orphan run follows the lines of R143. -/
def Obligations.SupervisionLimitsAct : Prop :=
  ∀ s : State,
    (pointsRun s = true → s.member.join = .member → s.bus.sampNow.keyl = true →
      (joinedStale s = false → (∀ k d, ¬ holdsFloor s.claims.snap.recs k d) → identOnBus s = false →
        s.clamp.orphanRun + 1 = s.setup.tail + 8 → exec .orphan s = .next
        (causesBecome (s.clamp.causes ||| 0x40) (s.setClamp { s.clamp with orphanRun := s.setup.tail + 8 })))
      ∧ (s.bus.progResult = .error → s.clamp.progRun = 19 → exec .programRunLimit s = .next
        (causesBecome (s.clamp.causes ||| 0x08) (s.setClamp { s.clamp with progRun := 20 }))))
    ∧ (pointsRun s = true → noFence s → ∀ (o : FenceOrder) (b : Bool), ∃ t, exec (.snapshotComplete o b) s = .next t
      ∧ (s.member.join ≠ .member → t.clamp.orphanRun = 0)
      ∧ (s.member.join = .member → joinedStale s = true → t.clamp.orphanRun = s.clamp.orphanRun)
      ∧ (s.member.join = .member → joinedStale s = false →
        (s.bus.sampNow.keyl = false ∨ (∃ k d, holdsFloor t.claims.snap.recs k d) ∨ identOnBus s = true →
          t.clamp.orphanRun = 0)
        ∧ (s.bus.sampNow.keyl = true → (∀ k d, ¬ holdsFloor t.claims.snap.recs k d) → identOnBus s = false →
          t.clamp.orphanRun = min (s.clamp.orphanRun + 1) (s.setup.tail + 8)
          ∧ (s.clamp.orphanRun + 1 = s.setup.tail + 8 →
            t.clamp.causes &&& 0x40 ≠ 0 ∧ (s.clamp.causes &&& 0x40 = 0 → siteFlagSet t .clampChange)))))
    ∧ (sampleRuns s = true → s.setup.rfSense = true →
      (s.member.join = .member → s.bus.sampNow.rfon = true → s.bus.sampNow.keyl = false → s.clamp.stuckRun = 19 →
        exec .stuck s = .next
        (causesBecome (s.clamp.causes ||| 0x20) (s.setClamp { s.clamp with stuckRun := 20 })))
      ∧ (s.bus.sampNow.keyl = true → s.bus.sampNow.clampl = false → s.bus.sampNow.rfon = false →
        s.clamp.noRfRun + 1 = s.setup.lead + 50 → exec .noRf s = .next
        { s with
          clamp := { s.clamp with noRfRun := s.setup.lead + 50 }
          link := { s.link with siteFlags := s.link.siteFlags ||| SiteFlag.noRf.mask } }))
    ∧ (sampleRuns s = true → s.bus.sampNow.clampl = false → s.clamp.seen = .settling → s.clamp.settleRun = 9 →
      exec .settleComplete s = .next
        { s with
          clamp := { s.clamp with seen := .clear, settleRun := 10 }
          link := { s.link with siteFlags := s.link.siteFlags ||| SiteFlag.clampChange.mask } })
    ∧ (sampleRuns s = true → s.guard.on = true →
      (s.clamp.causes &&& 0x01 = 0 → s.bus.sampNow.refl = true → s.clamp.reflSet = 1 → exec .reflectSet s = .next
        (guardCausesBecome (s.clamp.causes ||| 0x01) (s.setClamp { s.clamp with reflSet := 0, reflClear := 0 })))
      ∧ (s.clamp.causes &&& 0x01 ≠ 0 → s.bus.sampNow.refl = false → s.clamp.reflClear = 99 → exec .reflectClear s = .next
        (guardCausesBecome (s.clamp.causes &&& 0xFE) (s.setClamp { s.clamp with reflSet := 0, reflClear := 0 }))))

/-! ### Guard meter -/

/-- R151 to R154: a cycle begins; a charge phase ends in a discharge, at once with a SHORT where the comparator is already
below; a reference discharge ends with its count and the measurement charge begins; a discharge that never ends is OPEN. A
measurement discharge that ends with a fault in either channel records its count and no ratio, and sets the heat reading run
to 0, HEAT unchanged. -/
def Obligations.GuardCyclePhases : Prop :=
  ∀ s : State,
    (frameRuns s = true → s.guard.on = true →
      (s.guard.beginDue = true ∨ (99 ≤ s.guard.since ∧ s.guard.phase = .idle)) → exec .guardCycleBegin s = .next
        (s.setGuard
          { s.guard with
            phase := .chargeRef, since := 0, beginDue := false, ticks := 0, doneRef := false, doneMeas := false
            openRef := false, shortRef := false, openMeas := false, shortMeas := false }))
    ∧ (s.guard.phase = .chargeRef →
      exec (.chargePhaseEnd true) s = .next (s.setGuard { s.guard with phase := .dischargeRef, high := 0, low := 0 })
      ∧ exec (.chargePhaseEnd false) s = .next (guardCausesBecome (s.clamp.causes ||| 0x02) (s.setGuard
        { s.guard with
          phase := .chargeMeas, ticks := 0, high := 0, low := 0, nRef := 0, doneRef := false, openRef := false
          shortRef := true })))
    ∧ (s.guard.phase = .chargeMeas →
      exec (.chargePhaseEnd true) s = .next (s.setGuard { s.guard with phase := .dischargeMeas, high := 0, low := 0 })
      ∧ exec (.chargePhaseEnd false) s = .next (guardCausesBecome (s.clamp.causes ||| 0x02) (s.setGuard
        { s.guard with
          phase := .idle, high := 0, low := 0, nMeas := 0, doneMeas := false, openMeas := false
          shortMeas := true, heatRun := 0 })))
    ∧ (s.guard.phase = .dischargeRef →
      (∀ n, counterOf s.guard + n < 65536 → exec (.dischargeEnd n) s = .next
        (guardCausesBecome (if counterOf s.guard + n < 64 then s.clamp.causes ||| 0x02 else s.clamp.causes) (s.setGuard
          { s.guard with
            phase := .chargeMeas, ticks := 0
            high := BitVec.ofNat 8 ((counterOf s.guard + n) / 256), low := BitVec.ofNat 8 (counterOf s.guard + n)
            nRef := counterOf s.guard + n, doneRef := true, openRef := false
            shortRef := decide (counterOf s.guard + n < 64) })))
      ∧ exec .dischargeOverflow s = .next (guardCausesBecome (s.clamp.causes ||| 0x02) (s.setGuard
        { s.guard with
          phase := .chargeMeas, ticks := 0, high := 0, low := 0, nRef := 65535, doneRef := false, openRef := true
          shortRef := false })))
    ∧ (s.guard.phase = .dischargeMeas →
      (∀ n, counterOf s.guard + n < 65536 →
        counterOf s.guard + n < 64 ∨ s.guard.openRef = true ∨ s.guard.shortRef = true → exec (.dischargeEnd n) s = .next
        (guardCausesBecome (if counterOf s.guard + n < 64 then s.clamp.causes ||| 0x02 else s.clamp.causes) (s.setGuard
          { s.guard with
            phase := .idle
            high := BitVec.ofNat 8 ((counterOf s.guard + n) / 256), low := BitVec.ofNat 8 (counterOf s.guard + n)
            nMeas := counterOf s.guard + n, doneMeas := true, openMeas := false
            shortMeas := decide (counterOf s.guard + n < 64), heatRun := 0 })))
      ∧ exec .dischargeOverflow s = .next
        (guardCausesBecome (s.clamp.causes ||| 0x02) (s.setGuard
          { s.guard with
            phase := .idle, high := 0, low := 0, nMeas := 65535, doneMeas := false, openMeas := true, shortMeas := false
            heatRun := 0 })))

/-- R155, at the ratio step of R154 that ends a measurement discharge, and as the row HEAT_SET (log 5): the heat reading run
and HEAT by the ratio, GUARD raised with each change. Without a fault the ratio step also clears SENSOR. -/
def Obligations.HeatFromRatio : Prop :=
  ∀ s : State, s.setup.heatTrip < s.setup.heatClear →
    (∀ n r, s.guard.phase = .dischargeMeas → s.guard.openRef = false → s.guard.shortRef = false →
      64 ≤ counterOf s.guard + n → counterOf s.guard + n < 65536 → 0 < s.guard.nRef →
      r = min ((counterOf s.guard + n) * 256 / s.guard.nRef) 65535 → ∃ (g : Guard) (x : Byte),
        exec (.dischargeEnd n) s = .next (guardCausesBecome x (s.setGuard g))
        ∧ g = { s.guard with
            phase := .idle, high := g.high, low := g.low, nMeas := counterOf s.guard + n, doneMeas := true
            openMeas := false, shortMeas := false, ratio := some r, heatRun := g.heatRun }
        ∧ (r ≤ s.setup.heatTrip → g.heatRun = min (s.guard.heatRun + 1) 2
          ∧ (1 ≤ s.guard.heatRun → x = (s.clamp.causes &&& 0xFD) ||| 0x04)
          ∧ (s.guard.heatRun = 0 → x = s.clamp.causes &&& 0xFD))
        ∧ (s.setup.heatTrip < r → r < s.setup.heatClear → g.heatRun = 0 ∧ x = s.clamp.causes &&& 0xFD)
        ∧ (s.setup.heatClear ≤ r → g.heatRun = 0 ∧ x = s.clamp.causes &&& 0xF9))
    ∧ ∀ r, s.guard.on = true → s.guard.ratio = some r → r ≤ s.setup.heatTrip → s.guard.heatRun = 1 →
      exec .heatSet s = .next
        (guardCausesBecome (s.clamp.causes ||| 0x04) (s.setGuard { s.guard with heatRun := 2 }))

/-! ### Laws -/

/-- Every law of this file's invariants holds of the part as a power-on reset leaves it. (The published records there are the
choice of log 32.) -/
def Obligations.LawsAtReset : Prop :=
  ringLaw State.reset ∧ identLaw State.reset ∧ settleLaw State.reset ∧ dueLaw State.reset ∧ recordLaw State.reset
    ∧ siteLaw State.reset ∧ poolLaw State.reset ∧ queuesLaw State.reset

/-- R157, R123, R139: the laws of the history ring, of the own identification, of the clamp settle and of the due flag are
each kept by every step. -/
def Obligations.BlockLawsKept : Prop :=
  ∀ s t : State, step s = .next t →
    (ringLaw s → ringLaw t) ∧ (identLaw s → identLaw t) ∧ (settleLaw s → settleLaw t) ∧ (dueLaw s → dueLaw t)

/-- R39, R52, R120: the shapes of claim records, and the law that out of MEMBER nothing waits or holds and out of LOCKED and
TIMING nothing holds and the air sequencer is OFF, are kept by every step. -/
def Obligations.ClaimLawsKept : Prop :=
  ∀ s t : State, step s = .next t → (recordLaw s → recordLaw t) ∧ (siteLaw s → siteLaw t)

/-- R84, R86, R88, R90: the conservation of cells and the order of every desk queue are kept by every step. -/
def Obligations.PoolLawsKept : Prop :=
  ∀ s t : State, step s = .next t → poolLaw s → queuesLaw s → poolLaw t ∧ queuesLaw t
end

