-- ==== Sys2Proof/Laws/State.lean ====
section
/-! SUPPORT. Each block of State after each setter: true by rfl, so that no proof unfolds a record update. And the entries of the fixed-size tables. -/

namespace Sys2Proof.Machine

variable (s : State)

@[simp] theorem setPower_power (x : Power) : (s.setPower x).power = x := rfl
@[simp] theorem setPower_setup (x : Power) : (s.setPower x).setup = s.setup := rfl
@[simp] theorem setPower_bus (x : Power) : (s.setPower x).bus = s.bus := rfl
@[simp] theorem setPower_sync (x : Power) : (s.setPower x).sync = s.sync := rfl
@[simp] theorem setPower_member (x : Power) : (s.setPower x).member = s.member := rfl
@[simp] theorem setPower_claims (x : Power) : (s.setPower x).claims = s.claims := rfl
@[simp] theorem setPower_pool (x : Power) : (s.setPower x).pool = s.pool := rfl
@[simp] theorem setPower_air (x : Power) : (s.setPower x).air = s.air := rfl
@[simp] theorem setPower_ident (x : Power) : (s.setPower x).ident = s.ident := rfl
@[simp] theorem setPower_clamp (x : Power) : (s.setPower x).clamp = s.clamp := rfl
@[simp] theorem setPower_guard (x : Power) : (s.setPower x).guard = s.guard := rfl
@[simp] theorem setPower_history (x : Power) : (s.setPower x).history = s.history := rfl
@[simp] theorem setPower_link (x : Power) : (s.setPower x).link = s.link := rfl
@[simp] theorem setPower_freeIx (x : Power) : (s.setPower x).freeIx = s.freeIx := rfl
@[simp] theorem setPower_pending (x : Power) : (s.setPower x).pending = s.pending := rfl
@[simp] theorem setPower_setPower (x y : Power) : (s.setPower x).setPower y = s.setPower y := rfl

@[simp] theorem setSetup_power (x : Setup) : (s.setSetup x).power = s.power := rfl
@[simp] theorem setSetup_setup (x : Setup) : (s.setSetup x).setup = x := rfl
@[simp] theorem setSetup_bus (x : Setup) : (s.setSetup x).bus = s.bus := rfl
@[simp] theorem setSetup_sync (x : Setup) : (s.setSetup x).sync = s.sync := rfl
@[simp] theorem setSetup_member (x : Setup) : (s.setSetup x).member = s.member := rfl
@[simp] theorem setSetup_claims (x : Setup) : (s.setSetup x).claims = s.claims := rfl
@[simp] theorem setSetup_pool (x : Setup) : (s.setSetup x).pool = s.pool := rfl
@[simp] theorem setSetup_air (x : Setup) : (s.setSetup x).air = s.air := rfl
@[simp] theorem setSetup_ident (x : Setup) : (s.setSetup x).ident = s.ident := rfl
@[simp] theorem setSetup_clamp (x : Setup) : (s.setSetup x).clamp = s.clamp := rfl
@[simp] theorem setSetup_guard (x : Setup) : (s.setSetup x).guard = s.guard := rfl
@[simp] theorem setSetup_history (x : Setup) : (s.setSetup x).history = s.history := rfl
@[simp] theorem setSetup_link (x : Setup) : (s.setSetup x).link = s.link := rfl
@[simp] theorem setSetup_freeIx (x : Setup) : (s.setSetup x).freeIx = s.freeIx := rfl
@[simp] theorem setSetup_pending (x : Setup) : (s.setSetup x).pending = s.pending := rfl
@[simp] theorem setSetup_setSetup (x y : Setup) : (s.setSetup x).setSetup y = s.setSetup y := rfl

@[simp] theorem setBus_power (x : Bus) : (s.setBus x).power = s.power := rfl
@[simp] theorem setBus_setup (x : Bus) : (s.setBus x).setup = s.setup := rfl
@[simp] theorem setBus_bus (x : Bus) : (s.setBus x).bus = x := rfl
@[simp] theorem setBus_sync (x : Bus) : (s.setBus x).sync = s.sync := rfl
@[simp] theorem setBus_member (x : Bus) : (s.setBus x).member = s.member := rfl
@[simp] theorem setBus_claims (x : Bus) : (s.setBus x).claims = s.claims := rfl
@[simp] theorem setBus_pool (x : Bus) : (s.setBus x).pool = s.pool := rfl
@[simp] theorem setBus_air (x : Bus) : (s.setBus x).air = s.air := rfl
@[simp] theorem setBus_ident (x : Bus) : (s.setBus x).ident = s.ident := rfl
@[simp] theorem setBus_clamp (x : Bus) : (s.setBus x).clamp = s.clamp := rfl
@[simp] theorem setBus_guard (x : Bus) : (s.setBus x).guard = s.guard := rfl
@[simp] theorem setBus_history (x : Bus) : (s.setBus x).history = s.history := rfl
@[simp] theorem setBus_link (x : Bus) : (s.setBus x).link = s.link := rfl
@[simp] theorem setBus_freeIx (x : Bus) : (s.setBus x).freeIx = s.freeIx := rfl
@[simp] theorem setBus_pending (x : Bus) : (s.setBus x).pending = s.pending := rfl
@[simp] theorem setBus_setBus (x y : Bus) : (s.setBus x).setBus y = s.setBus y := rfl

@[simp] theorem setSync_power (x : Sync) : (s.setSync x).power = s.power := rfl
@[simp] theorem setSync_setup (x : Sync) : (s.setSync x).setup = s.setup := rfl
@[simp] theorem setSync_bus (x : Sync) : (s.setSync x).bus = s.bus := rfl
@[simp] theorem setSync_sync (x : Sync) : (s.setSync x).sync = x := rfl
@[simp] theorem setSync_member (x : Sync) : (s.setSync x).member = s.member := rfl
@[simp] theorem setSync_claims (x : Sync) : (s.setSync x).claims = s.claims := rfl
@[simp] theorem setSync_pool (x : Sync) : (s.setSync x).pool = s.pool := rfl
@[simp] theorem setSync_air (x : Sync) : (s.setSync x).air = s.air := rfl
@[simp] theorem setSync_ident (x : Sync) : (s.setSync x).ident = s.ident := rfl
@[simp] theorem setSync_clamp (x : Sync) : (s.setSync x).clamp = s.clamp := rfl
@[simp] theorem setSync_guard (x : Sync) : (s.setSync x).guard = s.guard := rfl
@[simp] theorem setSync_history (x : Sync) : (s.setSync x).history = s.history := rfl
@[simp] theorem setSync_link (x : Sync) : (s.setSync x).link = s.link := rfl
@[simp] theorem setSync_freeIx (x : Sync) : (s.setSync x).freeIx = s.freeIx := rfl
@[simp] theorem setSync_pending (x : Sync) : (s.setSync x).pending = s.pending := rfl
@[simp] theorem setSync_setSync (x y : Sync) : (s.setSync x).setSync y = s.setSync y := rfl

@[simp] theorem setMember_power (x : Member) : (s.setMember x).power = s.power := rfl
@[simp] theorem setMember_setup (x : Member) : (s.setMember x).setup = s.setup := rfl
@[simp] theorem setMember_bus (x : Member) : (s.setMember x).bus = s.bus := rfl
@[simp] theorem setMember_sync (x : Member) : (s.setMember x).sync = s.sync := rfl
@[simp] theorem setMember_member (x : Member) : (s.setMember x).member = x := rfl
@[simp] theorem setMember_claims (x : Member) : (s.setMember x).claims = s.claims := rfl
@[simp] theorem setMember_pool (x : Member) : (s.setMember x).pool = s.pool := rfl
@[simp] theorem setMember_air (x : Member) : (s.setMember x).air = s.air := rfl
@[simp] theorem setMember_ident (x : Member) : (s.setMember x).ident = s.ident := rfl
@[simp] theorem setMember_clamp (x : Member) : (s.setMember x).clamp = s.clamp := rfl
@[simp] theorem setMember_guard (x : Member) : (s.setMember x).guard = s.guard := rfl
@[simp] theorem setMember_history (x : Member) : (s.setMember x).history = s.history := rfl
@[simp] theorem setMember_link (x : Member) : (s.setMember x).link = s.link := rfl
@[simp] theorem setMember_freeIx (x : Member) : (s.setMember x).freeIx = s.freeIx := rfl
@[simp] theorem setMember_pending (x : Member) : (s.setMember x).pending = s.pending := rfl
@[simp] theorem setMember_setMember (x y : Member) : (s.setMember x).setMember y = s.setMember y := rfl

@[simp] theorem setClaims_power (x : Claims) : (s.setClaims x).power = s.power := rfl
@[simp] theorem setClaims_setup (x : Claims) : (s.setClaims x).setup = s.setup := rfl
@[simp] theorem setClaims_bus (x : Claims) : (s.setClaims x).bus = s.bus := rfl
@[simp] theorem setClaims_sync (x : Claims) : (s.setClaims x).sync = s.sync := rfl
@[simp] theorem setClaims_member (x : Claims) : (s.setClaims x).member = s.member := rfl
@[simp] theorem setClaims_claims (x : Claims) : (s.setClaims x).claims = x := rfl
@[simp] theorem setClaims_pool (x : Claims) : (s.setClaims x).pool = s.pool := rfl
@[simp] theorem setClaims_air (x : Claims) : (s.setClaims x).air = s.air := rfl
@[simp] theorem setClaims_ident (x : Claims) : (s.setClaims x).ident = s.ident := rfl
@[simp] theorem setClaims_clamp (x : Claims) : (s.setClaims x).clamp = s.clamp := rfl
@[simp] theorem setClaims_guard (x : Claims) : (s.setClaims x).guard = s.guard := rfl
@[simp] theorem setClaims_history (x : Claims) : (s.setClaims x).history = s.history := rfl
@[simp] theorem setClaims_link (x : Claims) : (s.setClaims x).link = s.link := rfl
@[simp] theorem setClaims_freeIx (x : Claims) : (s.setClaims x).freeIx = s.freeIx := rfl
@[simp] theorem setClaims_pending (x : Claims) : (s.setClaims x).pending = s.pending := rfl
@[simp] theorem setClaims_setClaims (x y : Claims) : (s.setClaims x).setClaims y = s.setClaims y := rfl

@[simp] theorem setPool_power (x : Pool) : (s.setPool x).power = s.power := rfl
@[simp] theorem setPool_setup (x : Pool) : (s.setPool x).setup = s.setup := rfl
@[simp] theorem setPool_bus (x : Pool) : (s.setPool x).bus = s.bus := rfl
@[simp] theorem setPool_sync (x : Pool) : (s.setPool x).sync = s.sync := rfl
@[simp] theorem setPool_member (x : Pool) : (s.setPool x).member = s.member := rfl
@[simp] theorem setPool_claims (x : Pool) : (s.setPool x).claims = s.claims := rfl
@[simp] theorem setPool_pool (x : Pool) : (s.setPool x).pool = x := rfl
@[simp] theorem setPool_air (x : Pool) : (s.setPool x).air = s.air := rfl
@[simp] theorem setPool_ident (x : Pool) : (s.setPool x).ident = s.ident := rfl
@[simp] theorem setPool_clamp (x : Pool) : (s.setPool x).clamp = s.clamp := rfl
@[simp] theorem setPool_guard (x : Pool) : (s.setPool x).guard = s.guard := rfl
@[simp] theorem setPool_history (x : Pool) : (s.setPool x).history = s.history := rfl
@[simp] theorem setPool_link (x : Pool) : (s.setPool x).link = s.link := rfl
@[simp] theorem setPool_freeIx (x : Pool) : (s.setPool x).freeIx = s.freeIx := rfl
@[simp] theorem setPool_pending (x : Pool) : (s.setPool x).pending = s.pending := rfl
@[simp] theorem setPool_setPool (x y : Pool) : (s.setPool x).setPool y = s.setPool y := rfl

@[simp] theorem setAir_power (x : Air) : (s.setAir x).power = s.power := rfl
@[simp] theorem setAir_setup (x : Air) : (s.setAir x).setup = s.setup := rfl
@[simp] theorem setAir_bus (x : Air) : (s.setAir x).bus = s.bus := rfl
@[simp] theorem setAir_sync (x : Air) : (s.setAir x).sync = s.sync := rfl
@[simp] theorem setAir_member (x : Air) : (s.setAir x).member = s.member := rfl
@[simp] theorem setAir_claims (x : Air) : (s.setAir x).claims = s.claims := rfl
@[simp] theorem setAir_pool (x : Air) : (s.setAir x).pool = s.pool := rfl
@[simp] theorem setAir_air (x : Air) : (s.setAir x).air = x := rfl
@[simp] theorem setAir_ident (x : Air) : (s.setAir x).ident = s.ident := rfl
@[simp] theorem setAir_clamp (x : Air) : (s.setAir x).clamp = s.clamp := rfl
@[simp] theorem setAir_guard (x : Air) : (s.setAir x).guard = s.guard := rfl
@[simp] theorem setAir_history (x : Air) : (s.setAir x).history = s.history := rfl
@[simp] theorem setAir_link (x : Air) : (s.setAir x).link = s.link := rfl
@[simp] theorem setAir_freeIx (x : Air) : (s.setAir x).freeIx = s.freeIx := rfl
@[simp] theorem setAir_pending (x : Air) : (s.setAir x).pending = s.pending := rfl
@[simp] theorem setAir_setAir (x y : Air) : (s.setAir x).setAir y = s.setAir y := rfl

@[simp] theorem setIdent_power (x : Ident) : (s.setIdent x).power = s.power := rfl
@[simp] theorem setIdent_setup (x : Ident) : (s.setIdent x).setup = s.setup := rfl
@[simp] theorem setIdent_bus (x : Ident) : (s.setIdent x).bus = s.bus := rfl
@[simp] theorem setIdent_sync (x : Ident) : (s.setIdent x).sync = s.sync := rfl
@[simp] theorem setIdent_member (x : Ident) : (s.setIdent x).member = s.member := rfl
@[simp] theorem setIdent_claims (x : Ident) : (s.setIdent x).claims = s.claims := rfl
@[simp] theorem setIdent_pool (x : Ident) : (s.setIdent x).pool = s.pool := rfl
@[simp] theorem setIdent_air (x : Ident) : (s.setIdent x).air = s.air := rfl
@[simp] theorem setIdent_ident (x : Ident) : (s.setIdent x).ident = x := rfl
@[simp] theorem setIdent_clamp (x : Ident) : (s.setIdent x).clamp = s.clamp := rfl
@[simp] theorem setIdent_guard (x : Ident) : (s.setIdent x).guard = s.guard := rfl
@[simp] theorem setIdent_history (x : Ident) : (s.setIdent x).history = s.history := rfl
@[simp] theorem setIdent_link (x : Ident) : (s.setIdent x).link = s.link := rfl
@[simp] theorem setIdent_freeIx (x : Ident) : (s.setIdent x).freeIx = s.freeIx := rfl
@[simp] theorem setIdent_pending (x : Ident) : (s.setIdent x).pending = s.pending := rfl
@[simp] theorem setIdent_setIdent (x y : Ident) : (s.setIdent x).setIdent y = s.setIdent y := rfl

@[simp] theorem setClamp_power (x : Clamp) : (s.setClamp x).power = s.power := rfl
@[simp] theorem setClamp_setup (x : Clamp) : (s.setClamp x).setup = s.setup := rfl
@[simp] theorem setClamp_bus (x : Clamp) : (s.setClamp x).bus = s.bus := rfl
@[simp] theorem setClamp_sync (x : Clamp) : (s.setClamp x).sync = s.sync := rfl
@[simp] theorem setClamp_member (x : Clamp) : (s.setClamp x).member = s.member := rfl
@[simp] theorem setClamp_claims (x : Clamp) : (s.setClamp x).claims = s.claims := rfl
@[simp] theorem setClamp_pool (x : Clamp) : (s.setClamp x).pool = s.pool := rfl
@[simp] theorem setClamp_air (x : Clamp) : (s.setClamp x).air = s.air := rfl
@[simp] theorem setClamp_ident (x : Clamp) : (s.setClamp x).ident = s.ident := rfl
@[simp] theorem setClamp_clamp (x : Clamp) : (s.setClamp x).clamp = x := rfl
@[simp] theorem setClamp_guard (x : Clamp) : (s.setClamp x).guard = s.guard := rfl
@[simp] theorem setClamp_history (x : Clamp) : (s.setClamp x).history = s.history := rfl
@[simp] theorem setClamp_link (x : Clamp) : (s.setClamp x).link = s.link := rfl
@[simp] theorem setClamp_freeIx (x : Clamp) : (s.setClamp x).freeIx = s.freeIx := rfl
@[simp] theorem setClamp_pending (x : Clamp) : (s.setClamp x).pending = s.pending := rfl
@[simp] theorem setClamp_setClamp (x y : Clamp) : (s.setClamp x).setClamp y = s.setClamp y := rfl

@[simp] theorem setGuard_power (x : Guard) : (s.setGuard x).power = s.power := rfl
@[simp] theorem setGuard_setup (x : Guard) : (s.setGuard x).setup = s.setup := rfl
@[simp] theorem setGuard_bus (x : Guard) : (s.setGuard x).bus = s.bus := rfl
@[simp] theorem setGuard_sync (x : Guard) : (s.setGuard x).sync = s.sync := rfl
@[simp] theorem setGuard_member (x : Guard) : (s.setGuard x).member = s.member := rfl
@[simp] theorem setGuard_claims (x : Guard) : (s.setGuard x).claims = s.claims := rfl
@[simp] theorem setGuard_pool (x : Guard) : (s.setGuard x).pool = s.pool := rfl
@[simp] theorem setGuard_air (x : Guard) : (s.setGuard x).air = s.air := rfl
@[simp] theorem setGuard_ident (x : Guard) : (s.setGuard x).ident = s.ident := rfl
@[simp] theorem setGuard_clamp (x : Guard) : (s.setGuard x).clamp = s.clamp := rfl
@[simp] theorem setGuard_guard (x : Guard) : (s.setGuard x).guard = x := rfl
@[simp] theorem setGuard_history (x : Guard) : (s.setGuard x).history = s.history := rfl
@[simp] theorem setGuard_link (x : Guard) : (s.setGuard x).link = s.link := rfl
@[simp] theorem setGuard_freeIx (x : Guard) : (s.setGuard x).freeIx = s.freeIx := rfl
@[simp] theorem setGuard_pending (x : Guard) : (s.setGuard x).pending = s.pending := rfl
@[simp] theorem setGuard_setGuard (x y : Guard) : (s.setGuard x).setGuard y = s.setGuard y := rfl

@[simp] theorem setHistory_power (x : History) : (s.setHistory x).power = s.power := rfl
@[simp] theorem setHistory_setup (x : History) : (s.setHistory x).setup = s.setup := rfl
@[simp] theorem setHistory_bus (x : History) : (s.setHistory x).bus = s.bus := rfl
@[simp] theorem setHistory_sync (x : History) : (s.setHistory x).sync = s.sync := rfl
@[simp] theorem setHistory_member (x : History) : (s.setHistory x).member = s.member := rfl
@[simp] theorem setHistory_claims (x : History) : (s.setHistory x).claims = s.claims := rfl
@[simp] theorem setHistory_pool (x : History) : (s.setHistory x).pool = s.pool := rfl
@[simp] theorem setHistory_air (x : History) : (s.setHistory x).air = s.air := rfl
@[simp] theorem setHistory_ident (x : History) : (s.setHistory x).ident = s.ident := rfl
@[simp] theorem setHistory_clamp (x : History) : (s.setHistory x).clamp = s.clamp := rfl
@[simp] theorem setHistory_guard (x : History) : (s.setHistory x).guard = s.guard := rfl
@[simp] theorem setHistory_history (x : History) : (s.setHistory x).history = x := rfl
@[simp] theorem setHistory_link (x : History) : (s.setHistory x).link = s.link := rfl
@[simp] theorem setHistory_freeIx (x : History) : (s.setHistory x).freeIx = s.freeIx := rfl
@[simp] theorem setHistory_pending (x : History) : (s.setHistory x).pending = s.pending := rfl
@[simp] theorem setHistory_setHistory (x y : History) : (s.setHistory x).setHistory y = s.setHistory y := rfl

@[simp] theorem setLink_power (x : Link) : (s.setLink x).power = s.power := rfl
@[simp] theorem setLink_setup (x : Link) : (s.setLink x).setup = s.setup := rfl
@[simp] theorem setLink_bus (x : Link) : (s.setLink x).bus = s.bus := rfl
@[simp] theorem setLink_sync (x : Link) : (s.setLink x).sync = s.sync := rfl
@[simp] theorem setLink_member (x : Link) : (s.setLink x).member = s.member := rfl
@[simp] theorem setLink_claims (x : Link) : (s.setLink x).claims = s.claims := rfl
@[simp] theorem setLink_pool (x : Link) : (s.setLink x).pool = s.pool := rfl
@[simp] theorem setLink_air (x : Link) : (s.setLink x).air = s.air := rfl
@[simp] theorem setLink_ident (x : Link) : (s.setLink x).ident = s.ident := rfl
@[simp] theorem setLink_clamp (x : Link) : (s.setLink x).clamp = s.clamp := rfl
@[simp] theorem setLink_guard (x : Link) : (s.setLink x).guard = s.guard := rfl
@[simp] theorem setLink_history (x : Link) : (s.setLink x).history = s.history := rfl
@[simp] theorem setLink_link (x : Link) : (s.setLink x).link = x := rfl
@[simp] theorem setLink_freeIx (x : Link) : (s.setLink x).freeIx = s.freeIx := rfl
@[simp] theorem setLink_pending (x : Link) : (s.setLink x).pending = s.pending := rfl
@[simp] theorem setLink_setLink (x y : Link) : (s.setLink x).setLink y = s.setLink y := rfl

@[simp] theorem setFreeIx_power (x : Nat) : (s.setFreeIx x).power = s.power := rfl
@[simp] theorem setFreeIx_setup (x : Nat) : (s.setFreeIx x).setup = s.setup := rfl
@[simp] theorem setFreeIx_bus (x : Nat) : (s.setFreeIx x).bus = s.bus := rfl
@[simp] theorem setFreeIx_sync (x : Nat) : (s.setFreeIx x).sync = s.sync := rfl
@[simp] theorem setFreeIx_member (x : Nat) : (s.setFreeIx x).member = s.member := rfl
@[simp] theorem setFreeIx_claims (x : Nat) : (s.setFreeIx x).claims = s.claims := rfl
@[simp] theorem setFreeIx_pool (x : Nat) : (s.setFreeIx x).pool = s.pool := rfl
@[simp] theorem setFreeIx_air (x : Nat) : (s.setFreeIx x).air = s.air := rfl
@[simp] theorem setFreeIx_ident (x : Nat) : (s.setFreeIx x).ident = s.ident := rfl
@[simp] theorem setFreeIx_clamp (x : Nat) : (s.setFreeIx x).clamp = s.clamp := rfl
@[simp] theorem setFreeIx_guard (x : Nat) : (s.setFreeIx x).guard = s.guard := rfl
@[simp] theorem setFreeIx_history (x : Nat) : (s.setFreeIx x).history = s.history := rfl
@[simp] theorem setFreeIx_link (x : Nat) : (s.setFreeIx x).link = s.link := rfl
@[simp] theorem setFreeIx_freeIx (x : Nat) : (s.setFreeIx x).freeIx = x := rfl
@[simp] theorem setFreeIx_pending (x : Nat) : (s.setFreeIx x).pending = s.pending := rfl
@[simp] theorem setFreeIx_setFreeIx (x y : Nat) : (s.setFreeIx x).setFreeIx y = s.setFreeIx y := rfl

@[simp] theorem setPending_power (x : List Instr) : (s.setPending x).power = s.power := rfl
@[simp] theorem setPending_setup (x : List Instr) : (s.setPending x).setup = s.setup := rfl
@[simp] theorem setPending_bus (x : List Instr) : (s.setPending x).bus = s.bus := rfl
@[simp] theorem setPending_sync (x : List Instr) : (s.setPending x).sync = s.sync := rfl
@[simp] theorem setPending_member (x : List Instr) : (s.setPending x).member = s.member := rfl
@[simp] theorem setPending_claims (x : List Instr) : (s.setPending x).claims = s.claims := rfl
@[simp] theorem setPending_pool (x : List Instr) : (s.setPending x).pool = s.pool := rfl
@[simp] theorem setPending_air (x : List Instr) : (s.setPending x).air = s.air := rfl
@[simp] theorem setPending_ident (x : List Instr) : (s.setPending x).ident = s.ident := rfl
@[simp] theorem setPending_clamp (x : List Instr) : (s.setPending x).clamp = s.clamp := rfl
@[simp] theorem setPending_guard (x : List Instr) : (s.setPending x).guard = s.guard := rfl
@[simp] theorem setPending_history (x : List Instr) : (s.setPending x).history = s.history := rfl
@[simp] theorem setPending_link (x : List Instr) : (s.setPending x).link = s.link := rfl
@[simp] theorem setPending_freeIx (x : List Instr) : (s.setPending x).freeIx = s.freeIx := rfl
@[simp] theorem setPending_pending (x : List Instr) : (s.setPending x).pending = x := rfl
@[simp] theorem setPending_setPending (x y : List Instr) : (s.setPending x).setPending y = s.setPending y := rfl

/-- Two states with the same blocks are the same. -/
theorem State.eq_of_blocks {s t : State}
    (h0 : s.power = t.power) (h1 : s.setup = t.setup) (h2 : s.bus = t.bus) (h3 : s.sync = t.sync) (h4 :
    s.member = t.member) (h5 : s.claims = t.claims) (h6 : s.pool = t.pool) (h7 : s.air = t.air) (h8 : s.ident
    = t.ident) (h9 : s.clamp = t.clamp) (h10 : s.guard = t.guard) (h11 : s.history = t.history) (h12 : s.link
    = t.link) (h13 : s.freeIx = t.freeIx) (h14 : s.pending = t.pending) : s = t := by
  cases s; cases t; simp_all

end Sys2Proof.Machine

namespace Sys2Proof

variable {α β : Type}

@[simp] theorem Four.get_set_self (v : Four α) (d : Desk) (x : α) : (v.set d x).get d = x := by
  fin_cases d <;> rfl

theorem Four.get_set_ne (v : Four α) {d e : Desk} (x : α) (h : e ≠ d) : (v.set d x).get e = v.get e := by
  fin_cases d <;> fin_cases e <;> first | rfl | exact absurd rfl h

theorem Four.get_set (v : Four α) (d e : Desk) (x : α) : (v.set d x).get e = if e = d then x else v.get e := by
  fin_cases d <;> fin_cases e <;> rfl

@[simp] theorem Four.get_map (f : α → β) (v : Four α) (d : Desk) : (v.map f).get d = f (v.get d) := by
  fin_cases d <;> rfl

@[simp] theorem Four.get_mapIdx (f : Desk → α → β) (v : Four α) (d : Desk) : (v.mapIdx f).get d = f d (v.get d) := by
  fin_cases d <;> rfl

@[simp] theorem Four.get_all (x : α) (d : Desk) : (Four.all x).get d = x := by
  fin_cases d <;> rfl

theorem Four.ext_get {v w : Four α} (h : ∀ d, v.get d = w.get d) : v = w := by
  cases v; cases w; simp only [Four.mk.injEq]; exact ⟨h 0, h 1, h 2, h 3⟩

@[simp] theorem Four.set_get (v : Four α) (d : Desk) : v.set d (v.get d) = v := by
  fin_cases d <;> rfl

@[simp] theorem Four.set_set (v : Four α) (d : Desk) (x y : α) : (v.set d x).set d y = v.set d y := by
  fin_cases d <;> rfl

@[simp] theorem Eight.get_set_self (v : Eight α) (k : Station) (x : α) : (v.set k x).get k = x := by
  fin_cases k <;> rfl

theorem Eight.get_set (v : Eight α) (k j : Station) (x : α) : (v.set k x).get j = if j = k then x else v.get j := by
  fin_cases k <;> fin_cases j <;> rfl

theorem Eight.get_set_ne (v : Eight α) {k j : Station} (x : α) (h : j ≠ k) : (v.set k x).get j = v.get j := by
  rw [Eight.get_set, if_neg h]

@[simp] theorem Eight.get_mapIdx (f : Station → α → β) (v : Eight α) (k : Station) : (v.mapIdx f).get k = f k (v.get k) := by
  fin_cases k <;> rfl

@[simp] theorem Eight.get_all (x : α) (k : Station) : (Eight.all x).get k = x := by
  fin_cases k <;> rfl

theorem Eight.ext_get {v w : Eight α} (h : ∀ k, v.get k = w.get k) : v = w := by
  cases v; cases w; simp only [Eight.mk.injEq]; exact ⟨h 0, h 1, h 2, h 3, h 4, h 5, h 6, h 7⟩

theorem mem_allDesks (d : Desk) : d ∈ allDesks := by fin_cases d <;> decide

theorem mem_allStations (k : Station) : k ∈ allStations := by fin_cases k <;> decide

end Sys2Proof
end

