-- ==== Sys2Proof/Laws/Blocks.lean ====
section
/-! SUPPORT. Which blocks of State each operation leaves as they are: the operations on flags, causes, queues, own desks, bars and the clamp unit. -/

namespace Sys2Proof.Machine

variable (s : State)

@[simp] theorem raiseDesk_frame (d : Desk) (f : DeskFlag) :
    (raiseDesk d f s).power = s.power ∧ (raiseDesk d f s).setup = s.setup ∧ (raiseDesk d f s).bus = s.bus
    ∧ (raiseDesk d f s).sync = s.sync ∧ (raiseDesk d f s).member = s.member ∧ (raiseDesk d f s).claims = s.claims
    ∧ (raiseDesk d f s).pool = s.pool ∧ (raiseDesk d f s).air = s.air ∧ (raiseDesk d f s).ident = s.ident
    ∧ (raiseDesk d f s).clamp = s.clamp ∧ (raiseDesk d f s).guard = s.guard ∧ (raiseDesk d f s).history = s.history
    ∧ (raiseDesk d f s).freeIx = s.freeIx ∧ (raiseDesk d f s).pending = s.pending := by
  first
    | (simp [raiseDesk]; done)
    | (unfold raiseDesk; (repeat' split) <;> simp; done)
    | (unfold raiseDesk; dsimp only; (repeat' split) <;> simp; done)
    | (unfold raiseDesk; dsimp only; (repeat' split) <;> (repeat' split) <;> simp_all)

@[simp] theorem raiseSite_frame (f : SiteFlag) :
    (raiseSite f s).power = s.power ∧ (raiseSite f s).setup = s.setup ∧ (raiseSite f s).bus = s.bus
    ∧ (raiseSite f s).sync = s.sync ∧ (raiseSite f s).member = s.member ∧ (raiseSite f s).claims = s.claims
    ∧ (raiseSite f s).pool = s.pool ∧ (raiseSite f s).air = s.air ∧ (raiseSite f s).ident = s.ident
    ∧ (raiseSite f s).clamp = s.clamp ∧ (raiseSite f s).guard = s.guard ∧ (raiseSite f s).history = s.history
    ∧ (raiseSite f s).freeIx = s.freeIx ∧ (raiseSite f s).pending = s.pending := by
  first
    | (simp [raiseSite]; done)
    | (unfold raiseSite; (repeat' split) <;> simp; done)
    | (unfold raiseSite; dsimp only; (repeat' split) <;> simp; done)
    | (unfold raiseSite; dsimp only; (repeat' split) <;> (repeat' split) <;> simp_all)

@[simp] theorem clearDeskFlags_frame (d : Desk) :
    (clearDeskFlags d s).power = s.power ∧ (clearDeskFlags d s).setup = s.setup ∧ (clearDeskFlags d s).bus = s.bus
    ∧ (clearDeskFlags d s).sync = s.sync ∧ (clearDeskFlags d s).member = s.member
    ∧ (clearDeskFlags d s).claims = s.claims ∧ (clearDeskFlags d s).pool = s.pool ∧ (clearDeskFlags d s).air = s.air
    ∧ (clearDeskFlags d s).ident = s.ident ∧ (clearDeskFlags d s).clamp = s.clamp
    ∧ (clearDeskFlags d s).guard = s.guard ∧ (clearDeskFlags d s).history = s.history
    ∧ (clearDeskFlags d s).freeIx = s.freeIx ∧ (clearDeskFlags d s).pending = s.pending := by
  first
    | (simp [clearDeskFlags]; done)
    | (unfold clearDeskFlags; (repeat' split) <;> simp; done)
    | (unfold clearDeskFlags; dsimp only; (repeat' split) <;> simp; done)
    | (unfold clearDeskFlags; dsimp only; (repeat' split) <;> (repeat' split) <;> simp_all)

@[simp] theorem clearSiteFlags_frame :
    (clearSiteFlags s).power = s.power ∧ (clearSiteFlags s).setup = s.setup ∧ (clearSiteFlags s).bus = s.bus
    ∧ (clearSiteFlags s).sync = s.sync ∧ (clearSiteFlags s).member = s.member ∧ (clearSiteFlags s).claims = s.claims
    ∧ (clearSiteFlags s).pool = s.pool ∧ (clearSiteFlags s).air = s.air ∧ (clearSiteFlags s).ident = s.ident
    ∧ (clearSiteFlags s).clamp = s.clamp ∧ (clearSiteFlags s).guard = s.guard ∧ (clearSiteFlags s).history = s.history
    ∧ (clearSiteFlags s).freeIx = s.freeIx ∧ (clearSiteFlags s).pending = s.pending := by
  first
    | (simp [clearSiteFlags]; done)
    | (unfold clearSiteFlags; (repeat' split) <;> simp; done)
    | (unfold clearSiteFlags; dsimp only; (repeat' split) <;> simp; done)
    | (unfold clearSiteFlags; dsimp only; (repeat' split) <;> (repeat' split) <;> simp_all)

@[simp] theorem putCauses_frame (x : Byte) :
    (putCauses x s).power = s.power ∧ (putCauses x s).setup = s.setup ∧ (putCauses x s).bus = s.bus
    ∧ (putCauses x s).sync = s.sync ∧ (putCauses x s).member = s.member ∧ (putCauses x s).claims = s.claims
    ∧ (putCauses x s).pool = s.pool ∧ (putCauses x s).air = s.air ∧ (putCauses x s).ident = s.ident
    ∧ (putCauses x s).guard = s.guard ∧ (putCauses x s).history = s.history ∧ (putCauses x s).freeIx = s.freeIx
    ∧ (putCauses x s).pending = s.pending := by
  first
    | (simp [putCauses]; done)
    | (unfold putCauses; (repeat' split) <;> simp; done)
    | (unfold putCauses; dsimp only; (repeat' split) <;> simp; done)
    | (unfold putCauses; dsimp only; (repeat' split) <;> (repeat' split) <;> simp_all)

@[simp] theorem setCause_frame (c : Cause) :
    (setCause c s).power = s.power ∧ (setCause c s).setup = s.setup ∧ (setCause c s).bus = s.bus
    ∧ (setCause c s).sync = s.sync ∧ (setCause c s).member = s.member ∧ (setCause c s).claims = s.claims
    ∧ (setCause c s).pool = s.pool ∧ (setCause c s).air = s.air ∧ (setCause c s).ident = s.ident
    ∧ (setCause c s).guard = s.guard ∧ (setCause c s).history = s.history ∧ (setCause c s).freeIx = s.freeIx
    ∧ (setCause c s).pending = s.pending := by
  first
    | (simp [setCause]; done)
    | (unfold setCause; (repeat' split) <;> simp; done)
    | (unfold setCause; dsimp only; (repeat' split) <;> simp; done)
    | (unfold setCause; dsimp only; (repeat' split) <;> (repeat' split) <;> simp_all)

@[simp] theorem clearCause_frame (c : Cause) :
    (clearCause c s).power = s.power ∧ (clearCause c s).setup = s.setup ∧ (clearCause c s).bus = s.bus
    ∧ (clearCause c s).sync = s.sync ∧ (clearCause c s).member = s.member ∧ (clearCause c s).claims = s.claims
    ∧ (clearCause c s).pool = s.pool ∧ (clearCause c s).air = s.air ∧ (clearCause c s).ident = s.ident
    ∧ (clearCause c s).guard = s.guard ∧ (clearCause c s).history = s.history ∧ (clearCause c s).freeIx = s.freeIx
    ∧ (clearCause c s).pending = s.pending := by
  first
    | (simp [clearCause]; done)
    | (unfold clearCause; (repeat' split) <;> simp; done)
    | (unfold clearCause; dsimp only; (repeat' split) <;> simp; done)
    | (unfold clearCause; dsimp only; (repeat' split) <;> (repeat' split) <;> simp_all)

@[simp] theorem setGuardCause_frame (c : Cause) :
    (setGuardCause c s).power = s.power ∧ (setGuardCause c s).setup = s.setup ∧ (setGuardCause c s).bus = s.bus
    ∧ (setGuardCause c s).sync = s.sync ∧ (setGuardCause c s).member = s.member
    ∧ (setGuardCause c s).claims = s.claims ∧ (setGuardCause c s).pool = s.pool ∧ (setGuardCause c s).air = s.air
    ∧ (setGuardCause c s).ident = s.ident ∧ (setGuardCause c s).guard = s.guard
    ∧ (setGuardCause c s).history = s.history ∧ (setGuardCause c s).freeIx = s.freeIx
    ∧ (setGuardCause c s).pending = s.pending := by
  first
    | (simp [setGuardCause]; done)
    | (unfold setGuardCause; (repeat' split) <;> simp; done)
    | (unfold setGuardCause; dsimp only; (repeat' split) <;> simp; done)
    | (unfold setGuardCause; dsimp only; (repeat' split) <;> (repeat' split) <;> simp_all)

@[simp] theorem clearGuardCause_frame (c : Cause) :
    (clearGuardCause c s).power = s.power ∧ (clearGuardCause c s).setup = s.setup ∧ (clearGuardCause c s).bus = s.bus
    ∧ (clearGuardCause c s).sync = s.sync ∧ (clearGuardCause c s).member = s.member
    ∧ (clearGuardCause c s).claims = s.claims ∧ (clearGuardCause c s).pool = s.pool
    ∧ (clearGuardCause c s).air = s.air ∧ (clearGuardCause c s).ident = s.ident
    ∧ (clearGuardCause c s).guard = s.guard ∧ (clearGuardCause c s).history = s.history
    ∧ (clearGuardCause c s).freeIx = s.freeIx ∧ (clearGuardCause c s).pending = s.pending := by
  first
    | (simp [clearGuardCause]; done)
    | (unfold clearGuardCause; (repeat' split) <;> simp; done)
    | (unfold clearGuardCause; dsimp only; (repeat' split) <;> simp; done)
    | (unfold clearGuardCause; dsimp only; (repeat' split) <;> (repeat' split) <;> simp_all)

@[simp] theorem setDesk_frame (d : Desk) (x : OwnDesk) :
    (setDesk s d x).power = s.power ∧ (setDesk s d x).setup = s.setup ∧ (setDesk s d x).bus = s.bus
    ∧ (setDesk s d x).sync = s.sync ∧ (setDesk s d x).member = s.member ∧ (setDesk s d x).pool = s.pool
    ∧ (setDesk s d x).air = s.air ∧ (setDesk s d x).ident = s.ident ∧ (setDesk s d x).clamp = s.clamp
    ∧ (setDesk s d x).guard = s.guard ∧ (setDesk s d x).history = s.history ∧ (setDesk s d x).link = s.link
    ∧ (setDesk s d x).freeIx = s.freeIx ∧ (setDesk s d x).pending = s.pending := by
  first
    | (simp [setDesk]; done)
    | (unfold setDesk; (repeat' split) <;> simp; done)
    | (unfold setDesk; dsimp only; (repeat' split) <;> simp; done)
    | (unfold setDesk; dsimp only; (repeat' split) <;> (repeat' split) <;> simp_all)

@[simp] theorem setQueue_frame (d : Desk) (q : DeskQueue) :
    (setQueue d q s).power = s.power ∧ (setQueue d q s).setup = s.setup ∧ (setQueue d q s).bus = s.bus
    ∧ (setQueue d q s).sync = s.sync ∧ (setQueue d q s).member = s.member ∧ (setQueue d q s).claims = s.claims
    ∧ (setQueue d q s).air = s.air ∧ (setQueue d q s).ident = s.ident ∧ (setQueue d q s).clamp = s.clamp
    ∧ (setQueue d q s).guard = s.guard ∧ (setQueue d q s).history = s.history ∧ (setQueue d q s).link = s.link
    ∧ (setQueue d q s).freeIx = s.freeIx ∧ (setQueue d q s).pending = s.pending := by
  first
    | (simp [setQueue]; done)
    | (unfold setQueue; (repeat' split) <;> simp; done)
    | (unfold setQueue; dsimp only; (repeat' split) <;> simp; done)
    | (unfold setQueue; dsimp only; (repeat' split) <;> (repeat' split) <;> simp_all)

@[simp] theorem releaseCells_frame (d : Desk) (q : DeskQueue) :
    (releaseCells d q s).power = s.power ∧ (releaseCells d q s).setup = s.setup ∧ (releaseCells d q s).bus = s.bus
    ∧ (releaseCells d q s).sync = s.sync ∧ (releaseCells d q s).member = s.member
    ∧ (releaseCells d q s).claims = s.claims ∧ (releaseCells d q s).air = s.air ∧ (releaseCells d q s).ident = s.ident
    ∧ (releaseCells d q s).clamp = s.clamp ∧ (releaseCells d q s).guard = s.guard
    ∧ (releaseCells d q s).history = s.history ∧ (releaseCells d q s).link = s.link
    ∧ (releaseCells d q s).freeIx = s.freeIx ∧ (releaseCells d q s).pending = s.pending := by
  first
    | (simp [releaseCells]; done)
    | (unfold releaseCells; (repeat' split) <;> simp; done)
    | (unfold releaseCells; dsimp only; (repeat' split) <;> simp; done)
    | (unfold releaseCells; dsimp only; (repeat' split) <;> (repeat' split) <;> simp_all)

@[simp] theorem flushDesk_frame (d : Desk) :
    (flushDesk d s).power = s.power ∧ (flushDesk d s).setup = s.setup ∧ (flushDesk d s).bus = s.bus
    ∧ (flushDesk d s).sync = s.sync ∧ (flushDesk d s).member = s.member ∧ (flushDesk d s).claims = s.claims
    ∧ (flushDesk d s).air = s.air ∧ (flushDesk d s).ident = s.ident ∧ (flushDesk d s).clamp = s.clamp
    ∧ (flushDesk d s).guard = s.guard ∧ (flushDesk d s).history = s.history ∧ (flushDesk d s).link = s.link
    ∧ (flushDesk d s).freeIx = s.freeIx ∧ (flushDesk d s).pending = s.pending := by
  first
    | (simp [flushDesk]; done)
    | (unfold flushDesk; (repeat' split) <;> simp; done)
    | (unfold flushDesk; dsimp only; (repeat' split) <;> simp; done)
    | (unfold flushDesk; dsimp only; (repeat' split) <;> (repeat' split) <;> simp_all)

@[simp] theorem resetQueue_frame (d : Desk) :
    (resetQueue d s).power = s.power ∧ (resetQueue d s).setup = s.setup ∧ (resetQueue d s).bus = s.bus
    ∧ (resetQueue d s).sync = s.sync ∧ (resetQueue d s).member = s.member ∧ (resetQueue d s).claims = s.claims
    ∧ (resetQueue d s).air = s.air ∧ (resetQueue d s).ident = s.ident ∧ (resetQueue d s).clamp = s.clamp
    ∧ (resetQueue d s).guard = s.guard ∧ (resetQueue d s).history = s.history ∧ (resetQueue d s).link = s.link
    ∧ (resetQueue d s).freeIx = s.freeIx ∧ (resetQueue d s).pending = s.pending := by
  first
    | (simp [resetQueue]; done)
    | (unfold resetQueue; (repeat' split) <;> simp; done)
    | (unfold resetQueue; dsimp only; (repeat' split) <;> simp; done)
    | (unfold resetQueue; dsimp only; (repeat' split) <;> (repeat' split) <;> simp_all)

@[simp] theorem formPool_frame (n : Nat) :
    (formPool n s).power = s.power ∧ (formPool n s).setup = s.setup ∧ (formPool n s).bus = s.bus
    ∧ (formPool n s).sync = s.sync ∧ (formPool n s).member = s.member ∧ (formPool n s).claims = s.claims
    ∧ (formPool n s).air = s.air ∧ (formPool n s).ident = s.ident ∧ (formPool n s).clamp = s.clamp
    ∧ (formPool n s).guard = s.guard ∧ (formPool n s).history = s.history ∧ (formPool n s).link = s.link
    ∧ (formPool n s).freeIx = s.freeIx ∧ (formPool n s).pending = s.pending := by
  first
    | (simp [formPool]; done)
    | (unfold formPool; (repeat' split) <;> simp; done)
    | (unfold formPool; dsimp only; (repeat' split) <;> simp; done)
    | (unfold formPool; dsimp only; (repeat' split) <;> (repeat' split) <;> simp_all)

@[simp] theorem loadClip_frame (offset : Nat) (cells : List Cell) :
    (loadClip offset cells s).power = s.power ∧ (loadClip offset cells s).setup = s.setup
    ∧ (loadClip offset cells s).bus = s.bus ∧ (loadClip offset cells s).sync = s.sync
    ∧ (loadClip offset cells s).member = s.member ∧ (loadClip offset cells s).claims = s.claims
    ∧ (loadClip offset cells s).air = s.air ∧ (loadClip offset cells s).ident = s.ident
    ∧ (loadClip offset cells s).clamp = s.clamp ∧ (loadClip offset cells s).guard = s.guard
    ∧ (loadClip offset cells s).history = s.history ∧ (loadClip offset cells s).link = s.link
    ∧ (loadClip offset cells s).freeIx = s.freeIx ∧ (loadClip offset cells s).pending = s.pending := by
  first
    | (simp [loadClip]; done)
    | (unfold loadClip; (repeat' split) <;> simp; done)
    | (unfold loadClip; dsimp only; (repeat' split) <;> simp; done)
    | (unfold loadClip; dsimp only; (repeat' split) <;> (repeat' split) <;> simp_all)

@[simp] theorem closePool_frame :
    (closePool s).power = s.power ∧ (closePool s).setup = s.setup ∧ (closePool s).bus = s.bus
    ∧ (closePool s).sync = s.sync ∧ (closePool s).member = s.member ∧ (closePool s).claims = s.claims
    ∧ (closePool s).air = s.air ∧ (closePool s).ident = s.ident ∧ (closePool s).clamp = s.clamp
    ∧ (closePool s).guard = s.guard ∧ (closePool s).history = s.history ∧ (closePool s).link = s.link
    ∧ (closePool s).freeIx = s.freeIx ∧ (closePool s).pending = s.pending := by
  first
    | (simp [closePool]; done)
    | (unfold closePool; (repeat' split) <;> simp; done)
    | (unfold closePool; dsimp only; (repeat' split) <;> simp; done)
    | (unfold closePool; dsimp only; (repeat' split) <;> (repeat' split) <;> simp_all)

@[simp] theorem acceptBlock_frame (d : Desk) (n : Seq) (cells : List Cell) (r : Bool) :
    (acceptBlock d n cells r s).power = s.power ∧ (acceptBlock d n cells r s).setup = s.setup
    ∧ (acceptBlock d n cells r s).bus = s.bus ∧ (acceptBlock d n cells r s).sync = s.sync
    ∧ (acceptBlock d n cells r s).member = s.member ∧ (acceptBlock d n cells r s).claims = s.claims
    ∧ (acceptBlock d n cells r s).air = s.air ∧ (acceptBlock d n cells r s).ident = s.ident
    ∧ (acceptBlock d n cells r s).clamp = s.clamp ∧ (acceptBlock d n cells r s).guard = s.guard
    ∧ (acceptBlock d n cells r s).history = s.history ∧ (acceptBlock d n cells r s).link = s.link
    ∧ (acceptBlock d n cells r s).freeIx = s.freeIx ∧ (acceptBlock d n cells r s).pending = s.pending := by
  first
    | (simp [acceptBlock]; done)
    | (unfold acceptBlock; (repeat' split) <;> simp; done)
    | (unfold acceptBlock; dsimp only; (repeat' split) <;> simp; done)
    | (unfold acceptBlock; dsimp only; (repeat' split) <;> (repeat' split) <;> simp_all)

@[simp] theorem endIdent_frame :
    (endIdent s).power = s.power ∧ (endIdent s).setup = s.setup ∧ (endIdent s).bus = s.bus
    ∧ (endIdent s).sync = s.sync ∧ (endIdent s).member = s.member ∧ (endIdent s).claims = s.claims
    ∧ (endIdent s).pool = s.pool ∧ (endIdent s).air = s.air ∧ (endIdent s).clamp = s.clamp
    ∧ (endIdent s).guard = s.guard ∧ (endIdent s).history = s.history ∧ (endIdent s).link = s.link
    ∧ (endIdent s).freeIx = s.freeIx ∧ (endIdent s).pending = s.pending := by
  first
    | (simp [endIdent]; done)
    | (unfold endIdent; (repeat' split) <;> simp; done)
    | (unfold endIdent; dsimp only; (repeat' split) <;> simp; done)
    | (unfold endIdent; dsimp only; (repeat' split) <;> (repeat' split) <;> simp_all)

@[simp] theorem tellEnded_frame (d : Desk) :
    (tellEnded d s).power = s.power ∧ (tellEnded d s).setup = s.setup ∧ (tellEnded d s).bus = s.bus
    ∧ (tellEnded d s).sync = s.sync ∧ (tellEnded d s).member = s.member ∧ (tellEnded d s).claims = s.claims
    ∧ (tellEnded d s).pool = s.pool ∧ (tellEnded d s).ident = s.ident ∧ (tellEnded d s).clamp = s.clamp
    ∧ (tellEnded d s).guard = s.guard ∧ (tellEnded d s).history = s.history ∧ (tellEnded d s).link = s.link
    ∧ (tellEnded d s).freeIx = s.freeIx ∧ (tellEnded d s).pending = s.pending := by
  first
    | (simp [tellEnded]; done)
    | (unfold tellEnded; (repeat' split) <;> simp; done)
    | (unfold tellEnded; dsimp only; (repeat' split) <;> simp; done)
    | (unfold tellEnded; dsimp only; (repeat' split) <;> (repeat' split) <;> simp_all)

@[simp] theorem airOff_frame :
    (airOff s).power = s.power ∧ (airOff s).setup = s.setup ∧ (airOff s).sync = s.sync ∧ (airOff s).member = s.member
    ∧ (airOff s).claims = s.claims ∧ (airOff s).pool = s.pool ∧ (airOff s).clamp = s.clamp
    ∧ (airOff s).guard = s.guard ∧ (airOff s).history = s.history ∧ (airOff s).link = s.link
    ∧ (airOff s).freeIx = s.freeIx ∧ (airOff s).pending = s.pending := by
  first
    | (simp [airOff]; done)
    | (unfold airOff; (repeat' split) <;> simp; done)
    | (unfold airOff; dsimp only; (repeat' split) <;> simp; done)
    | (unfold airOff; dsimp only; (repeat' split) <;> (repeat' split) <;> simp_all)

@[simp] theorem orderInterval_frame :
    (orderInterval s).power = s.power ∧ (orderInterval s).setup = s.setup ∧ (orderInterval s).bus = s.bus
    ∧ (orderInterval s).sync = s.sync ∧ (orderInterval s).member = s.member ∧ (orderInterval s).claims = s.claims
    ∧ (orderInterval s).pool = s.pool ∧ (orderInterval s).clamp = s.clamp ∧ (orderInterval s).guard = s.guard
    ∧ (orderInterval s).history = s.history ∧ (orderInterval s).link = s.link ∧ (orderInterval s).freeIx = s.freeIx
    ∧ (orderInterval s).pending = s.pending := by
  first
    | (simp [orderInterval]; done)
    | (unfold orderInterval; (repeat' split) <;> simp; done)
    | (unfold orderInterval; dsimp only; (repeat' split) <;> simp; done)
    | (unfold orderInterval; dsimp only; (repeat' split) <;> (repeat' split) <;> simp_all)

@[simp] theorem orderTail_frame :
    (orderTail s).power = s.power ∧ (orderTail s).setup = s.setup ∧ (orderTail s).bus = s.bus
    ∧ (orderTail s).sync = s.sync ∧ (orderTail s).member = s.member ∧ (orderTail s).claims = s.claims
    ∧ (orderTail s).pool = s.pool ∧ (orderTail s).clamp = s.clamp ∧ (orderTail s).guard = s.guard
    ∧ (orderTail s).history = s.history ∧ (orderTail s).link = s.link ∧ (orderTail s).freeIx = s.freeIx
    ∧ (orderTail s).pending = s.pending := by
  first
    | (simp [orderTail]; done)
    | (unfold orderTail; (repeat' split) <;> simp; done)
    | (unfold orderTail; dsimp only; (repeat' split) <;> simp; done)
    | (unfold orderTail; dsimp only; (repeat' split) <;> (repeat' split) <;> simp_all)

@[simp] theorem endHolding_frame (d : Desk) (r : EndReason) :
    (endHolding d r s).power = s.power ∧ (endHolding d r s).setup = s.setup ∧ (endHolding d r s).bus = s.bus
    ∧ (endHolding d r s).sync = s.sync ∧ (endHolding d r s).member = s.member ∧ (endHolding d r s).pool = s.pool
    ∧ (endHolding d r s).ident = s.ident ∧ (endHolding d r s).clamp = s.clamp ∧ (endHolding d r s).guard = s.guard
    ∧ (endHolding d r s).history = s.history ∧ (endHolding d r s).freeIx = s.freeIx
    ∧ (endHolding d r s).pending = s.pending := by
  first
    | (simp [endHolding]; done)
    | (unfold endHolding; (repeat' split) <;> simp; done)
    | (unfold endHolding; dsimp only; (repeat' split) <;> simp; done)
    | (unfold endHolding; dsimp only; (repeat' split) <;> (repeat' split) <;> simp_all)

@[simp] theorem withdraw_frame (d : Desk) (r : EndReason) :
    (withdraw d r s).power = s.power ∧ (withdraw d r s).setup = s.setup ∧ (withdraw d r s).bus = s.bus
    ∧ (withdraw d r s).sync = s.sync ∧ (withdraw d r s).member = s.member ∧ (withdraw d r s).pool = s.pool
    ∧ (withdraw d r s).air = s.air ∧ (withdraw d r s).ident = s.ident ∧ (withdraw d r s).clamp = s.clamp
    ∧ (withdraw d r s).guard = s.guard ∧ (withdraw d r s).history = s.history ∧ (withdraw d r s).freeIx = s.freeIx
    ∧ (withdraw d r s).pending = s.pending := by
  first
    | (simp [withdraw]; done)
    | (unfold withdraw; (repeat' split) <;> simp; done)
    | (unfold withdraw; dsimp only; (repeat' split) <;> simp; done)
    | (unfold withdraw; dsimp only; (repeat' split) <;> (repeat' split) <;> simp_all)

@[simp] theorem endHoldings_frame (r : EndReason) :
    (endHoldings r s).power = s.power ∧ (endHoldings r s).setup = s.setup ∧ (endHoldings r s).bus = s.bus
    ∧ (endHoldings r s).sync = s.sync ∧ (endHoldings r s).member = s.member ∧ (endHoldings r s).pool = s.pool
    ∧ (endHoldings r s).ident = s.ident ∧ (endHoldings r s).clamp = s.clamp ∧ (endHoldings r s).guard = s.guard
    ∧ (endHoldings r s).history = s.history ∧ (endHoldings r s).freeIx = s.freeIx
    ∧ (endHoldings r s).pending = s.pending := by
  simp [endHoldings, allDesks]

@[simp] theorem withdrawAll_frame (r : EndReason) :
    (withdrawAll r s).power = s.power ∧ (withdrawAll r s).setup = s.setup ∧ (withdrawAll r s).bus = s.bus
    ∧ (withdrawAll r s).sync = s.sync ∧ (withdrawAll r s).member = s.member ∧ (withdrawAll r s).pool = s.pool
    ∧ (withdrawAll r s).air = s.air ∧ (withdrawAll r s).ident = s.ident ∧ (withdrawAll r s).clamp = s.clamp
    ∧ (withdrawAll r s).guard = s.guard ∧ (withdrawAll r s).history = s.history ∧ (withdrawAll r s).freeIx = s.freeIx
    ∧ (withdrawAll r s).pending = s.pending := by
  simp [withdrawAll, allDesks]

@[simp] theorem testBar_frame (d : Desk) :
    (testBar d s).power = s.power ∧ (testBar d s).setup = s.setup ∧ (testBar d s).bus = s.bus
    ∧ (testBar d s).sync = s.sync ∧ (testBar d s).member = s.member ∧ (testBar d s).pool = s.pool
    ∧ (testBar d s).air = s.air ∧ (testBar d s).ident = s.ident ∧ (testBar d s).clamp = s.clamp
    ∧ (testBar d s).guard = s.guard ∧ (testBar d s).history = s.history ∧ (testBar d s).freeIx = s.freeIx
    ∧ (testBar d s).pending = s.pending := by
  first
    | (simp [testBar]; done)
    | (unfold testBar; (repeat' split) <;> simp; done)
    | (unfold testBar; dsimp only; (repeat' split) <;> simp; done)
    | (unfold testBar; dsimp only; (repeat' split) <;> (repeat' split) <;> simp_all)

@[simp] theorem barStep_frame (d : Desk) :
    (barStep d s).power = s.power ∧ (barStep d s).setup = s.setup ∧ (barStep d s).bus = s.bus
    ∧ (barStep d s).sync = s.sync ∧ (barStep d s).member = s.member ∧ (barStep d s).pool = s.pool
    ∧ (barStep d s).air = s.air ∧ (barStep d s).ident = s.ident ∧ (barStep d s).clamp = s.clamp
    ∧ (barStep d s).guard = s.guard ∧ (barStep d s).history = s.history ∧ (barStep d s).freeIx = s.freeIx
    ∧ (barStep d s).pending = s.pending := by
  first
    | (simp [barStep]; done)
    | (unfold barStep; (repeat' split) <;> simp; done)
    | (unfold barStep; dsimp only; (repeat' split) <;> simp; done)
    | (unfold barStep; dsimp only; (repeat' split) <;> (repeat' split) <;> simp_all)

@[simp] theorem barWork_frame (before : State) :
    (barWork before s).power = s.power ∧ (barWork before s).setup = s.setup ∧ (barWork before s).bus = s.bus
    ∧ (barWork before s).sync = s.sync ∧ (barWork before s).member = s.member ∧ (barWork before s).pool = s.pool
    ∧ (barWork before s).air = s.air ∧ (barWork before s).ident = s.ident ∧ (barWork before s).clamp = s.clamp
    ∧ (barWork before s).guard = s.guard ∧ (barWork before s).history = s.history
    ∧ (barWork before s).freeIx = s.freeIx ∧ (barWork before s).pending = s.pending := by
  unfold barWork
  simp only [allDesks, List.foldl]
  refine ⟨?_, ?_, ?_, ?_, ?_, ?_, ?_, ?_, ?_, ?_, ?_, ?_, ?_⟩ <;> (repeat' split) <;> simp

@[simp] theorem publishAll_frame :
    (publishAll s).power = s.power ∧ (publishAll s).setup = s.setup ∧ (publishAll s).bus = s.bus
    ∧ (publishAll s).sync = s.sync ∧ (publishAll s).member = s.member ∧ (publishAll s).pool = s.pool
    ∧ (publishAll s).air = s.air ∧ (publishAll s).ident = s.ident ∧ (publishAll s).clamp = s.clamp
    ∧ (publishAll s).guard = s.guard ∧ (publishAll s).history = s.history ∧ (publishAll s).link = s.link
    ∧ (publishAll s).freeIx = s.freeIx ∧ (publishAll s).pending = s.pending := by
  first
    | (simp [publishAll]; done)
    | (unfold publishAll; (repeat' split) <;> simp; done)
    | (unfold publishAll; dsimp only; (repeat' split) <;> simp; done)
    | (unfold publishAll; dsimp only; (repeat' split) <;> (repeat' split) <;> simp_all)

@[simp] theorem expireWaits_frame :
    (expireWaits s).power = s.power ∧ (expireWaits s).setup = s.setup ∧ (expireWaits s).bus = s.bus
    ∧ (expireWaits s).sync = s.sync ∧ (expireWaits s).member = s.member ∧ (expireWaits s).pool = s.pool
    ∧ (expireWaits s).air = s.air ∧ (expireWaits s).ident = s.ident ∧ (expireWaits s).clamp = s.clamp
    ∧ (expireWaits s).guard = s.guard ∧ (expireWaits s).history = s.history ∧ (expireWaits s).freeIx = s.freeIx
    ∧ (expireWaits s).pending = s.pending := by
  unfold expireWaits
  simp only [allDesks, List.foldl]
  refine ⟨?_, ?_, ?_, ?_, ?_, ?_, ?_, ?_, ?_, ?_, ?_, ?_, ?_⟩ <;> (repeat' split) <;> simp

@[simp] theorem applyTimeLimit_frame :
    (applyTimeLimit s).power = s.power ∧ (applyTimeLimit s).setup = s.setup ∧ (applyTimeLimit s).bus = s.bus
    ∧ (applyTimeLimit s).sync = s.sync ∧ (applyTimeLimit s).member = s.member ∧ (applyTimeLimit s).pool = s.pool
    ∧ (applyTimeLimit s).ident = s.ident ∧ (applyTimeLimit s).clamp = s.clamp ∧ (applyTimeLimit s).guard = s.guard
    ∧ (applyTimeLimit s).history = s.history ∧ (applyTimeLimit s).freeIx = s.freeIx
    ∧ (applyTimeLimit s).pending = s.pending := by
  unfold applyTimeLimit
  simp only [allDesks, List.foldl]
  refine ⟨?_, ?_, ?_, ?_, ?_, ?_, ?_, ?_, ?_, ?_, ?_, ?_⟩ <;> (repeat' split) <;> simp

@[simp] theorem putSeen_frame (x : ClampSeen) (n : Nat) :
    (putSeen x n s).power = s.power ∧ (putSeen x n s).setup = s.setup ∧ (putSeen x n s).bus = s.bus
    ∧ (putSeen x n s).sync = s.sync ∧ (putSeen x n s).member = s.member ∧ (putSeen x n s).claims = s.claims
    ∧ (putSeen x n s).pool = s.pool ∧ (putSeen x n s).air = s.air ∧ (putSeen x n s).ident = s.ident
    ∧ (putSeen x n s).guard = s.guard ∧ (putSeen x n s).history = s.history ∧ (putSeen x n s).freeIx = s.freeIx
    ∧ (putSeen x n s).pending = s.pending := by
  first
    | (simp [putSeen]; done)
    | (unfold putSeen; (repeat' split) <;> simp; done)
    | (unfold putSeen; dsimp only; (repeat' split) <;> simp; done)
    | (unfold putSeen; dsimp only; (repeat' split) <;> (repeat' split) <;> simp_all)

@[simp] theorem settleStep_frame :
    (settleStep s).power = s.power ∧ (settleStep s).setup = s.setup ∧ (settleStep s).bus = s.bus
    ∧ (settleStep s).sync = s.sync ∧ (settleStep s).member = s.member ∧ (settleStep s).claims = s.claims
    ∧ (settleStep s).pool = s.pool ∧ (settleStep s).air = s.air ∧ (settleStep s).ident = s.ident
    ∧ (settleStep s).guard = s.guard ∧ (settleStep s).history = s.history ∧ (settleStep s).freeIx = s.freeIx
    ∧ (settleStep s).pending = s.pending := by
  first
    | (simp [settleStep]; done)
    | (unfold settleStep; (repeat' split) <;> simp; done)
    | (unfold settleStep; dsimp only; (repeat' split) <;> simp; done)
    | (unfold settleStep; dsimp only; (repeat' split) <;> (repeat' split) <;> simp_all)

@[simp] theorem clearWatchRuns_frame :
    (clearWatchRuns s).power = s.power ∧ (clearWatchRuns s).setup = s.setup ∧ (clearWatchRuns s).bus = s.bus
    ∧ (clearWatchRuns s).sync = s.sync ∧ (clearWatchRuns s).member = s.member ∧ (clearWatchRuns s).claims = s.claims
    ∧ (clearWatchRuns s).pool = s.pool ∧ (clearWatchRuns s).air = s.air ∧ (clearWatchRuns s).ident = s.ident
    ∧ (clearWatchRuns s).guard = s.guard ∧ (clearWatchRuns s).history = s.history ∧ (clearWatchRuns s).link = s.link
    ∧ (clearWatchRuns s).freeIx = s.freeIx ∧ (clearWatchRuns s).pending = s.pending := by
  first
    | (simp [clearWatchRuns]; done)
    | (unfold clearWatchRuns; (repeat' split) <;> simp; done)
    | (unfold clearWatchRuns; dsimp only; (repeat' split) <;> simp; done)
    | (unfold clearWatchRuns; dsimp only; (repeat' split) <;> (repeat' split) <;> simp_all)

@[simp] theorem unclampReceipt_frame :
    (unclampReceipt s).power = s.power ∧ (unclampReceipt s).setup = s.setup ∧ (unclampReceipt s).bus = s.bus
    ∧ (unclampReceipt s).sync = s.sync ∧ (unclampReceipt s).member = s.member ∧ (unclampReceipt s).claims = s.claims
    ∧ (unclampReceipt s).pool = s.pool ∧ (unclampReceipt s).air = s.air ∧ (unclampReceipt s).ident = s.ident
    ∧ (unclampReceipt s).guard = s.guard ∧ (unclampReceipt s).history = s.history
    ∧ (unclampReceipt s).freeIx = s.freeIx ∧ (unclampReceipt s).pending = s.pending := by
  first
    | (simp [unclampReceipt]; done)
    | (unfold unclampReceipt; (repeat' split) <;> simp; done)
    | (unfold unclampReceipt; dsimp only; (repeat' split) <;> simp; done)
    | (unfold unclampReceipt; dsimp only; (repeat' split) <;> (repeat' split) <;> simp_all)

@[simp] theorem stuckStep_frame :
    (stuckStep s).power = s.power ∧ (stuckStep s).setup = s.setup ∧ (stuckStep s).bus = s.bus
    ∧ (stuckStep s).sync = s.sync ∧ (stuckStep s).member = s.member ∧ (stuckStep s).claims = s.claims
    ∧ (stuckStep s).pool = s.pool ∧ (stuckStep s).air = s.air ∧ (stuckStep s).ident = s.ident
    ∧ (stuckStep s).guard = s.guard ∧ (stuckStep s).history = s.history ∧ (stuckStep s).freeIx = s.freeIx
    ∧ (stuckStep s).pending = s.pending := by
  first
    | (simp [stuckStep]; done)
    | (unfold stuckStep; (repeat' split) <;> simp; done)
    | (unfold stuckStep; dsimp only; (repeat' split) <;> simp; done)
    | (unfold stuckStep; dsimp only; (repeat' split) <;> (repeat' split) <;> simp_all)

@[simp] theorem noRfStep_frame :
    (noRfStep s).power = s.power ∧ (noRfStep s).setup = s.setup ∧ (noRfStep s).bus = s.bus
    ∧ (noRfStep s).sync = s.sync ∧ (noRfStep s).member = s.member ∧ (noRfStep s).claims = s.claims
    ∧ (noRfStep s).pool = s.pool ∧ (noRfStep s).air = s.air ∧ (noRfStep s).ident = s.ident
    ∧ (noRfStep s).guard = s.guard ∧ (noRfStep s).history = s.history ∧ (noRfStep s).freeIx = s.freeIx
    ∧ (noRfStep s).pending = s.pending := by
  first
    | (simp [noRfStep]; done)
    | (unfold noRfStep; (repeat' split) <;> simp; done)
    | (unfold noRfStep; dsimp only; (repeat' split) <;> simp; done)
    | (unfold noRfStep; dsimp only; (repeat' split) <;> (repeat' split) <;> simp_all)

@[simp] theorem reflectStep_frame :
    (reflectStep s).power = s.power ∧ (reflectStep s).setup = s.setup ∧ (reflectStep s).bus = s.bus
    ∧ (reflectStep s).sync = s.sync ∧ (reflectStep s).member = s.member ∧ (reflectStep s).claims = s.claims
    ∧ (reflectStep s).pool = s.pool ∧ (reflectStep s).air = s.air ∧ (reflectStep s).ident = s.ident
    ∧ (reflectStep s).guard = s.guard ∧ (reflectStep s).history = s.history ∧ (reflectStep s).freeIx = s.freeIx
    ∧ (reflectStep s).pending = s.pending := by
  first
    | (simp [reflectStep]; done)
    | (unfold reflectStep; (repeat' split) <;> simp; done)
    | (unfold reflectStep; dsimp only; (repeat' split) <;> simp; done)
    | (unfold reflectStep; dsimp only; (repeat' split) <;> (repeat' split) <;> simp_all)

@[simp] theorem orphanStep_frame :
    (orphanStep s).power = s.power ∧ (orphanStep s).setup = s.setup ∧ (orphanStep s).bus = s.bus
    ∧ (orphanStep s).sync = s.sync ∧ (orphanStep s).member = s.member ∧ (orphanStep s).claims = s.claims
    ∧ (orphanStep s).pool = s.pool ∧ (orphanStep s).air = s.air ∧ (orphanStep s).ident = s.ident
    ∧ (orphanStep s).guard = s.guard ∧ (orphanStep s).history = s.history ∧ (orphanStep s).freeIx = s.freeIx
    ∧ (orphanStep s).pending = s.pending := by
  first
    | (simp [orphanStep]; done)
    | (unfold orphanStep; (repeat' split) <;> simp; done)
    | (unfold orphanStep; dsimp only; (repeat' split) <;> simp; done)
    | (unfold orphanStep; dsimp only; (repeat' split) <;> (repeat' split) <;> simp_all)

@[simp] theorem programStep_frame :
    (programStep s).power = s.power ∧ (programStep s).setup = s.setup ∧ (programStep s).bus = s.bus
    ∧ (programStep s).sync = s.sync ∧ (programStep s).member = s.member ∧ (programStep s).claims = s.claims
    ∧ (programStep s).pool = s.pool ∧ (programStep s).air = s.air ∧ (programStep s).ident = s.ident
    ∧ (programStep s).guard = s.guard ∧ (programStep s).history = s.history ∧ (programStep s).freeIx = s.freeIx
    ∧ (programStep s).pending = s.pending := by
  first
    | (simp [programStep]; done)
    | (unfold programStep; (repeat' split) <;> simp; done)
    | (unfold programStep; dsimp only; (repeat' split) <;> simp; done)
    | (unfold programStep; dsimp only; (repeat' split) <;> (repeat' split) <;> simp_all)

end Sys2Proof.Machine
end

