-- ==== Sys2Proof/Laws/Air.lean ====
section
/-! SUPPORT. Which blocks of State each operation leaves as they are: the air sequencer's decision at a frame start. -/

namespace Sys2Proof.Machine

variable (s : State)

@[simp] theorem decideOff_frame :
    (decideOff s).power = s.power ∧ (decideOff s).setup = s.setup ∧ (decideOff s).sync = s.sync
    ∧ (decideOff s).member = s.member ∧ (decideOff s).claims = s.claims ∧ (decideOff s).pool = s.pool
    ∧ (decideOff s).ident = s.ident ∧ (decideOff s).clamp = s.clamp ∧ (decideOff s).guard = s.guard
    ∧ (decideOff s).history = s.history ∧ (decideOff s).link = s.link ∧ (decideOff s).freeIx = s.freeIx
    ∧ (decideOff s).pending = s.pending := by
  first
    | (simp [decideOff]; done)
    | (unfold decideOff; (repeat' split) <;> simp; done)
    | (unfold decideOff; dsimp only; (repeat' split) <;> simp; done)
    | (unfold decideOff; dsimp only; (repeat' split) <;> (repeat' split) <;> simp_all)

@[simp] theorem decideField_frame (k : BitVec 3) (e : Bool) (c : Cell) (a : Bool) :
    (decideField k e c a s).power = s.power ∧ (decideField k e c a s).setup = s.setup
    ∧ (decideField k e c a s).sync = s.sync ∧ (decideField k e c a s).member = s.member
    ∧ (decideField k e c a s).claims = s.claims ∧ (decideField k e c a s).pool = s.pool
    ∧ (decideField k e c a s).ident = s.ident ∧ (decideField k e c a s).clamp = s.clamp
    ∧ (decideField k e c a s).guard = s.guard ∧ (decideField k e c a s).history = s.history
    ∧ (decideField k e c a s).link = s.link ∧ (decideField k e c a s).freeIx = s.freeIx
    ∧ (decideField k e c a s).pending = s.pending := by
  first
    | (simp [decideField]; done)
    | (unfold decideField; (repeat' split) <;> simp; done)
    | (unfold decideField; dsimp only; (repeat' split) <;> simp; done)
    | (unfold decideField; dsimp only; (repeat' split) <;> (repeat' split) <;> simp_all)

@[simp] theorem decideFill_frame :
    (decideFill s).power = s.power ∧ (decideFill s).setup = s.setup ∧ (decideFill s).sync = s.sync
    ∧ (decideFill s).member = s.member ∧ (decideFill s).claims = s.claims ∧ (decideFill s).pool = s.pool
    ∧ (decideFill s).ident = s.ident ∧ (decideFill s).clamp = s.clamp ∧ (decideFill s).guard = s.guard
    ∧ (decideFill s).history = s.history ∧ (decideFill s).link = s.link ∧ (decideFill s).freeIx = s.freeIx
    ∧ (decideFill s).pending = s.pending := by
  first
    | (simp [decideFill]; done)
    | (unfold decideFill; (repeat' split) <;> simp; done)
    | (unfold decideFill; dsimp only; (repeat' split) <;> simp; done)
    | (unfold decideFill; dsimp only; (repeat' split) <;> (repeat' split) <;> simp_all)

@[simp] theorem decideLead_frame :
    (decideLead s).power = s.power ∧ (decideLead s).setup = s.setup ∧ (decideLead s).sync = s.sync
    ∧ (decideLead s).member = s.member ∧ (decideLead s).claims = s.claims ∧ (decideLead s).pool = s.pool
    ∧ (decideLead s).ident = s.ident ∧ (decideLead s).clamp = s.clamp ∧ (decideLead s).guard = s.guard
    ∧ (decideLead s).history = s.history ∧ (decideLead s).link = s.link ∧ (decideLead s).freeIx = s.freeIx
    ∧ (decideLead s).pending = s.pending := by
  first
    | (simp [decideLead]; done)
    | (unfold decideLead; (repeat' split) <;> simp; done)
    | (unfold decideLead; dsimp only; (repeat' split) <;> simp; done)
    | (unfold decideLead; dsimp only; (repeat' split) <;> (repeat' split) <;> simp_all)

@[simp] theorem starveFrame_frame (d : Desk) :
    (starveFrame d s).power = s.power ∧ (starveFrame d s).setup = s.setup ∧ (starveFrame d s).sync = s.sync
    ∧ (starveFrame d s).member = s.member ∧ (starveFrame d s).pool = s.pool ∧ (starveFrame d s).ident = s.ident
    ∧ (starveFrame d s).clamp = s.clamp ∧ (starveFrame d s).guard = s.guard ∧ (starveFrame d s).history = s.history
    ∧ (starveFrame d s).freeIx = s.freeIx ∧ (starveFrame d s).pending = s.pending := by
  first
    | (simp [starveFrame]; done)
    | (unfold starveFrame; (repeat' split) <;> simp; done)
    | (unfold starveFrame; dsimp only; (repeat' split) <;> simp; done)
    | (unfold starveFrame; dsimp only; (repeat' split) <;> (repeat' split) <;> simp_all)

@[simp] theorem drainFrame_frame (d : Desk) :
    (drainFrame d s).power = s.power ∧ (drainFrame d s).setup = s.setup ∧ (drainFrame d s).sync = s.sync
    ∧ (drainFrame d s).member = s.member ∧ (drainFrame d s).pool = s.pool ∧ (drainFrame d s).ident = s.ident
    ∧ (drainFrame d s).clamp = s.clamp ∧ (drainFrame d s).guard = s.guard ∧ (drainFrame d s).history = s.history
    ∧ (drainFrame d s).freeIx = s.freeIx ∧ (drainFrame d s).pending = s.pending := by
  first
    | (simp [drainFrame]; done)
    | (unfold drainFrame; (repeat' split) <;> simp; done)
    | (unfold drainFrame; dsimp only; (repeat' split) <;> simp; done)
    | (unfold drainFrame; dsimp only; (repeat' split) <;> (repeat' split) <;> simp_all)

@[simp] theorem markVoice_frame (d : Desk) :
    (markVoice d s).power = s.power ∧ (markVoice d s).setup = s.setup ∧ (markVoice d s).bus = s.bus
    ∧ (markVoice d s).sync = s.sync ∧ (markVoice d s).member = s.member ∧ (markVoice d s).claims = s.claims
    ∧ (markVoice d s).pool = s.pool ∧ (markVoice d s).ident = s.ident ∧ (markVoice d s).clamp = s.clamp
    ∧ (markVoice d s).guard = s.guard ∧ (markVoice d s).history = s.history ∧ (markVoice d s).freeIx = s.freeIx
    ∧ (markVoice d s).pending = s.pending := by
  first
    | (simp [markVoice]; done)
    | (unfold markVoice; (repeat' split) <;> simp; done)
    | (unfold markVoice; dsimp only; (repeat' split) <;> simp; done)
    | (unfold markVoice; dsimp only; (repeat' split) <;> (repeat' split) <;> simp_all)

@[simp] theorem voiceFrame_frame (d : Desk) :
    (voiceFrame d s).power = s.power ∧ (voiceFrame d s).setup = s.setup ∧ (voiceFrame d s).sync = s.sync
    ∧ (voiceFrame d s).member = s.member ∧ (voiceFrame d s).ident = s.ident ∧ (voiceFrame d s).clamp = s.clamp
    ∧ (voiceFrame d s).guard = s.guard ∧ (voiceFrame d s).history = s.history ∧ (voiceFrame d s).freeIx = s.freeIx
    ∧ (voiceFrame d s).pending = s.pending := by
  first
    | (simp [voiceFrame]; done)
    | (unfold voiceFrame; (repeat' split) <;> simp; done)
    | (unfold voiceFrame; dsimp only; (repeat' split) <;> simp; done)
    | (unfold voiceFrame; dsimp only; (repeat' split) <;> (repeat' split) <;> simp_all)

@[simp] theorem startFrame_frame (d : Desk) :
    (startFrame d s).power = s.power ∧ (startFrame d s).setup = s.setup ∧ (startFrame d s).sync = s.sync
    ∧ (startFrame d s).member = s.member ∧ (startFrame d s).ident = s.ident ∧ (startFrame d s).clamp = s.clamp
    ∧ (startFrame d s).guard = s.guard ∧ (startFrame d s).history = s.history ∧ (startFrame d s).freeIx = s.freeIx
    ∧ (startFrame d s).pending = s.pending := by
  first
    | (simp [startFrame]; done)
    | (unfold startFrame; (repeat' split) <;> simp; done)
    | (unfold startFrame; dsimp only; (repeat' split) <;> simp; done)
    | (unfold startFrame; dsimp only; (repeat' split) <;> (repeat' split) <;> simp_all)

@[simp] theorem gapFrame_frame (d : Desk) :
    (gapFrame d s).power = s.power ∧ (gapFrame d s).setup = s.setup ∧ (gapFrame d s).sync = s.sync
    ∧ (gapFrame d s).member = s.member ∧ (gapFrame d s).ident = s.ident ∧ (gapFrame d s).clamp = s.clamp
    ∧ (gapFrame d s).guard = s.guard ∧ (gapFrame d s).history = s.history ∧ (gapFrame d s).freeIx = s.freeIx
    ∧ (gapFrame d s).pending = s.pending := by
  first
    | (simp [gapFrame]; done)
    | (unfold gapFrame; (repeat' split) <;> simp; done)
    | (unfold gapFrame; dsimp only; (repeat' split) <;> simp; done)
    | (unfold gapFrame; dsimp only; (repeat' split) <;> (repeat' split) <;> simp_all)

@[simp] theorem onDecide_frame (d : Desk) :
    (onDecide d s).power = s.power ∧ (onDecide d s).setup = s.setup ∧ (onDecide d s).sync = s.sync
    ∧ (onDecide d s).member = s.member ∧ (onDecide d s).ident = s.ident ∧ (onDecide d s).clamp = s.clamp
    ∧ (onDecide d s).guard = s.guard ∧ (onDecide d s).history = s.history ∧ (onDecide d s).freeIx = s.freeIx
    ∧ (onDecide d s).pending = s.pending := by
  first
    | (simp [onDecide]; done)
    | (unfold onDecide; (repeat' split) <;> simp; done)
    | (unfold onDecide; dsimp only; (repeat' split) <;> simp; done)
    | (unfold onDecide; dsimp only; (repeat' split) <;> (repeat' split) <;> simp_all)

@[simp] theorem goState_frame (x : AirState) :
    (goState x s).power = s.power ∧ (goState x s).setup = s.setup ∧ (goState x s).bus = s.bus
    ∧ (goState x s).sync = s.sync ∧ (goState x s).member = s.member ∧ (goState x s).claims = s.claims
    ∧ (goState x s).pool = s.pool ∧ (goState x s).ident = s.ident ∧ (goState x s).clamp = s.clamp
    ∧ (goState x s).guard = s.guard ∧ (goState x s).history = s.history ∧ (goState x s).link = s.link
    ∧ (goState x s).freeIx = s.freeIx ∧ (goState x s).pending = s.pending := by
  first
    | (simp [goState]; done)
    | (unfold goState; (repeat' split) <;> simp; done)
    | (unfold goState; dsimp only; (repeat' split) <;> simp; done)
    | (unfold goState; dsimp only; (repeat' split) <;> (repeat' split) <;> simp_all)

@[simp] theorem primeDecide_frame (d : Desk) :
    (primeDecide d s).power = s.power ∧ (primeDecide d s).setup = s.setup ∧ (primeDecide d s).sync = s.sync
    ∧ (primeDecide d s).member = s.member ∧ (primeDecide d s).ident = s.ident ∧ (primeDecide d s).clamp = s.clamp
    ∧ (primeDecide d s).guard = s.guard ∧ (primeDecide d s).history = s.history ∧ (primeDecide d s).freeIx = s.freeIx
    ∧ (primeDecide d s).pending = s.pending := by
  first
    | (simp [primeDecide]; done)
    | (unfold primeDecide; (repeat' split) <;> simp; done)
    | (unfold primeDecide; dsimp only; (repeat' split) <;> simp; done)
    | (unfold primeDecide; dsimp only; (repeat' split) <;> (repeat' split) <;> simp_all)

@[simp] theorem stopAir_frame :
    (stopAir s).power = s.power ∧ (stopAir s).setup = s.setup ∧ (stopAir s).sync = s.sync
    ∧ (stopAir s).member = s.member ∧ (stopAir s).claims = s.claims ∧ (stopAir s).pool = s.pool
    ∧ (stopAir s).ident = s.ident ∧ (stopAir s).clamp = s.clamp ∧ (stopAir s).guard = s.guard
    ∧ (stopAir s).history = s.history ∧ (stopAir s).link = s.link ∧ (stopAir s).freeIx = s.freeIx
    ∧ (stopAir s).pending = s.pending := by
  first
    | (simp [stopAir]; done)
    | (unfold stopAir; (repeat' split) <;> simp; done)
    | (unfold stopAir; dsimp only; (repeat' split) <;> simp; done)
    | (unfold stopAir; dsimp only; (repeat' split) <;> (repeat' split) <;> simp_all)

@[simp] theorem tailDecide_frame :
    (tailDecide s).power = s.power ∧ (tailDecide s).setup = s.setup ∧ (tailDecide s).sync = s.sync
    ∧ (tailDecide s).member = s.member ∧ (tailDecide s).claims = s.claims ∧ (tailDecide s).pool = s.pool
    ∧ (tailDecide s).ident = s.ident ∧ (tailDecide s).clamp = s.clamp ∧ (tailDecide s).guard = s.guard
    ∧ (tailDecide s).history = s.history ∧ (tailDecide s).link = s.link ∧ (tailDecide s).freeIx = s.freeIx
    ∧ (tailDecide s).pending = s.pending := by
  first
    | (simp [tailDecide]; done)
    | (unfold tailDecide; (repeat' split) <;> simp; done)
    | (unfold tailDecide; dsimp only; (repeat' split) <;> simp; done)
    | (unfold tailDecide; dsimp only; (repeat' split) <;> (repeat' split) <;> simp_all)

@[simp] theorem beginTail_frame :
    (beginTail s).power = s.power ∧ (beginTail s).setup = s.setup ∧ (beginTail s).sync = s.sync
    ∧ (beginTail s).member = s.member ∧ (beginTail s).claims = s.claims ∧ (beginTail s).pool = s.pool
    ∧ (beginTail s).ident = s.ident ∧ (beginTail s).clamp = s.clamp ∧ (beginTail s).guard = s.guard
    ∧ (beginTail s).history = s.history ∧ (beginTail s).link = s.link ∧ (beginTail s).freeIx = s.freeIx
    ∧ (beginTail s).pending = s.pending := by
  first
    | (simp [beginTail]; done)
    | (unfold beginTail; (repeat' split) <;> simp; done)
    | (unfold beginTail; dsimp only; (repeat' split) <;> simp; done)
    | (unfold beginTail; dsimp only; (repeat' split) <;> (repeat' split) <;> simp_all)

@[simp] theorem startTaken_frame (d : Desk) :
    (startTaken d s).power = s.power ∧ (startTaken d s).setup = s.setup ∧ (startTaken d s).sync = s.sync
    ∧ (startTaken d s).member = s.member ∧ (startTaken d s).claims = s.claims ∧ (startTaken d s).pool = s.pool
    ∧ (startTaken d s).clamp = s.clamp ∧ (startTaken d s).guard = s.guard ∧ (startTaken d s).history = s.history
    ∧ (startTaken d s).link = s.link ∧ (startTaken d s).freeIx = s.freeIx ∧ (startTaken d s).pending = s.pending := by
  first
    | (simp [startTaken]; done)
    | (unfold startTaken; (repeat' split) <;> simp; done)
    | (unfold startTaken; dsimp only; (repeat' split) <;> simp; done)
    | (unfold startTaken; dsimp only; (repeat' split) <;> (repeat' split) <;> simp_all)

@[simp] theorem identFrame_frame :
    (identFrame s).power = s.power ∧ (identFrame s).setup = s.setup ∧ (identFrame s).sync = s.sync
    ∧ (identFrame s).member = s.member ∧ (identFrame s).claims = s.claims ∧ (identFrame s).pool = s.pool
    ∧ (identFrame s).clamp = s.clamp ∧ (identFrame s).guard = s.guard ∧ (identFrame s).history = s.history
    ∧ (identFrame s).link = s.link ∧ (identFrame s).freeIx = s.freeIx ∧ (identFrame s).pending = s.pending := by
  first
    | (simp [identFrame]; done)
    | (unfold identFrame; (repeat' split) <;> simp; done)
    | (unfold identFrame; dsimp only; (repeat' split) <;> simp; done)
    | (unfold identFrame; dsimp only; (repeat' split) <;> (repeat' split) <;> simp_all)

@[simp] theorem leaveIdent_frame :
    (leaveIdent s).power = s.power ∧ (leaveIdent s).setup = s.setup ∧ (leaveIdent s).sync = s.sync
    ∧ (leaveIdent s).member = s.member ∧ (leaveIdent s).clamp = s.clamp ∧ (leaveIdent s).guard = s.guard
    ∧ (leaveIdent s).history = s.history ∧ (leaveIdent s).freeIx = s.freeIx ∧ (leaveIdent s).pending = s.pending := by
  first
    | (simp [leaveIdent]; done)
    | (unfold leaveIdent; (repeat' split) <;> simp; done)
    | (unfold leaveIdent; dsimp only; (repeat' split) <;> simp; done)
    | (unfold leaveIdent; dsimp only; (repeat' split) <;> (repeat' split) <;> simp_all)

@[simp] theorem identDecide_frame :
    (identDecide s).power = s.power ∧ (identDecide s).setup = s.setup ∧ (identDecide s).sync = s.sync
    ∧ (identDecide s).member = s.member ∧ (identDecide s).clamp = s.clamp ∧ (identDecide s).guard = s.guard
    ∧ (identDecide s).history = s.history ∧ (identDecide s).freeIx = s.freeIx ∧ (identDecide s).pending = s.pending := by
  first
    | (simp [identDecide]; done)
    | (unfold identDecide; (repeat' split) <;> simp; done)
    | (unfold identDecide; dsimp only; (repeat' split) <;> simp; done)
    | (unfold identDecide; dsimp only; (repeat' split) <;> (repeat' split) <;> simp_all)

@[simp] theorem beginTailIdent_frame :
    (beginTailIdent s).power = s.power ∧ (beginTailIdent s).setup = s.setup ∧ (beginTailIdent s).sync = s.sync
    ∧ (beginTailIdent s).member = s.member ∧ (beginTailIdent s).clamp = s.clamp ∧ (beginTailIdent s).guard = s.guard
    ∧ (beginTailIdent s).history = s.history ∧ (beginTailIdent s).freeIx = s.freeIx
    ∧ (beginTailIdent s).pending = s.pending := by
  first
    | (simp [beginTailIdent]; done)
    | (unfold beginTailIdent; (repeat' split) <;> simp; done)
    | (unfold beginTailIdent; dsimp only; (repeat' split) <;> simp; done)
    | (unfold beginTailIdent; dsimp only; (repeat' split) <;> (repeat' split) <;> simp_all)

@[simp] theorem leadEnds_frame :
    (leadEnds s).power = s.power ∧ (leadEnds s).setup = s.setup ∧ (leadEnds s).sync = s.sync
    ∧ (leadEnds s).member = s.member ∧ (leadEnds s).clamp = s.clamp ∧ (leadEnds s).guard = s.guard
    ∧ (leadEnds s).history = s.history ∧ (leadEnds s).freeIx = s.freeIx ∧ (leadEnds s).pending = s.pending := by
  first
    | (simp [leadEnds]; done)
    | (unfold leadEnds; (repeat' split) <;> simp; done)
    | (unfold leadEnds; dsimp only; (repeat' split) <;> simp; done)
    | (unfold leadEnds; dsimp only; (repeat' split) <;> (repeat' split) <;> simp_all)

@[simp] theorem leadDecide_frame :
    (leadDecide s).power = s.power ∧ (leadDecide s).setup = s.setup ∧ (leadDecide s).sync = s.sync
    ∧ (leadDecide s).member = s.member ∧ (leadDecide s).clamp = s.clamp ∧ (leadDecide s).guard = s.guard
    ∧ (leadDecide s).history = s.history ∧ (leadDecide s).freeIx = s.freeIx ∧ (leadDecide s).pending = s.pending := by
  first
    | (simp [leadDecide]; done)
    | (unfold leadDecide; (repeat' split) <;> simp; done)
    | (unfold leadDecide; dsimp only; (repeat' split) <;> simp; done)
    | (unfold leadDecide; dsimp only; (repeat' split) <;> (repeat' split) <;> simp_all)

@[simp] theorem airDecide_frame :
    (airDecide s).power = s.power ∧ (airDecide s).setup = s.setup ∧ (airDecide s).sync = s.sync
    ∧ (airDecide s).member = s.member ∧ (airDecide s).clamp = s.clamp ∧ (airDecide s).guard = s.guard
    ∧ (airDecide s).history = s.history ∧ (airDecide s).freeIx = s.freeIx ∧ (airDecide s).pending = s.pending := by
  first
    | (simp [airDecide]; done)
    | (unfold airDecide; (repeat' split) <;> simp; done)
    | (unfold airDecide; dsimp only; (repeat' split) <;> simp; done)
    | (unfold airDecide; dsimp only; (repeat' split) <;> (repeat' split) <;> simp_all)

@[simp] theorem dropPendingIdent_frame :
    (dropPendingIdent s).power = s.power ∧ (dropPendingIdent s).setup = s.setup ∧ (dropPendingIdent s).bus = s.bus
    ∧ (dropPendingIdent s).sync = s.sync ∧ (dropPendingIdent s).member = s.member
    ∧ (dropPendingIdent s).claims = s.claims ∧ (dropPendingIdent s).pool = s.pool
    ∧ (dropPendingIdent s).clamp = s.clamp ∧ (dropPendingIdent s).guard = s.guard
    ∧ (dropPendingIdent s).history = s.history ∧ (dropPendingIdent s).link = s.link
    ∧ (dropPendingIdent s).freeIx = s.freeIx ∧ (dropPendingIdent s).pending = s.pending := by
  first
    | (simp [dropPendingIdent]; done)
    | (unfold dropPendingIdent; (repeat' split) <;> simp; done)
    | (unfold dropPendingIdent; dsimp only; (repeat' split) <;> simp; done)
    | (unfold dropPendingIdent; dsimp only; (repeat' split) <;> (repeat' split) <;> simp_all)

@[simp] theorem takeInterval_frame :
    (takeInterval s).power = s.power ∧ (takeInterval s).setup = s.setup ∧ (takeInterval s).sync = s.sync
    ∧ (takeInterval s).member = s.member ∧ (takeInterval s).clamp = s.clamp ∧ (takeInterval s).guard = s.guard
    ∧ (takeInterval s).history = s.history ∧ (takeInterval s).freeIx = s.freeIx ∧ (takeInterval s).pending = s.pending := by
  first
    | (simp [takeInterval]; done)
    | (unfold takeInterval; (repeat' split) <;> simp; done)
    | (unfold takeInterval; dsimp only; (repeat' split) <;> simp; done)
    | (unfold takeInterval; dsimp only; (repeat' split) <;> (repeat' split) <;> simp_all)

@[simp] theorem takeTailIdent_frame :
    (takeTailIdent s).power = s.power ∧ (takeTailIdent s).setup = s.setup ∧ (takeTailIdent s).sync = s.sync
    ∧ (takeTailIdent s).member = s.member ∧ (takeTailIdent s).clamp = s.clamp ∧ (takeTailIdent s).guard = s.guard
    ∧ (takeTailIdent s).history = s.history ∧ (takeTailIdent s).freeIx = s.freeIx
    ∧ (takeTailIdent s).pending = s.pending := by
  first
    | (simp [takeTailIdent]; done)
    | (unfold takeTailIdent; (repeat' split) <;> simp; done)
    | (unfold takeTailIdent; dsimp only; (repeat' split) <;> simp; done)
    | (unfold takeTailIdent; dsimp only; (repeat' split) <;> (repeat' split) <;> simp_all)

@[simp] theorem applyWithdrawal_frame :
    (applyWithdrawal s).power = s.power ∧ (applyWithdrawal s).setup = s.setup ∧ (applyWithdrawal s).bus = s.bus
    ∧ (applyWithdrawal s).sync = s.sync ∧ (applyWithdrawal s).member = s.member
    ∧ (applyWithdrawal s).claims = s.claims ∧ (applyWithdrawal s).pool = s.pool ∧ (applyWithdrawal s).ident = s.ident
    ∧ (applyWithdrawal s).clamp = s.clamp ∧ (applyWithdrawal s).guard = s.guard
    ∧ (applyWithdrawal s).history = s.history ∧ (applyWithdrawal s).link = s.link
    ∧ (applyWithdrawal s).freeIx = s.freeIx ∧ (applyWithdrawal s).pending = s.pending := by
  first
    | (simp [applyWithdrawal]; done)
    | (unfold applyWithdrawal; (repeat' split) <;> simp; done)
    | (unfold applyWithdrawal; dsimp only; (repeat' split) <;> simp; done)
    | (unfold applyWithdrawal; dsimp only; (repeat' split) <;> (repeat' split) <;> simp_all)

@[simp] theorem airFrame_frame :
    (airFrame s).power = s.power ∧ (airFrame s).setup = s.setup ∧ (airFrame s).sync = s.sync
    ∧ (airFrame s).member = s.member ∧ (airFrame s).clamp = s.clamp ∧ (airFrame s).guard = s.guard
    ∧ (airFrame s).history = s.history ∧ (airFrame s).freeIx = s.freeIx ∧ (airFrame s).pending = s.pending := by
  first
    | (simp [airFrame]; done)
    | (unfold airFrame; (repeat' split) <;> simp; done)
    | (unfold airFrame; dsimp only; (repeat' split) <;> simp; done)
    | (unfold airFrame; dsimp only; (repeat' split) <;> (repeat' split) <;> simp_all)

end Sys2Proof.Machine
end

