-- ==== Sys2Proof/Laws/Causes.lean ====
section
/-! SUPPORT. What setting and clearing a clamp cause does: the set of causes becomes a value, with the flags R137 and the guard meter's rules raise where it changes. -/

namespace Sys2Proof

open Machine

theorem or_causeMask_eq (c : Cause) (x : Byte) : x ||| c.mask = x ↔ x &&& c.mask ≠ 0#8 := by
  cases c <;> revert x <;> decide

theorem and_not_causeMask_eq (c : Cause) (x : Byte) : x &&& ~~~ c.mask = x ↔ x &&& c.mask = 0#8 := by
  cases c <;> revert x <;> decide

theorem putCauses_eq (x : Byte) (s : State) : putCauses x s = causesBecome x s := rfl

theorem setCause_eq (c : Cause) (s : State) : setCause c s = causesBecome (s.clamp.causes ||| c.mask) s := rfl

theorem clearCause_eq (c : Cause) (s : State) : clearCause c s = causesBecome (s.clamp.causes &&& ~~~ c.mask) s := rfl

theorem setGuardCause_eq (c : Cause) (s : State) :
    setGuardCause c s = guardCausesBecome (s.clamp.causes ||| c.mask) s := by
  by_cases h : s.clamp.causes &&& c.mask = 0#8
  · have h' : ¬ s.clamp.causes ||| c.mask = s.clamp.causes := by rw [or_causeMask_eq]; simpa using h
    simp only [setGuardCause, causeSet, guardCausesBecome, setCause_eq, causesBecome, h']
    simp [h, raiseSite, State.setLink]
  · have h' : s.clamp.causes ||| c.mask = s.clamp.causes := by rw [or_causeMask_eq]; exact h
    simp [setGuardCause, causeSet, guardCausesBecome, h, h']

theorem clearGuardCause_eq (c : Cause) (s : State) :
    clearGuardCause c s = guardCausesBecome (s.clamp.causes &&& ~~~ c.mask) s := by
  by_cases h : s.clamp.causes &&& c.mask = 0#8
  · have h' : s.clamp.causes &&& ~~~ c.mask = s.clamp.causes := by rw [and_not_causeMask_eq]; exact h
    simp [clearGuardCause, causeSet, guardCausesBecome, h, h']
  · have h' : ¬ s.clamp.causes &&& ~~~ c.mask = s.clamp.causes := by rw [and_not_causeMask_eq]; simpa using h
    simp only [clearGuardCause, causeSet, guardCausesBecome, clearCause_eq, causesBecome, h']
    simp [h, raiseSite, State.setLink]

@[simp] theorem causesBecome_causes (x : Byte) (s : State) : (causesBecome x s).clamp.causes = x := by
  unfold causesBecome; split <;> simp_all

@[simp] theorem guardCausesBecome_causes (x : Byte) (s : State) : (guardCausesBecome x s).clamp.causes = x := by
  unfold guardCausesBecome; split <;> simp_all

/-- Two changes of the guard causes in one action are one change, where the first is undone by nothing of the second. -/
theorem guardCausesBecome_twice (x y : Byte) (s : State) (h : y = s.clamp.causes → x = s.clamp.causes) :
    guardCausesBecome y (guardCausesBecome x s) = guardCausesBecome y s := by
  by_cases hx : x = s.clamp.causes
  · simp [guardCausesBecome, hx]
  · have hy : y ≠ s.clamp.causes := fun e => hx (h e)
    by_cases hxy : y = x
    · subst hxy; simp [guardCausesBecome, hx]
    · simp [guardCausesBecome, hx, hy, hxy]
      ext i
      simp only [BitVec.getElem_or]
      cases s.link.siteFlags[i] <;> cases SiteFlag.clampChange.mask[i] <;> cases SiteFlag.guard.mask[i] <;> rfl

end Sys2Proof
end

