-- ==== Sys2Proof/Laws/Desks.lean ====
section
/-! SUPPORT. What ending a holding, withdrawing a wait and going off the air do to each desk, its flags and the air sequencer. -/

namespace Sys2Proof

open Machine

/-! ### Flags: a raise sets its own flag and keeps every other -/

theorem deskFlag_mask_ne_zero (f : DeskFlag) : f.mask ≠ 0#6 := by cases f <;> decide

theorem siteFlag_mask_ne_zero (f : SiteFlag) : f.mask ≠ 0#11 := by cases f <;> decide

theorem or_and_self_ne_zero {w : Nat} {x m : BitVec w} (h : m ≠ 0#w) : (x ||| m) &&& m ≠ 0#w := by
  have e : (x ||| m) &&& m = m := by
    ext i; simp only [BitVec.getElem_and, BitVec.getElem_or]; cases x[i] <;> cases m[i] <;> rfl
  rw [e]; exact h

theorem or_and_ne_zero {w : Nat} {x y m : BitVec w} (h : x &&& m ≠ 0#w) : (x ||| y) &&& m ≠ 0#w := by
  intro e; apply h
  have e' : x &&& m = ((x ||| y) &&& m) &&& x := by
    ext i; simp only [BitVec.getElem_and, BitVec.getElem_or]; cases x[i] <;> cases m[i] <;> cases y[i] <;> rfl
  rw [e', e]; simp

theorem deskFlagSet_raiseDesk (d : Desk) (f : DeskFlag) (s : State) : deskFlagSet (raiseDesk d f s) d f := by
  simp only [deskFlagSet, raiseDesk, setLink_link, Four.get_set_self]
  exact or_and_self_ne_zero (deskFlag_mask_ne_zero f)

theorem deskFlagSet_raiseDesk_of (d : Desk) (f : DeskFlag) {s : State} {e : Desk} {g : DeskFlag} (h : deskFlagSet s e g) :
    deskFlagSet (raiseDesk d f s) e g := by
  simp only [deskFlagSet, raiseDesk, setLink_link, Four.get_set] at h ⊢
  split
  · rename_i h'; subst h'; exact or_and_ne_zero h
  · exact h

theorem siteFlagSet_raiseSite (f : SiteFlag) (s : State) : siteFlagSet (raiseSite f s) f := by
  simp only [siteFlagSet, raiseSite, setLink_link]
  exact or_and_self_ne_zero (siteFlag_mask_ne_zero f)

theorem siteFlagSet_raiseSite_of (f : SiteFlag) {s : State} {g : SiteFlag} (h : siteFlagSet s g) :
    siteFlagSet (raiseSite f s) g := by
  simp only [siteFlagSet, raiseSite, setLink_link] at h ⊢
  exact or_and_ne_zero h

@[simp] theorem deskFlags_raiseSite (f : SiteFlag) (s : State) : (raiseSite f s).link.deskFlags = s.link.deskFlags := rfl

@[simp] theorem siteFlags_raiseDesk (d : Desk) (f : DeskFlag) (s : State) : (raiseDesk d f s).link.siteFlags = s.link.siteFlags := rfl

/-! ### One desk -/

theorem getDesk_of_claims {s t : State} (h : t.claims = s.claims) (d : Desk) : getDesk t d = getDesk s d := by
  simp [getDesk, h]

theorem getDesk_setDesk (d e : Desk) (x : OwnDesk) (s : State) :
    getDesk (setDesk s d x) e = if e = d then x else getDesk s e := by
  simp [getDesk, setDesk, Four.get_set]

theorem tellEnded_claims (d : Desk) (s : State) : (tellEnded d s).claims = s.claims := by simp

theorem tellEnded_link (d : Desk) (s : State) : (tellEnded d s).link = s.link := by simp

theorem getDesk_endHolding (d e : Desk) (r : EndReason) (s : State) :
    getDesk (endHolding d r s) e = if e = d ∧ hasState s d .holding then (getDesk s d).ended r else getDesk s e := by
  unfold endHolding
  by_cases h : (getDesk s d).record.state = .holding
  · have : getDesk (tellEnded d (raiseDesk d .ended (setDesk s d ((getDesk s d).ended r)))) e
        = getDesk (setDesk s d ((getDesk s d).ended r)) e := getDesk_of_claims (by simp) e
    rw [if_pos h, this, getDesk_setDesk]
    simp [hasState, h]
  · simp [hasState, h]

theorem getDesk_withdraw (d e : Desk) (r : EndReason) (s : State) :
    getDesk (withdraw d r s) e = if e = d ∧ hasState s d .waiting then (getDesk s d).withdrawn r else getDesk s e := by
  unfold withdraw
  by_cases h : (getDesk s d).record.state = .waiting
  · have : getDesk (raiseDesk d .waitEnd (setDesk s d ((getDesk s d).withdrawn r))) e
        = getDesk (setDesk s d ((getDesk s d).withdrawn r)) e := getDesk_of_claims (by simp) e
    rw [if_pos h, this, getDesk_setDesk]
    simp [hasState, h]
  · simp [hasState, h]

theorem endHolding_of_not {d : Desk} {s : State} (h : ¬ hasState s d .holding) (r : EndReason) : endHolding d r s = s := by
  simp only [hasState] at h; simp [endHolding, h]

theorem withdraw_of_not {d : Desk} {s : State} (h : ¬ hasState s d .waiting) (r : EndReason) : withdraw d r s = s := by
  simp only [hasState] at h; simp [withdraw, h]

theorem deskFlagSet_endHolding {d : Desk} {s : State} (r : EndReason) (h : hasState s d .holding) :
    deskFlagSet (endHolding d r s) d .ended := by
  simp only [hasState] at h
  have e : (endHolding d r s).link = (raiseDesk d .ended (setDesk s d ((getDesk s d).ended r))).link := by
    simp [endHolding, h]
  have := deskFlagSet_raiseDesk d .ended (setDesk s d ((getDesk s d).ended r))
  simpa [deskFlagSet, e] using this

theorem deskFlagSet_endHolding_of (d : Desk) (r : EndReason) {s : State} {e : Desk} {g : DeskFlag} (h : deskFlagSet s e g) :
    deskFlagSet (endHolding d r s) e g := by
  unfold endHolding
  split
  · have := deskFlagSet_raiseDesk_of d .ended (s := setDesk s d ((getDesk s d).ended r)) (e := e) (g := g)
      (by simpa [deskFlagSet] using h)
    simpa [deskFlagSet] using this
  · exact h

theorem deskFlagSet_withdraw {d : Desk} {s : State} (r : EndReason) (h : hasState s d .waiting) :
    deskFlagSet (withdraw d r s) d .waitEnd := by
  simp only [hasState] at h
  simp only [withdraw, h, if_true]
  exact deskFlagSet_raiseDesk d .waitEnd _

theorem deskFlagSet_withdraw_of (d : Desk) (r : EndReason) {s : State} {e : Desk} {g : DeskFlag} (h : deskFlagSet s e g) :
    deskFlagSet (withdraw d r s) e g := by
  unfold withdraw
  split
  · exact deskFlagSet_raiseDesk_of d .waitEnd (by simpa [deskFlagSet] using h)
  · exact h

theorem siteFlags_endHolding (d : Desk) (r : EndReason) (s : State) :
    (endHolding d r s).link.siteFlags = s.link.siteFlags := by
  unfold endHolding; split <;> simp

theorem siteFlags_withdraw (d : Desk) (r : EndReason) (s : State) :
    (withdraw d r s).link.siteFlags = s.link.siteFlags := by
  unfold withdraw; split <;> simp

theorem endHolding_air_off {d : Desk} {s : State} (r : EndReason) (h : s.air.state = .off) (hp : s.air.pendingStart = none) :
    (endHolding d r s).air = s.air := by
  unfold endHolding
  split
  · simp [tellEnded, h, hp]
  · rfl

theorem ended_record (o : OwnDesk) (r : EndReason) (h : r ≠ .timeout) (h' : r ≠ .starved) :
    (o.ended r).record = idleRecord o r ∧ (o.ended r).drain = false ∧ (o.ended r).endPub = pubAfter o (idleRecord o r) := by
  have e : stateAfter r = .idle := by cases r <;> simp_all [stateAfter]
  refine ⟨by simp [OwnDesk.ended, idleRecord, e], rfl, ?_⟩
  cases ho : o.endPub <;> simp [OwnDesk.ended, fillEnd, pubAfter, idleRecord, e, ho]

theorem withdrawn_eq (o : OwnDesk) (r : EndReason) :
    o.withdrawn r = { o with record := idleRecord o r, endPub := pubAfter o (idleRecord o r) } := by
  cases ho : o.endPub <;> simp [OwnDesk.withdrawn, fillEnd, pubAfter, idleRecord, ho]

/-! ### All desks of the station -/

/-- A fold over the desks of steps that each change one desk only, by a test and a change of that desk alone. -/
theorem getDesk_fold (f : Desk → State → State) (g : Desk → OwnDesk → OwnDesk)
    (hf : ∀ d e s, getDesk (f d s) e = if e = d then g d (getDesk s d) else getDesk s e) (s : State) (e : Desk) :
    getDesk (allDesks.foldl (fun s d => f d s) s) e = g e (getDesk s e) := by
  simp only [allDesks, List.foldl]
  fin_cases e <;> simp [hf]

theorem getDesk_endHoldings (r : EndReason) (s : State) (e : Desk) :
    getDesk (endHoldings r s) e = if hasState s e .holding then (getDesk s e).ended r else getDesk s e := by
  have := getDesk_fold (fun d s => endHolding d r s) (fun _ o => if o.record.state = .holding then o.ended r else o)
    (fun d e s => by
      simp only [getDesk_endHolding, hasState]
      by_cases h : e = d
      · subst h; simp
      · simp [h]) s e
  simpa [endHoldings, hasState] using this

theorem getDesk_withdrawAll (r : EndReason) (s : State) (e : Desk) :
    getDesk (withdrawAll r s) e = if hasState s e .waiting then (getDesk s e).withdrawn r else getDesk s e := by
  have := getDesk_fold (fun d s => withdraw d r s) (fun _ o => if o.record.state = .waiting then o.withdrawn r else o)
    (fun d e s => by
      simp only [getDesk_withdraw, hasState]
      by_cases h : e = d
      · subst h; simp
      · simp [h]) s e
  simpa [withdrawAll, hasState] using this

theorem fold_preserves {P : State → Prop} (f : Desk → State → State) (hf : ∀ d s, P s → P (f d s)) {s : State} (h : P s) :
    P (allDesks.foldl (fun s d => f d s) s) := by
  simp only [allDesks, List.foldl]
  exact hf _ _ (hf _ _ (hf _ _ (hf _ _ h)))

/-- A fold raises what one of its steps raises where the later steps keep it. -/
theorem fold_reaches {P : State → Prop} {Q : Desk → State → Prop} (f : Desk → State → State) (e : Desk)
    (hq : ∀ d s, d ≠ e → Q e s → Q e (f d s)) (hp : ∀ s, Q e s → P (f e s)) (hk : ∀ d s, P s → P (f d s)) {s : State}
    (h : Q e s) : P (allDesks.foldl (fun s d => f d s) s) := by
  simp only [allDesks, List.foldl]
  fin_cases e
  · exact hk _ _ (hk _ _ (hk _ _ (hp _ h)))
  · exact hk _ _ (hk _ _ (hp _ (hq _ _ (by decide) h)))
  · exact hk _ _ (hp _ (hq _ _ (by decide) (hq _ _ (by decide) h)))
  · exact hp _ (hq _ _ (by decide) (hq _ _ (by decide) (hq _ _ (by decide) h)))

theorem deskFlagSet_endHoldings (r : EndReason) {s : State} {e : Desk} (h : hasState s e .holding) :
    deskFlagSet (endHoldings r s) e .ended := by
  refine fold_reaches (P := fun s => deskFlagSet s e .ended) (Q := fun e s => hasState s e .holding)
    (fun d s => endHolding d r s) e ?_ ?_ ?_ h
  · intro d s hd hs
    simp only [hasState, getDesk_endHolding] at hs ⊢
    rw [if_neg (fun hc => hd hc.1.symm)]; exact hs
  · intro s hs; exact deskFlagSet_endHolding r hs
  · intro d s hs; exact deskFlagSet_endHolding_of d r hs

theorem deskFlagSet_withdrawAll (r : EndReason) {s : State} {e : Desk} (h : hasState s e .waiting) :
    deskFlagSet (withdrawAll r s) e .waitEnd := by
  refine fold_reaches (P := fun s => deskFlagSet s e .waitEnd) (Q := fun e s => hasState s e .waiting)
    (fun d s => withdraw d r s) e ?_ ?_ ?_ h
  · intro d s hd hs
    simp only [hasState, getDesk_withdraw] at hs ⊢
    rw [if_neg (fun hc => hd hc.1.symm)]; exact hs
  · intro s hs; exact deskFlagSet_withdraw r hs
  · intro d s hs; exact deskFlagSet_withdraw_of d r hs

theorem deskFlagSet_endHoldings_of (r : EndReason) {s : State} {e : Desk} {g : DeskFlag} (h : deskFlagSet s e g) :
    deskFlagSet (endHoldings r s) e g :=
  fold_preserves (P := fun s => deskFlagSet s e g) (fun d s => endHolding d r s)
    (fun d _ hs => deskFlagSet_endHolding_of d r hs) h

theorem deskFlagSet_withdrawAll_of (r : EndReason) {s : State} {e : Desk} {g : DeskFlag} (h : deskFlagSet s e g) :
    deskFlagSet (withdrawAll r s) e g :=
  fold_preserves (P := fun s => deskFlagSet s e g) (fun d s => withdraw d r s)
    (fun d _ hs => deskFlagSet_withdraw_of d r hs) h

theorem siteFlags_endHoldings (r : EndReason) (s : State) : (endHoldings r s).link.siteFlags = s.link.siteFlags := by
  simp only [endHoldings, allDesks, List.foldl, siteFlags_endHolding]

theorem siteFlags_withdrawAll (r : EndReason) (s : State) : (withdrawAll r s).link.siteFlags = s.link.siteFlags := by
  simp only [withdrawAll, allDesks, List.foldl, siteFlags_withdraw]

/-! ### Off the air -/

theorem airIsOff_airOff (s : State) : airIsOff (airOff s) := by
  simp [airIsOff, airOff, endIdent]

/-- R120: the lead and tail runs go to 0, and stay where the sequencer was OFF already. -/
theorem airOff_runs (s : State) :
    (airOff s).air.leadRun = (if s.air.state = .off then s.air.leadRun else 0)
    ∧ (airOff s).air.tailRun = (if s.air.state = .off then s.air.tailRun else 0) := by
  simp [airOff, endIdent]

@[simp] theorem airOff_claims (s : State) : (airOff s).claims = s.claims := by simp [airOff, endIdent]

@[simp] theorem airOff_link (s : State) : (airOff s).link = s.link := by simp [airOff, endIdent]

theorem endHoldings_air_off {s : State} (r : EndReason) (h : s.air.state = .off) (hp : s.air.pendingStart = none) :
    (endHoldings r s).air = s.air := by
  have : (endHoldings r s).air = s.air ∧ True := by
    refine fold_preserves (P := fun t => t.air = s.air ∧ True) (fun d t => endHolding d r t) ?_ ⟨rfl, trivial⟩
    intro d t ht
    exact ⟨by rw [endHolding_air_off r (by rw [ht.1]; exact h) (by rw [ht.1]; exact hp), ht.1], trivial⟩
  exact this.1

theorem airIsOff_of_blocks {s t : State} (h : airIsOff s) (ha : t.air = s.air) (hb : t.bus = s.bus) (hi : t.ident = s.ident) :
    airIsOff t := by
  simpa [airIsOff, ha, hb, hi] using h

theorem airIsOff_endHoldings {s : State} (r : EndReason) (h : airIsOff s) : airIsOff (endHoldings r s) :=
  airIsOff_of_blocks h (endHoldings_air_off r h.1 h.2.2.2.1) (by simp) (by simp)

end Sys2Proof
end

