-- ==== Sys2Proof/Laws/PerInstr.lean ====
section
/-! SUPPORT. The per-instruction family `Framing`: a well-formed command has a request frame of at most 334 bytes, the 4 bytes of the header and a body of at most 330 (R166); a command that is no request has the empty frame. -/

namespace Sys2Proof.Laws

open Sys2Proof

/-- The frame of `frame` is its 4 header bytes and its body. -/
theorem length_frame (code sel : Byte) (body : List Byte) : (frame code sel body).length = 4 + body.length := by
  simp only [frame, bytes16, List.length_cons, List.length_append, List.length_nil]; omega

/-- A list of cells takes 16 bytes each. -/
theorem length_flatMap_cellBytes (cs : List Cell) : (cs.flatMap cellBytes).length = 16 * cs.length := by
  induction cs with
  | nil => rfl
  | cons c cs ih =>
    rw [List.flatMap_cons, List.length_append, ih, List.length_cons]
    have h : (cellBytes c).length = 16 := rfl
    omega

/-- R166: the request frame of a well-formed command is at most 334 bytes long. -/
def Framing.Statement (i : Instr) : Prop := i.wellFormed = true → (frameOf i).length ≤ 4 + Config.maxBody

theorem Framing.powerOnReset : Framing.Statement .powerOnReset :=
  fun _ => Nat.le_of_ble_eq_true rfl

theorem Framing.brownOutReset : Framing.Statement .brownOutReset :=
  fun _ => Nat.le_of_ble_eq_true rfl

theorem Framing.pinReset : Framing.Statement .pinReset :=
  fun _ => Nat.le_of_ble_eq_true rfl

theorem Framing.resetEnd (stn : Station) (settle : Fin 4) : Framing.Statement (.resetEnd stn settle) :=
  fun _ => Nat.le_of_ble_eq_true rfl

theorem Framing.settleEnd : Framing.Statement .settleEnd :=
  fun _ => Nat.le_of_ble_eq_true rfl

theorem Framing.emptyTransaction : Framing.Statement .emptyTransaction :=
  fun _ => Nat.le_of_ble_eq_true rfl

theorem Framing.readTransaction (nbytes : Nat) (inBusyWindow : Bool) : Framing.Statement (.readTransaction nbytes inBusyWindow) :=
  fun _ => Nat.le_of_ble_eq_true rfl

theorem Framing.badRequest (bytes : List Byte) (inBusyWindow : Bool) : Framing.Statement (.badRequest bytes inBusyWindow) :=
  fun _ => Nat.le_of_ble_eq_true rfl

theorem Framing.setField (field : Byte) (value : BitVec 32) (inBusyWindow : Bool) : Framing.Statement (.setField field value inBusyWindow) :=
  fun _ => Nat.le_of_ble_eq_true rfl

theorem Framing.closeSetup (inBusyWindow : Bool) : Framing.Statement (.closeSetup inBusyWindow) :=
  fun _ => Nat.le_of_ble_eq_true rfl

theorem Framing.loadClip (offset : Word16) (cells : List Cell) (inBusyWindow : Bool) : Framing.Statement (.loadClip offset cells inBusyWindow) := by
  intro h
  have h20 : cells.length ≤ 20 := of_decide_eq_true h
  have hb : (bytes16 offset).length = 2 := rfl
  simp only [frameOf, length_frame, List.length_append, length_flatMap_cellBytes, hb, Config.maxBody]
  omega

theorem Framing.guardOn (inBusyWindow : Bool) : Framing.Statement (.guardOn inBusyWindow) :=
  fun _ => Nat.le_of_ble_eq_true rfl

theorem Framing.openDesk (sel : Byte) (cls : Byte) (inBusyWindow : Bool) : Framing.Statement (.openDesk sel cls inBusyWindow) :=
  fun _ => Nat.le_of_ble_eq_true rfl

theorem Framing.closeDesk (sel : Byte) (inBusyWindow : Bool) : Framing.Statement (.closeDesk sel inBusyWindow) :=
  fun _ => Nat.le_of_ble_eq_true rfl

theorem Framing.claim (sel : Byte) (inBusyWindow : Bool) : Framing.Statement (.claim sel inBusyWindow) :=
  fun _ => Nat.le_of_ble_eq_true rfl

theorem Framing.release (sel : Byte) (mode : Byte) (inBusyWindow : Bool) : Framing.Statement (.release sel mode inBusyWindow) :=
  fun _ => Nat.le_of_ble_eq_true rfl

theorem Framing.push (sel : Byte) (sequence : Seq) (flags : Byte) (cells : List Cell) (inBusyWindow : Bool) : Framing.Statement (.push sel sequence flags cells inBusyWindow) := by
  intro h
  have h20 : cells.length ≤ 20 := of_decide_eq_true h
  have hb : (bytes16 sequence).length = 2 := rfl
  simp only [frameOf, length_frame, List.length_append, length_flatMap_cellBytes, hb, List.length_cons, List.length_nil, Config.maxBody]
  omega

theorem Framing.flush (sel : Byte) (inBusyWindow : Bool) : Framing.Statement (.flush sel inBusyWindow) :=
  fun _ => Nat.le_of_ble_eq_true rfl

theorem Framing.trim (sel : Byte) (value : Byte) (inBusyWindow : Bool) : Framing.Statement (.trim sel value inBusyWindow) :=
  fun _ => Nat.le_of_ble_eq_true rfl

theorem Framing.deskEvents (sel : Byte) (inBusyWindow : Bool) : Framing.Statement (.deskEvents sel inBusyWindow) :=
  fun _ => Nat.le_of_ble_eq_true rfl

theorem Framing.deskStatus (sel : Byte) (inBusyWindow : Bool) : Framing.Statement (.deskStatus sel inBusyWindow) :=
  fun _ => Nat.le_of_ble_eq_true rfl

theorem Framing.siteEvents (inBusyWindow : Bool) : Framing.Statement (.siteEvents inBusyWindow) :=
  fun _ => Nat.le_of_ble_eq_true rfl

theorem Framing.siteStatus (inBusyWindow : Bool) : Framing.Statement (.siteStatus inBusyWindow) :=
  fun _ => Nat.le_of_ble_eq_true rfl

theorem Framing.floorView (inBusyWindow : Bool) : Framing.Statement (.floorView inBusyWindow) :=
  fun _ => Nat.le_of_ble_eq_true rfl

theorem Framing.history (inBusyWindow : Bool) : Framing.Statement (.history inBusyWindow) :=
  fun _ => Nat.le_of_ble_eq_true rfl

theorem Framing.clamp (sel : Byte) (inBusyWindow : Bool) : Framing.Statement (.clamp sel inBusyWindow) :=
  fun _ => Nat.le_of_ble_eq_true rfl

theorem Framing.unclamp (sel : Byte) (inBusyWindow : Bool) : Framing.Statement (.unclamp sel inBusyWindow) :=
  fun _ => Nat.le_of_ble_eq_true rfl

theorem Framing.guardRead (inBusyWindow : Bool) : Framing.Statement (.guardRead inBusyWindow) :=
  fun _ => Nat.le_of_ble_eq_true rfl

theorem Framing.mask (sel : Byte) (word : Word16) (inBusyWindow : Bool) : Framing.Statement (.mask sel word inBusyWindow) :=
  fun _ => Nat.le_of_ble_eq_true rfl

theorem Framing.frameStart (reportFirst : Bool) : Framing.Statement (.frameStart reportFirst) :=
  fun _ => Nat.le_of_ble_eq_true rfl

theorem Framing.syncFieldsReceived (bits : BitVec 43) : Framing.Statement (.syncFieldsReceived bits) :=
  fun _ => Nat.le_of_ble_eq_true rfl

theorem Framing.slotReceived (k : Station) (bits : BitVec 208) : Framing.Statement (.slotReceived k bits) :=
  fun _ => Nat.le_of_ble_eq_true rfl

theorem Framing.keySample (keyl clampl rfon refl : Bool) : Framing.Statement (.keySample keyl clampl rfon refl) :=
  fun _ => Nat.le_of_ble_eq_true rfl

theorem Framing.snapshotComplete (fence : FenceOrder) (identFirst : Bool) : Framing.Statement (.snapshotComplete fence identFirst) :=
  fun _ => Nat.le_of_ble_eq_true rfl

theorem Framing.programReceived (bits : BitVec 168) : Framing.Statement (.programReceived bits) :=
  fun _ => Nat.le_of_ble_eq_true rfl

theorem Framing.syncPatternFound (pos : BitVec 11) (c : Count) (t : Station) : Framing.Statement (.syncPatternFound pos c t) :=
  fun _ => Nat.le_of_ble_eq_true rfl

theorem Framing.relockCandidateDropped (pos : BitVec 11) : Framing.Statement (.relockCandidateDropped pos) :=
  fun _ => Nat.le_of_ble_eq_true rfl

theorem Framing.relockTestPassed (pos : BitVec 11) (c : Count) (t : Station) : Framing.Statement (.relockTestPassed pos c t) :=
  fun _ => Nat.le_of_ble_eq_true rfl

theorem Framing.huntWaitExpired : Framing.Statement .huntWaitExpired :=
  fun _ => Nat.le_of_ble_eq_true rfl

theorem Framing.holdoverWaitExpired : Framing.Statement .holdoverWaitExpired :=
  fun _ => Nat.le_of_ble_eq_true rfl

theorem Framing.missRunLimit : Framing.Statement .missRunLimit :=
  fun _ => Nat.le_of_ble_eq_true rfl

theorem Framing.timingReadbackLimit : Framing.Statement .timingReadbackLimit :=
  fun _ => Nat.le_of_ble_eq_true rfl

theorem Framing.fence : Framing.Statement .fence :=
  fun _ => Nat.le_of_ble_eq_true rfl

theorem Framing.announceComplete : Framing.Statement .announceComplete :=
  fun _ => Nat.le_of_ble_eq_true rfl

theorem Framing.peerJoined (k : Station) : Framing.Statement (.peerJoined k) :=
  fun _ => Nat.le_of_ble_eq_true rfl

theorem Framing.peerLost (k : Station) (driven : Bool) : Framing.Statement (.peerLost k driven) :=
  fun _ => Nat.le_of_ble_eq_true rfl

theorem Framing.waitExpiry : Framing.Statement .waitExpiry :=
  fun _ => Nat.le_of_ble_eq_true rfl

theorem Framing.timeLimit : Framing.Statement .timeLimit :=
  fun _ => Nat.le_of_ble_eq_true rfl

theorem Framing.totenf : Framing.Statement .totenf :=
  fun _ => Nat.le_of_ble_eq_true rfl

theorem Framing.splitRelease : Framing.Statement .splitRelease :=
  fun _ => Nat.le_of_ble_eq_true rfl

theorem Framing.barLifted (d : Desk) : Framing.Statement (.barLifted d) :=
  fun _ => Nat.le_of_ble_eq_true rfl

theorem Framing.leadEnd : Framing.Statement .leadEnd :=
  fun _ => Nat.le_of_ble_eq_true rfl

theorem Framing.primeToOn : Framing.Statement .primeToOn :=
  fun _ => Nat.le_of_ble_eq_true rfl

theorem Framing.gapDeclared : Framing.Statement .gapDeclared :=
  fun _ => Nat.le_of_ble_eq_true rfl

theorem Framing.releaseAfterDone : Framing.Statement .releaseAfterDone :=
  fun _ => Nat.le_of_ble_eq_true rfl

theorem Framing.drainComplete : Framing.Statement .drainComplete :=
  fun _ => Nat.le_of_ble_eq_true rfl

theorem Framing.starvation : Framing.Statement .starvation :=
  fun _ => Nat.le_of_ble_eq_true rfl

theorem Framing.tailEnd : Framing.Statement .tailEnd :=
  fun _ => Nat.le_of_ble_eq_true rfl

theorem Framing.identEnd : Framing.Statement .identEnd :=
  fun _ => Nat.le_of_ble_eq_true rfl

theorem Framing.idDue (holder : Station) : Framing.Statement (.idDue holder) :=
  fun _ => Nat.le_of_ble_eq_true rfl

theorem Framing.idOverdue : Framing.Statement .idOverdue :=
  fun _ => Nat.le_of_ble_eq_true rfl

theorem Framing.tailWaitComplete : Framing.Statement .tailWaitComplete :=
  fun _ => Nat.le_of_ble_eq_true rfl

theorem Framing.orphan : Framing.Statement .orphan :=
  fun _ => Nat.le_of_ble_eq_true rfl

theorem Framing.stuck : Framing.Statement .stuck :=
  fun _ => Nat.le_of_ble_eq_true rfl

theorem Framing.programRunLimit : Framing.Statement .programRunLimit :=
  fun _ => Nat.le_of_ble_eq_true rfl

theorem Framing.noRf : Framing.Statement .noRf :=
  fun _ => Nat.le_of_ble_eq_true rfl

theorem Framing.reflectSet : Framing.Statement .reflectSet :=
  fun _ => Nat.le_of_ble_eq_true rfl

theorem Framing.reflectClear : Framing.Statement .reflectClear :=
  fun _ => Nat.le_of_ble_eq_true rfl

theorem Framing.settleComplete : Framing.Statement .settleComplete :=
  fun _ => Nat.le_of_ble_eq_true rfl

theorem Framing.guardCycleBegin : Framing.Statement .guardCycleBegin :=
  fun _ => Nat.le_of_ble_eq_true rfl

theorem Framing.chargePhaseEnd (gcmpAbove : Bool) : Framing.Statement (.chargePhaseEnd gcmpAbove) :=
  fun _ => Nat.le_of_ble_eq_true rfl

theorem Framing.dischargeEnd (ticks : Nat) : Framing.Statement (.dischargeEnd ticks) :=
  fun _ => Nat.le_of_ble_eq_true rfl

theorem Framing.dischargeOverflow : Framing.Statement .dischargeOverflow :=
  fun _ => Nat.le_of_ble_eq_true rfl

theorem Framing.heatSet : Framing.Statement .heatSet :=
  fun _ => Nat.le_of_ble_eq_true rfl

end Sys2Proof.Laws
end

