-- ==== Sys2Proof/Laws/Timing.lean ====
section
/-! SUPPORT. Which blocks of State each operation leaves as they are: the sync state machine, the join state, the presence table and the guard meter. -/

namespace Sys2Proof.Machine

variable (s : State)

@[simp] theorem setJoin_frame (j : JoinState) :
    (setJoin j s).power = s.power ∧ (setJoin j s).setup = s.setup ∧ (setJoin j s).bus = s.bus
    ∧ (setJoin j s).sync = s.sync ∧ (setJoin j s).claims = s.claims ∧ (setJoin j s).pool = s.pool
    ∧ (setJoin j s).air = s.air ∧ (setJoin j s).ident = s.ident ∧ (setJoin j s).guard = s.guard
    ∧ (setJoin j s).history = s.history ∧ (setJoin j s).freeIx = s.freeIx ∧ (setJoin j s).pending = s.pending := by
  first
    | (simp [setJoin]; done)
    | (unfold setJoin; (repeat' split) <;> simp; done)
    | (unfold setJoin; dsimp only; (repeat' split) <;> simp; done)
    | (unfold setJoin; dsimp only; (repeat' split) <;> (repeat' split) <;> simp_all)

@[simp] theorem clearAnnounce_frame :
    (clearAnnounce s).power = s.power ∧ (clearAnnounce s).setup = s.setup ∧ (clearAnnounce s).bus = s.bus
    ∧ (clearAnnounce s).sync = s.sync ∧ (clearAnnounce s).claims = s.claims ∧ (clearAnnounce s).pool = s.pool
    ∧ (clearAnnounce s).air = s.air ∧ (clearAnnounce s).ident = s.ident ∧ (clearAnnounce s).clamp = s.clamp
    ∧ (clearAnnounce s).guard = s.guard ∧ (clearAnnounce s).history = s.history ∧ (clearAnnounce s).link = s.link
    ∧ (clearAnnounce s).freeIx = s.freeIx ∧ (clearAnnounce s).pending = s.pending := by
  first
    | (simp [clearAnnounce]; done)
    | (unfold clearAnnounce; (repeat' split) <;> simp; done)
    | (unfold clearAnnounce; dsimp only; (repeat' split) <;> simp; done)
    | (unfold clearAnnounce; dsimp only; (repeat' split) <;> (repeat' split) <;> simp_all)

@[simp] theorem joinAtActive_frame :
    (joinAtActive s).power = s.power ∧ (joinAtActive s).setup = s.setup ∧ (joinAtActive s).bus = s.bus
    ∧ (joinAtActive s).sync = s.sync ∧ (joinAtActive s).claims = s.claims ∧ (joinAtActive s).pool = s.pool
    ∧ (joinAtActive s).air = s.air ∧ (joinAtActive s).ident = s.ident ∧ (joinAtActive s).guard = s.guard
    ∧ (joinAtActive s).history = s.history ∧ (joinAtActive s).freeIx = s.freeIx ∧ (joinAtActive s).pending = s.pending := by
  first
    | (simp [joinAtActive]; done)
    | (unfold joinAtActive; (repeat' split) <;> simp; done)
    | (unfold joinAtActive; dsimp only; (repeat' split) <;> simp; done)
    | (unfold joinAtActive; dsimp only; (repeat' split) <;> (repeat' split) <;> simp_all)

@[simp] theorem joinAtHoldover_frame :
    (joinAtHoldover s).power = s.power ∧ (joinAtHoldover s).setup = s.setup ∧ (joinAtHoldover s).bus = s.bus
    ∧ (joinAtHoldover s).sync = s.sync ∧ (joinAtHoldover s).claims = s.claims ∧ (joinAtHoldover s).pool = s.pool
    ∧ (joinAtHoldover s).air = s.air ∧ (joinAtHoldover s).ident = s.ident ∧ (joinAtHoldover s).guard = s.guard
    ∧ (joinAtHoldover s).history = s.history ∧ (joinAtHoldover s).freeIx = s.freeIx
    ∧ (joinAtHoldover s).pending = s.pending := by
  first
    | (simp [joinAtHoldover]; done)
    | (unfold joinAtHoldover; (repeat' split) <;> simp; done)
    | (unfold joinAtHoldover; dsimp only; (repeat' split) <;> simp; done)
    | (unfold joinAtHoldover; dsimp only; (repeat' split) <;> (repeat' split) <;> simp_all)

@[simp] theorem joinAtHunt_frame :
    (joinAtHunt s).power = s.power ∧ (joinAtHunt s).setup = s.setup ∧ (joinAtHunt s).bus = s.bus
    ∧ (joinAtHunt s).sync = s.sync ∧ (joinAtHunt s).claims = s.claims ∧ (joinAtHunt s).pool = s.pool
    ∧ (joinAtHunt s).air = s.air ∧ (joinAtHunt s).ident = s.ident ∧ (joinAtHunt s).guard = s.guard
    ∧ (joinAtHunt s).history = s.history ∧ (joinAtHunt s).freeIx = s.freeIx ∧ (joinAtHunt s).pending = s.pending := by
  first
    | (simp [joinAtHunt]; done)
    | (unfold joinAtHunt; (repeat' split) <;> simp; done)
    | (unfold joinAtHunt; dsimp only; (repeat' split) <;> simp; done)
    | (unfold joinAtHunt; dsimp only; (repeat' split) <;> (repeat' split) <;> simp_all)

@[simp] theorem loseSync_frame :
    (loseSync s).power = s.power ∧ (loseSync s).setup = s.setup ∧ (loseSync s).sync = s.sync
    ∧ (loseSync s).member = s.member ∧ (loseSync s).pool = s.pool ∧ (loseSync s).clamp = s.clamp
    ∧ (loseSync s).guard = s.guard ∧ (loseSync s).history = s.history ∧ (loseSync s).freeIx = s.freeIx
    ∧ (loseSync s).pending = s.pending := by
  first
    | (simp [loseSync]; done)
    | (unfold loseSync; (repeat' split) <;> simp; done)
    | (unfold loseSync; dsimp only; (repeat' split) <;> simp; done)
    | (unfold loseSync; dsimp only; (repeat' split) <;> (repeat' split) <;> simp_all)

@[simp] theorem enterHunt_frame :
    (enterHunt s).power = s.power ∧ (enterHunt s).setup = s.setup ∧ (enterHunt s).pool = s.pool
    ∧ (enterHunt s).guard = s.guard ∧ (enterHunt s).freeIx = s.freeIx ∧ (enterHunt s).pending = s.pending := by
  first
    | (simp [enterHunt]; done)
    | (unfold enterHunt; (repeat' split) <;> simp; done)
    | (unfold enterHunt; dsimp only; (repeat' split) <;> simp; done)
    | (unfold enterHunt; dsimp only; (repeat' split) <;> (repeat' split) <;> simp_all)

@[simp] theorem enterTiming_frame :
    (enterTiming s).power = s.power ∧ (enterTiming s).setup = s.setup ∧ (enterTiming s).bus = s.bus
    ∧ (enterTiming s).claims = s.claims ∧ (enterTiming s).pool = s.pool ∧ (enterTiming s).air = s.air
    ∧ (enterTiming s).ident = s.ident ∧ (enterTiming s).guard = s.guard ∧ (enterTiming s).history = s.history
    ∧ (enterTiming s).freeIx = s.freeIx ∧ (enterTiming s).pending = s.pending := by
  first
    | (simp [enterTiming]; done)
    | (unfold enterTiming; (repeat' split) <;> simp; done)
    | (unfold enterTiming; dsimp only; (repeat' split) <;> simp; done)
    | (unfold enterTiming; dsimp only; (repeat' split) <;> (repeat' split) <;> simp_all)

@[simp] theorem enterHoldover_frame :
    (enterHoldover s).power = s.power ∧ (enterHoldover s).setup = s.setup ∧ (enterHoldover s).pool = s.pool
    ∧ (enterHoldover s).guard = s.guard ∧ (enterHoldover s).history = s.history ∧ (enterHoldover s).freeIx = s.freeIx
    ∧ (enterHoldover s).pending = s.pending := by
  first
    | (simp [enterHoldover]; done)
    | (unfold enterHoldover; (repeat' split) <;> simp; done)
    | (unfold enterHoldover; dsimp only; (repeat' split) <;> simp; done)
    | (unfold enterHoldover; dsimp only; (repeat' split) <;> (repeat' split) <;> simp_all)

@[simp] theorem enterLocked_frame (c : Count) (t : Station) :
    (enterLocked c t s).power = s.power ∧ (enterLocked c t s).setup = s.setup ∧ (enterLocked c t s).claims = s.claims
    ∧ (enterLocked c t s).pool = s.pool ∧ (enterLocked c t s).air = s.air ∧ (enterLocked c t s).ident = s.ident
    ∧ (enterLocked c t s).guard = s.guard ∧ (enterLocked c t s).history = s.history
    ∧ (enterLocked c t s).freeIx = s.freeIx ∧ (enterLocked c t s).pending = s.pending := by
  first
    | (simp [enterLocked]; done)
    | (unfold enterLocked; (repeat' split) <;> simp; done)
    | (unfold enterLocked; dsimp only; (repeat' split) <;> simp; done)
    | (unfold enterLocked; dsimp only; (repeat' split) <;> (repeat' split) <;> simp_all)

@[simp] theorem relock_frame (c : Count) (t : Station) :
    (relock c t s).power = s.power ∧ (relock c t s).setup = s.setup ∧ (relock c t s).pool = s.pool
    ∧ (relock c t s).air = s.air ∧ (relock c t s).ident = s.ident ∧ (relock c t s).guard = s.guard
    ∧ (relock c t s).history = s.history ∧ (relock c t s).freeIx = s.freeIx ∧ (relock c t s).pending = s.pending := by
  first
    | (simp [relock]; done)
    | (unfold relock; (repeat' split) <;> simp; done)
    | (unfold relock; dsimp only; (repeat' split) <;> simp; done)
    | (unfold relock; dsimp only; (repeat' split) <;> (repeat' split) <;> simp_all)

@[simp] theorem enterFenced_frame :
    (enterFenced s).power = s.power ∧ (enterFenced s).setup = s.setup ∧ (enterFenced s).pool = s.pool
    ∧ (enterFenced s).guard = s.guard ∧ (enterFenced s).freeIx = s.freeIx ∧ (enterFenced s).pending = s.pending := by
  first
    | (simp [enterFenced]; done)
    | (unfold enterFenced; (repeat' split) <;> simp; done)
    | (unfold enterFenced; dsimp only; (repeat' split) <;> simp; done)
    | (unfold enterFenced; dsimp only; (repeat' split) <;> (repeat' split) <;> simp_all)

@[simp] theorem dropCandidate_frame (p : BitVec 11) :
    (dropCandidate p s).power = s.power ∧ (dropCandidate p s).setup = s.setup ∧ (dropCandidate p s).bus = s.bus
    ∧ (dropCandidate p s).member = s.member ∧ (dropCandidate p s).claims = s.claims
    ∧ (dropCandidate p s).pool = s.pool ∧ (dropCandidate p s).air = s.air ∧ (dropCandidate p s).ident = s.ident
    ∧ (dropCandidate p s).clamp = s.clamp ∧ (dropCandidate p s).guard = s.guard
    ∧ (dropCandidate p s).history = s.history ∧ (dropCandidate p s).link = s.link
    ∧ (dropCandidate p s).freeIx = s.freeIx ∧ (dropCandidate p s).pending = s.pending := by
  first
    | (simp [dropCandidate]; done)
    | (unfold dropCandidate; (repeat' split) <;> simp; done)
    | (unfold dropCandidate; dsimp only; (repeat' split) <;> simp; done)
    | (unfold dropCandidate; dsimp only; (repeat' split) <;> (repeat' split) <;> simp_all)

@[simp] theorem holdCandidate_frame (p : BitVec 11) (c : Count) (t : Station) :
    (holdCandidate p c t s).power = s.power ∧ (holdCandidate p c t s).setup = s.setup
    ∧ (holdCandidate p c t s).bus = s.bus ∧ (holdCandidate p c t s).member = s.member
    ∧ (holdCandidate p c t s).claims = s.claims ∧ (holdCandidate p c t s).pool = s.pool
    ∧ (holdCandidate p c t s).air = s.air ∧ (holdCandidate p c t s).ident = s.ident
    ∧ (holdCandidate p c t s).clamp = s.clamp ∧ (holdCandidate p c t s).guard = s.guard
    ∧ (holdCandidate p c t s).history = s.history ∧ (holdCandidate p c t s).link = s.link
    ∧ (holdCandidate p c t s).freeIx = s.freeIx ∧ (holdCandidate p c t s).pending = s.pending := by
  first
    | (simp [holdCandidate]; done)
    | (unfold holdCandidate; (repeat' split) <;> simp; done)
    | (unfold holdCandidate; dsimp only; (repeat' split) <;> simp; done)
    | (unfold holdCandidate; dsimp only; (repeat' split) <;> (repeat' split) <;> simp_all)

@[simp] theorem advanceCount_frame :
    (advanceCount s).power = s.power ∧ (advanceCount s).setup = s.setup ∧ (advanceCount s).bus = s.bus
    ∧ (advanceCount s).member = s.member ∧ (advanceCount s).claims = s.claims ∧ (advanceCount s).pool = s.pool
    ∧ (advanceCount s).air = s.air ∧ (advanceCount s).ident = s.ident ∧ (advanceCount s).clamp = s.clamp
    ∧ (advanceCount s).guard = s.guard ∧ (advanceCount s).history = s.history ∧ (advanceCount s).link = s.link
    ∧ (advanceCount s).freeIx = s.freeIx ∧ (advanceCount s).pending = s.pending := by
  first
    | (simp [advanceCount]; done)
    | (unfold advanceCount; (repeat' split) <;> simp; done)
    | (unfold advanceCount; dsimp only; (repeat' split) <;> simp; done)
    | (unfold advanceCount; dsimp only; (repeat' split) <;> (repeat' split) <;> simp_all)

@[simp] theorem huntStep_frame :
    (huntStep s).power = s.power ∧ (huntStep s).setup = s.setup ∧ (huntStep s).bus = s.bus
    ∧ (huntStep s).claims = s.claims ∧ (huntStep s).pool = s.pool ∧ (huntStep s).air = s.air
    ∧ (huntStep s).ident = s.ident ∧ (huntStep s).guard = s.guard ∧ (huntStep s).history = s.history
    ∧ (huntStep s).freeIx = s.freeIx ∧ (huntStep s).pending = s.pending := by
  first
    | (simp [huntStep]; done)
    | (unfold huntStep; (repeat' split) <;> simp; done)
    | (unfold huntStep; dsimp only; (repeat' split) <;> simp; done)
    | (unfold huntStep; dsimp only; (repeat' split) <;> (repeat' split) <;> simp_all)

@[simp] theorem holdoverStep_frame :
    (holdoverStep s).power = s.power ∧ (holdoverStep s).setup = s.setup ∧ (holdoverStep s).pool = s.pool
    ∧ (holdoverStep s).guard = s.guard ∧ (holdoverStep s).freeIx = s.freeIx ∧ (holdoverStep s).pending = s.pending := by
  first
    | (simp [holdoverStep]; done)
    | (unfold holdoverStep; (repeat' split) <;> simp; done)
    | (unfold holdoverStep; dsimp only; (repeat' split) <;> simp; done)
    | (unfold holdoverStep; dsimp only; (repeat' split) <;> (repeat' split) <;> simp_all)

@[simp] theorem timingStage_frame :
    (timingStage s).power = s.power ∧ (timingStage s).setup = s.setup ∧ (timingStage s).pool = s.pool
    ∧ (timingStage s).guard = s.guard ∧ (timingStage s).freeIx = s.freeIx ∧ (timingStage s).pending = s.pending := by
  first
    | (simp [timingStage]; done)
    | (unfold timingStage; (repeat' split) <;> simp; done)
    | (unfold timingStage; dsimp only; (repeat' split) <;> simp; done)
    | (unfold timingStage; dsimp only; (repeat' split) <;> (repeat' split) <;> simp_all)

@[simp] theorem syncCheck_frame (bits : BitVec 43) :
    (syncCheck bits s).power = s.power ∧ (syncCheck bits s).setup = s.setup ∧ (syncCheck bits s).member = s.member
    ∧ (syncCheck bits s).claims = s.claims ∧ (syncCheck bits s).pool = s.pool ∧ (syncCheck bits s).air = s.air
    ∧ (syncCheck bits s).ident = s.ident ∧ (syncCheck bits s).clamp = s.clamp ∧ (syncCheck bits s).guard = s.guard
    ∧ (syncCheck bits s).history = s.history ∧ (syncCheck bits s).freeIx = s.freeIx
    ∧ (syncCheck bits s).pending = s.pending := by
  first
    | (simp [syncCheck]; done)
    | (unfold syncCheck; (repeat' split) <;> simp; done)
    | (unfold syncCheck; dsimp only; (repeat' split) <;> simp; done)
    | (unfold syncCheck; dsimp only; (repeat' split) <;> (repeat' split) <;> simp_all)

@[simp] theorem readbackMiss_frame :
    (readbackMiss s).power = s.power ∧ (readbackMiss s).setup = s.setup ∧ (readbackMiss s).pool = s.pool
    ∧ (readbackMiss s).guard = s.guard ∧ (readbackMiss s).freeIx = s.freeIx ∧ (readbackMiss s).pending = s.pending := by
  first
    | (simp [readbackMiss]; done)
    | (unfold readbackMiss; (repeat' split) <;> simp; done)
    | (unfold readbackMiss; dsimp only; (repeat' split) <;> simp; done)
    | (unfold readbackMiss; dsimp only; (repeat' split) <;> (repeat' split) <;> simp_all)

@[simp] theorem timingReadback_frame (bits : BitVec 43) :
    (timingReadback bits s).power = s.power ∧ (timingReadback bits s).setup = s.setup
    ∧ (timingReadback bits s).pool = s.pool ∧ (timingReadback bits s).guard = s.guard
    ∧ (timingReadback bits s).freeIx = s.freeIx ∧ (timingReadback bits s).pending = s.pending := by
  first
    | (simp [timingReadback]; done)
    | (unfold timingReadback; (repeat' split) <;> simp; done)
    | (unfold timingReadback; dsimp only; (repeat' split) <;> simp; done)
    | (unfold timingReadback; dsimp only; (repeat' split) <;> (repeat' split) <;> simp_all)

@[simp] theorem countMiss_frame :
    (countMiss s).power = s.power ∧ (countMiss s).setup = s.setup ∧ (countMiss s).pool = s.pool
    ∧ (countMiss s).guard = s.guard ∧ (countMiss s).history = s.history ∧ (countMiss s).freeIx = s.freeIx
    ∧ (countMiss s).pending = s.pending := by
  first
    | (simp [countMiss]; done)
    | (unfold countMiss; (repeat' split) <;> simp; done)
    | (unfold countMiss; dsimp only; (repeat' split) <;> simp; done)
    | (unfold countMiss; dsimp only; (repeat' split) <;> (repeat' split) <;> simp_all)

@[simp] theorem missStep_frame :
    (missStep s).power = s.power ∧ (missStep s).setup = s.setup ∧ (missStep s).pool = s.pool
    ∧ (missStep s).guard = s.guard ∧ (missStep s).history = s.history ∧ (missStep s).freeIx = s.freeIx
    ∧ (missStep s).pending = s.pending := by
  first
    | (simp [missStep]; done)
    | (unfold missStep; (repeat' split) <;> simp; done)
    | (unfold missStep; dsimp only; (repeat' split) <;> simp; done)
    | (unfold missStep; dsimp only; (repeat' split) <;> (repeat' split) <;> simp_all)

@[simp] theorem announceCompare_frame :
    (announceCompare s).power = s.power ∧ (announceCompare s).setup = s.setup ∧ (announceCompare s).bus = s.bus
    ∧ (announceCompare s).sync = s.sync ∧ (announceCompare s).claims = s.claims ∧ (announceCompare s).pool = s.pool
    ∧ (announceCompare s).air = s.air ∧ (announceCompare s).ident = s.ident ∧ (announceCompare s).guard = s.guard
    ∧ (announceCompare s).history = s.history ∧ (announceCompare s).freeIx = s.freeIx
    ∧ (announceCompare s).pending = s.pending := by
  first
    | (simp [announceCompare]; done)
    | (unfold announceCompare; (repeat' split) <;> simp; done)
    | (unfold announceCompare; dsimp only; (repeat' split) <;> simp; done)
    | (unfold announceCompare; dsimp only; (repeat' split) <;> (repeat' split) <;> simp_all)

@[simp] theorem putPresence_frame (k : Station) (x : Presence) :
    (putPresence k x s).power = s.power ∧ (putPresence k x s).setup = s.setup ∧ (putPresence k x s).bus = s.bus
    ∧ (putPresence k x s).sync = s.sync ∧ (putPresence k x s).claims = s.claims ∧ (putPresence k x s).pool = s.pool
    ∧ (putPresence k x s).air = s.air ∧ (putPresence k x s).ident = s.ident ∧ (putPresence k x s).clamp = s.clamp
    ∧ (putPresence k x s).guard = s.guard ∧ (putPresence k x s).history = s.history
    ∧ (putPresence k x s).freeIx = s.freeIx ∧ (putPresence k x s).pending = s.pending := by
  first
    | (simp [putPresence]; done)
    | (unfold putPresence; (repeat' split) <;> simp; done)
    | (unfold putPresence; dsimp only; (repeat' split) <;> simp; done)
    | (unfold putPresence; dsimp only; (repeat' split) <;> (repeat' split) <;> simp_all)

@[simp] theorem peerFresh_frame (k : Station) (j : BitVec 3) :
    (peerFresh k j s).power = s.power ∧ (peerFresh k j s).setup = s.setup ∧ (peerFresh k j s).bus = s.bus
    ∧ (peerFresh k j s).sync = s.sync ∧ (peerFresh k j s).claims = s.claims ∧ (peerFresh k j s).pool = s.pool
    ∧ (peerFresh k j s).air = s.air ∧ (peerFresh k j s).ident = s.ident ∧ (peerFresh k j s).clamp = s.clamp
    ∧ (peerFresh k j s).guard = s.guard ∧ (peerFresh k j s).history = s.history ∧ (peerFresh k j s).freeIx = s.freeIx
    ∧ (peerFresh k j s).pending = s.pending := by
  first
    | (simp [peerFresh]; done)
    | (unfold peerFresh; (repeat' split) <;> simp; done)
    | (unfold peerFresh; dsimp only; (repeat' split) <;> simp; done)
    | (unfold peerFresh; dsimp only; (repeat' split) <;> (repeat' split) <;> simp_all)

@[simp] theorem clearMirrors_frame (k : Station) :
    (clearMirrors k s).power = s.power ∧ (clearMirrors k s).setup = s.setup ∧ (clearMirrors k s).bus = s.bus
    ∧ (clearMirrors k s).sync = s.sync ∧ (clearMirrors k s).member = s.member ∧ (clearMirrors k s).pool = s.pool
    ∧ (clearMirrors k s).air = s.air ∧ (clearMirrors k s).ident = s.ident ∧ (clearMirrors k s).clamp = s.clamp
    ∧ (clearMirrors k s).guard = s.guard ∧ (clearMirrors k s).history = s.history ∧ (clearMirrors k s).link = s.link
    ∧ (clearMirrors k s).freeIx = s.freeIx ∧ (clearMirrors k s).pending = s.pending := by
  first
    | (simp [clearMirrors]; done)
    | (unfold clearMirrors; (repeat' split) <;> simp; done)
    | (unfold clearMirrors; dsimp only; (repeat' split) <;> simp; done)
    | (unfold clearMirrors; dsimp only; (repeat' split) <;> (repeat' split) <;> simp_all)

@[simp] theorem peerStale_frame (k : Station) (b : Bool) :
    (peerStale k b s).power = s.power ∧ (peerStale k b s).setup = s.setup ∧ (peerStale k b s).bus = s.bus
    ∧ (peerStale k b s).sync = s.sync ∧ (peerStale k b s).pool = s.pool ∧ (peerStale k b s).air = s.air
    ∧ (peerStale k b s).ident = s.ident ∧ (peerStale k b s).clamp = s.clamp ∧ (peerStale k b s).guard = s.guard
    ∧ (peerStale k b s).history = s.history ∧ (peerStale k b s).freeIx = s.freeIx
    ∧ (peerStale k b s).pending = s.pending := by
  first
    | (simp [peerStale]; done)
    | (unfold peerStale; (repeat' split) <;> simp; done)
    | (unfold peerStale; dsimp only; (repeat' split) <;> simp; done)
    | (unfold peerStale; dsimp only; (repeat' split) <;> (repeat' split) <;> simp_all)

@[simp] theorem startGuard_frame :
    (startGuard s).power = s.power ∧ (startGuard s).setup = s.setup ∧ (startGuard s).bus = s.bus
    ∧ (startGuard s).sync = s.sync ∧ (startGuard s).member = s.member ∧ (startGuard s).claims = s.claims
    ∧ (startGuard s).pool = s.pool ∧ (startGuard s).air = s.air ∧ (startGuard s).ident = s.ident
    ∧ (startGuard s).clamp = s.clamp ∧ (startGuard s).history = s.history ∧ (startGuard s).freeIx = s.freeIx
    ∧ (startGuard s).pending = s.pending := by
  first
    | (simp [startGuard]; done)
    | (unfold startGuard; (repeat' split) <;> simp; done)
    | (unfold startGuard; dsimp only; (repeat' split) <;> simp; done)
    | (unfold startGuard; dsimp only; (repeat' split) <;> (repeat' split) <;> simp_all)

@[simp] theorem beginCycle_frame :
    (beginCycle s).power = s.power ∧ (beginCycle s).setup = s.setup ∧ (beginCycle s).bus = s.bus
    ∧ (beginCycle s).sync = s.sync ∧ (beginCycle s).member = s.member ∧ (beginCycle s).claims = s.claims
    ∧ (beginCycle s).pool = s.pool ∧ (beginCycle s).air = s.air ∧ (beginCycle s).ident = s.ident
    ∧ (beginCycle s).clamp = s.clamp ∧ (beginCycle s).history = s.history ∧ (beginCycle s).link = s.link
    ∧ (beginCycle s).freeIx = s.freeIx ∧ (beginCycle s).pending = s.pending := by
  first
    | (simp [beginCycle]; done)
    | (unfold beginCycle; (repeat' split) <;> simp; done)
    | (unfold beginCycle; dsimp only; (repeat' split) <;> simp; done)
    | (unfold beginCycle; dsimp only; (repeat' split) <;> (repeat' split) <;> simp_all)

@[simp] theorem guardFrameStart_frame :
    (guardFrameStart s).power = s.power ∧ (guardFrameStart s).setup = s.setup ∧ (guardFrameStart s).bus = s.bus
    ∧ (guardFrameStart s).sync = s.sync ∧ (guardFrameStart s).member = s.member
    ∧ (guardFrameStart s).claims = s.claims ∧ (guardFrameStart s).pool = s.pool ∧ (guardFrameStart s).air = s.air
    ∧ (guardFrameStart s).ident = s.ident ∧ (guardFrameStart s).clamp = s.clamp
    ∧ (guardFrameStart s).history = s.history ∧ (guardFrameStart s).link = s.link
    ∧ (guardFrameStart s).freeIx = s.freeIx ∧ (guardFrameStart s).pending = s.pending := by
  first
    | (simp [guardFrameStart]; done)
    | (unfold guardFrameStart; (repeat' split) <;> simp; done)
    | (unfold guardFrameStart; dsimp only; (repeat' split) <;> simp; done)
    | (unfold guardFrameStart; dsimp only; (repeat' split) <;> (repeat' split) <;> simp_all)

@[simp] theorem heatStep_frame (r : Nat) :
    (heatStep r s).power = s.power ∧ (heatStep r s).setup = s.setup ∧ (heatStep r s).bus = s.bus
    ∧ (heatStep r s).sync = s.sync ∧ (heatStep r s).member = s.member ∧ (heatStep r s).claims = s.claims
    ∧ (heatStep r s).pool = s.pool ∧ (heatStep r s).air = s.air ∧ (heatStep r s).ident = s.ident
    ∧ (heatStep r s).history = s.history ∧ (heatStep r s).freeIx = s.freeIx ∧ (heatStep r s).pending = s.pending := by
  first
    | (simp [heatStep]; done)
    | (unfold heatStep; (repeat' split) <;> simp; done)
    | (unfold heatStep; dsimp only; (repeat' split) <;> simp; done)
    | (unfold heatStep; dsimp only; (repeat' split) <;> (repeat' split) <;> simp_all)

@[simp] theorem ratioStep_frame :
    (ratioStep s).power = s.power ∧ (ratioStep s).setup = s.setup ∧ (ratioStep s).bus = s.bus
    ∧ (ratioStep s).sync = s.sync ∧ (ratioStep s).member = s.member ∧ (ratioStep s).claims = s.claims
    ∧ (ratioStep s).pool = s.pool ∧ (ratioStep s).air = s.air ∧ (ratioStep s).ident = s.ident
    ∧ (ratioStep s).history = s.history ∧ (ratioStep s).freeIx = s.freeIx ∧ (ratioStep s).pending = s.pending := by
  first
    | (simp [ratioStep]; done)
    | (unfold ratioStep; (repeat' split) <;> simp; done)
    | (unfold ratioStep; dsimp only; (repeat' split) <;> simp; done)
    | (unfold ratioStep; dsimp only; (repeat' split) <;> (repeat' split) <;> simp_all)

@[simp] theorem sensorIf_frame (b : Bool) :
    (sensorIf b s).power = s.power ∧ (sensorIf b s).setup = s.setup ∧ (sensorIf b s).bus = s.bus
    ∧ (sensorIf b s).sync = s.sync ∧ (sensorIf b s).member = s.member ∧ (sensorIf b s).claims = s.claims
    ∧ (sensorIf b s).pool = s.pool ∧ (sensorIf b s).air = s.air ∧ (sensorIf b s).ident = s.ident
    ∧ (sensorIf b s).guard = s.guard ∧ (sensorIf b s).history = s.history ∧ (sensorIf b s).freeIx = s.freeIx
    ∧ (sensorIf b s).pending = s.pending := by
  first
    | (simp [sensorIf]; done)
    | (unfold sensorIf; (repeat' split) <;> simp; done)
    | (unfold sensorIf; dsimp only; (repeat' split) <;> simp; done)
    | (unfold sensorIf; dsimp only; (repeat' split) <;> (repeat' split) <;> simp_all)

@[simp] theorem endDischarge_frame (n : Nat) (x y z : Bool) :
    (endDischarge n x y z s).power = s.power ∧ (endDischarge n x y z s).setup = s.setup
    ∧ (endDischarge n x y z s).bus = s.bus ∧ (endDischarge n x y z s).sync = s.sync
    ∧ (endDischarge n x y z s).member = s.member ∧ (endDischarge n x y z s).claims = s.claims
    ∧ (endDischarge n x y z s).pool = s.pool ∧ (endDischarge n x y z s).air = s.air
    ∧ (endDischarge n x y z s).ident = s.ident ∧ (endDischarge n x y z s).history = s.history
    ∧ (endDischarge n x y z s).freeIx = s.freeIx ∧ (endDischarge n x y z s).pending = s.pending := by
  first
    | (simp [endDischarge]; done)
    | (unfold endDischarge; (repeat' split) <;> simp; done)
    | (unfold endDischarge; dsimp only; (repeat' split) <;> simp; done)
    | (unfold endDischarge; dsimp only; (repeat' split) <;> (repeat' split) <;> simp_all)

@[simp] theorem overflowEnding_frame :
    (overflowEnding s).power = s.power ∧ (overflowEnding s).setup = s.setup ∧ (overflowEnding s).bus = s.bus
    ∧ (overflowEnding s).sync = s.sync ∧ (overflowEnding s).member = s.member ∧ (overflowEnding s).claims = s.claims
    ∧ (overflowEnding s).pool = s.pool ∧ (overflowEnding s).air = s.air ∧ (overflowEnding s).ident = s.ident
    ∧ (overflowEnding s).history = s.history ∧ (overflowEnding s).freeIx = s.freeIx
    ∧ (overflowEnding s).pending = s.pending := by
  first
    | (simp [overflowEnding]; done)
    | (unfold overflowEnding; (repeat' split) <;> simp; done)
    | (unfold overflowEnding; dsimp only; (repeat' split) <;> simp; done)
    | (unfold overflowEnding; dsimp only; (repeat' split) <;> (repeat' split) <;> simp_all)

@[simp] theorem edgeEnding_frame (n : Nat) :
    (edgeEnding n s).power = s.power ∧ (edgeEnding n s).setup = s.setup ∧ (edgeEnding n s).bus = s.bus
    ∧ (edgeEnding n s).sync = s.sync ∧ (edgeEnding n s).member = s.member ∧ (edgeEnding n s).claims = s.claims
    ∧ (edgeEnding n s).pool = s.pool ∧ (edgeEnding n s).air = s.air ∧ (edgeEnding n s).ident = s.ident
    ∧ (edgeEnding n s).history = s.history ∧ (edgeEnding n s).freeIx = s.freeIx ∧ (edgeEnding n s).pending = s.pending := by
  first
    | (simp [edgeEnding]; done)
    | (unfold edgeEnding; (repeat' split) <;> simp; done)
    | (unfold edgeEnding; dsimp only; (repeat' split) <;> simp; done)
    | (unfold edgeEnding; dsimp only; (repeat' split) <;> (repeat' split) <;> simp_all)

@[simp] theorem beginDischarge_frame (x : GuardPhase) (b : Bool) :
    (beginDischarge x b s).power = s.power ∧ (beginDischarge x b s).setup = s.setup
    ∧ (beginDischarge x b s).bus = s.bus ∧ (beginDischarge x b s).sync = s.sync
    ∧ (beginDischarge x b s).member = s.member ∧ (beginDischarge x b s).claims = s.claims
    ∧ (beginDischarge x b s).pool = s.pool ∧ (beginDischarge x b s).air = s.air
    ∧ (beginDischarge x b s).ident = s.ident ∧ (beginDischarge x b s).history = s.history
    ∧ (beginDischarge x b s).freeIx = s.freeIx ∧ (beginDischarge x b s).pending = s.pending := by
  first
    | (simp [beginDischarge]; done)
    | (unfold beginDischarge; (repeat' split) <;> simp; done)
    | (unfold beginDischarge; dsimp only; (repeat' split) <;> simp; done)
    | (unfold beginDischarge; dsimp only; (repeat' split) <;> (repeat' split) <;> simp_all)

@[simp] theorem chargeEnds_frame (b : Bool) :
    (chargeEnds b s).power = s.power ∧ (chargeEnds b s).setup = s.setup ∧ (chargeEnds b s).bus = s.bus
    ∧ (chargeEnds b s).sync = s.sync ∧ (chargeEnds b s).member = s.member ∧ (chargeEnds b s).claims = s.claims
    ∧ (chargeEnds b s).pool = s.pool ∧ (chargeEnds b s).air = s.air ∧ (chargeEnds b s).ident = s.ident
    ∧ (chargeEnds b s).history = s.history ∧ (chargeEnds b s).freeIx = s.freeIx ∧ (chargeEnds b s).pending = s.pending := by
  first
    | (simp [chargeEnds]; done)
    | (unfold chargeEnds; (repeat' split) <;> simp; done)
    | (unfold chargeEnds; dsimp only; (repeat' split) <;> simp; done)
    | (unfold chargeEnds; dsimp only; (repeat' split) <;> (repeat' split) <;> simp_all)

@[simp] theorem dischargeEnds_frame (n : Nat) :
    (dischargeEnds n s).power = s.power ∧ (dischargeEnds n s).setup = s.setup ∧ (dischargeEnds n s).bus = s.bus
    ∧ (dischargeEnds n s).sync = s.sync ∧ (dischargeEnds n s).member = s.member
    ∧ (dischargeEnds n s).claims = s.claims ∧ (dischargeEnds n s).pool = s.pool ∧ (dischargeEnds n s).air = s.air
    ∧ (dischargeEnds n s).ident = s.ident ∧ (dischargeEnds n s).history = s.history
    ∧ (dischargeEnds n s).freeIx = s.freeIx ∧ (dischargeEnds n s).pending = s.pending := by
  first
    | (simp [dischargeEnds]; done)
    | (unfold dischargeEnds; (repeat' split) <;> simp; done)
    | (unfold dischargeEnds; dsimp only; (repeat' split) <;> simp; done)
    | (unfold dischargeEnds; dsimp only; (repeat' split) <;> (repeat' split) <;> simp_all)

@[simp] theorem dischargeOverflows_frame :
    (dischargeOverflows s).power = s.power ∧ (dischargeOverflows s).setup = s.setup
    ∧ (dischargeOverflows s).bus = s.bus ∧ (dischargeOverflows s).sync = s.sync
    ∧ (dischargeOverflows s).member = s.member ∧ (dischargeOverflows s).claims = s.claims
    ∧ (dischargeOverflows s).pool = s.pool ∧ (dischargeOverflows s).air = s.air
    ∧ (dischargeOverflows s).ident = s.ident ∧ (dischargeOverflows s).history = s.history
    ∧ (dischargeOverflows s).freeIx = s.freeIx ∧ (dischargeOverflows s).pending = s.pending := by
  first
    | (simp [dischargeOverflows]; done)
    | (unfold dischargeOverflows; (repeat' split) <;> simp; done)
    | (unfold dischargeOverflows; dsimp only; (repeat' split) <;> simp; done)
    | (unfold dischargeOverflows; dsimp only; (repeat' split) <;> (repeat' split) <;> simp_all)

end Sys2Proof.Machine
end

