-- ==== Sys2Proof/Laws/Points.lean ====
section
/-! SUPPORT. Which blocks of State each operation leaves as they are: the claim table at a snapshot complete, the identification unit and the frame points. -/

namespace Sys2Proof.Machine

variable (s : State)

@[simp] theorem digestTest_frame :
    (digestTest s).power = s.power ∧ (digestTest s).setup = s.setup ∧ (digestTest s).bus = s.bus
    ∧ (digestTest s).sync = s.sync ∧ (digestTest s).member = s.member ∧ (digestTest s).pool = s.pool
    ∧ (digestTest s).air = s.air ∧ (digestTest s).ident = s.ident ∧ (digestTest s).clamp = s.clamp
    ∧ (digestTest s).guard = s.guard ∧ (digestTest s).history = s.history ∧ (digestTest s).freeIx = s.freeIx
    ∧ (digestTest s).pending = s.pending := by
  first
    | (simp [digestTest]; done)
    | (unfold digestTest; (repeat' split) <;> simp; done)
    | (unfold digestTest; dsimp only; (repeat' split) <;> simp; done)
    | (unfold digestTest; dsimp only; (repeat' split) <;> (repeat' split) <;> simp_all)

@[simp] theorem endReplaced_frame (f g : Records) :
    (endReplaced f g s).power = s.power ∧ (endReplaced f g s).setup = s.setup ∧ (endReplaced f g s).bus = s.bus
    ∧ (endReplaced f g s).sync = s.sync ∧ (endReplaced f g s).member = s.member ∧ (endReplaced f g s).pool = s.pool
    ∧ (endReplaced f g s).ident = s.ident ∧ (endReplaced f g s).clamp = s.clamp ∧ (endReplaced f g s).guard = s.guard
    ∧ (endReplaced f g s).history = s.history ∧ (endReplaced f g s).freeIx = s.freeIx
    ∧ (endReplaced f g s).pending = s.pending := by
  unfold endReplaced
  simp only [allDesks, List.foldl]
  refine ⟨?_, ?_, ?_, ?_, ?_, ?_, ?_, ?_, ?_, ?_, ?_, ?_⟩ <;> (repeat' split) <;> simp

@[simp] theorem formSnapshot_frame (f g : Records) :
    (formSnapshot f g s).power = s.power ∧ (formSnapshot f g s).setup = s.setup ∧ (formSnapshot f g s).bus = s.bus
    ∧ (formSnapshot f g s).sync = s.sync ∧ (formSnapshot f g s).member = s.member ∧ (formSnapshot f g s).pool = s.pool
    ∧ (formSnapshot f g s).ident = s.ident ∧ (formSnapshot f g s).clamp = s.clamp
    ∧ (formSnapshot f g s).guard = s.guard ∧ (formSnapshot f g s).history = s.history
    ∧ (formSnapshot f g s).freeIx = s.freeIx ∧ (formSnapshot f g s).pending = s.pending := by
  first
    | (simp [formSnapshot]; done)
    | (unfold formSnapshot; (repeat' split) <;> simp; done)
    | (unfold formSnapshot; dsimp only; (repeat' split) <;> simp; done)
    | (unfold formSnapshot; dsimp only; (repeat' split) <;> (repeat' split) <;> simp_all)

@[simp] theorem recordHistory_frame (e : HistoryEntry) :
    (recordHistory e s).power = s.power ∧ (recordHistory e s).setup = s.setup ∧ (recordHistory e s).bus = s.bus
    ∧ (recordHistory e s).sync = s.sync ∧ (recordHistory e s).member = s.member
    ∧ (recordHistory e s).claims = s.claims ∧ (recordHistory e s).pool = s.pool ∧ (recordHistory e s).air = s.air
    ∧ (recordHistory e s).ident = s.ident ∧ (recordHistory e s).clamp = s.clamp ∧ (recordHistory e s).guard = s.guard
    ∧ (recordHistory e s).link = s.link ∧ (recordHistory e s).freeIx = s.freeIx
    ∧ (recordHistory e s).pending = s.pending := by
  first
    | (simp [recordHistory]; done)
    | (unfold recordHistory; (repeat' split) <;> simp; done)
    | (unfold recordHistory; dsimp only; (repeat' split) <;> simp; done)
    | (unfold recordHistory; dsimp only; (repeat' split) <;> (repeat' split) <;> simp_all)

@[simp] theorem handOff_frame (f g : Records) :
    (handOff f g s).power = s.power ∧ (handOff f g s).setup = s.setup ∧ (handOff f g s).bus = s.bus
    ∧ (handOff f g s).sync = s.sync ∧ (handOff f g s).member = s.member ∧ (handOff f g s).claims = s.claims
    ∧ (handOff f g s).pool = s.pool ∧ (handOff f g s).air = s.air ∧ (handOff f g s).ident = s.ident
    ∧ (handOff f g s).clamp = s.clamp ∧ (handOff f g s).guard = s.guard ∧ (handOff f g s).link = s.link
    ∧ (handOff f g s).freeIx = s.freeIx ∧ (handOff f g s).pending = s.pending := by
  unfold handOff
  generalize endedSeats s.claims.prev.recs g = xs
  have h : ∀ (t : State), (∀ x : History, t.setHistory x = s.setHistory x) →
      ∀ x : History, (xs.foldl (fun t x => recordHistory (historyEntry s f g x) t) t).setHistory x = s.setHistory x := by
    induction xs with
    | nil => exact fun t h => h
    | cons a l ih => exact fun t h => ih _ (fun x => by rw [← h x]; rfl)
  have h' := h s (fun _ => rfl) s.history
  generalize List.foldl _ s xs = u at h'
  have := congrArg State.setHistory h'
  cases u
  cases s
  simp_all [State.setHistory]

@[simp] theorem computeDigest_frame :
    (computeDigest s).power = s.power ∧ (computeDigest s).setup = s.setup ∧ (computeDigest s).bus = s.bus
    ∧ (computeDigest s).sync = s.sync ∧ (computeDigest s).member = s.member ∧ (computeDigest s).pool = s.pool
    ∧ (computeDigest s).air = s.air ∧ (computeDigest s).ident = s.ident ∧ (computeDigest s).clamp = s.clamp
    ∧ (computeDigest s).guard = s.guard ∧ (computeDigest s).history = s.history ∧ (computeDigest s).link = s.link
    ∧ (computeDigest s).freeIx = s.freeIx ∧ (computeDigest s).pending = s.pending := by
  first
    | (simp [computeDigest]; done)
    | (unfold computeDigest; (repeat' split) <;> simp; done)
    | (unfold computeDigest; dsimp only; (repeat' split) <;> simp; done)
    | (unfold computeDigest; dsimp only; (repeat' split) <;> (repeat' split) <;> simp_all)

@[simp] theorem setVerdict_frame :
    (setVerdict s).power = s.power ∧ (setVerdict s).setup = s.setup ∧ (setVerdict s).bus = s.bus
    ∧ (setVerdict s).sync = s.sync ∧ (setVerdict s).member = s.member ∧ (setVerdict s).pool = s.pool
    ∧ (setVerdict s).air = s.air ∧ (setVerdict s).ident = s.ident ∧ (setVerdict s).clamp = s.clamp
    ∧ (setVerdict s).guard = s.guard ∧ (setVerdict s).history = s.history ∧ (setVerdict s).link = s.link
    ∧ (setVerdict s).freeIx = s.freeIx ∧ (setVerdict s).pending = s.pending := by
  first
    | (simp [setVerdict]; done)
    | (unfold setVerdict; (repeat' split) <;> simp; done)
    | (unfold setVerdict; dsimp only; (repeat' split) <;> simp; done)
    | (unfold setVerdict; dsimp only; (repeat' split) <;> (repeat' split) <;> simp_all)

@[simp] theorem enforceTot_frame (b : Bool) :
    (enforceTot b s).power = s.power ∧ (enforceTot b s).setup = s.setup ∧ (enforceTot b s).bus = s.bus
    ∧ (enforceTot b s).sync = s.sync ∧ (enforceTot b s).member = s.member ∧ (enforceTot b s).claims = s.claims
    ∧ (enforceTot b s).pool = s.pool ∧ (enforceTot b s).air = s.air ∧ (enforceTot b s).ident = s.ident
    ∧ (enforceTot b s).guard = s.guard ∧ (enforceTot b s).history = s.history ∧ (enforceTot b s).freeIx = s.freeIx
    ∧ (enforceTot b s).pending = s.pending := by
  first
    | (simp [enforceTot]; done)
    | (unfold enforceTot; (repeat' split) <;> simp; done)
    | (unfold enforceTot; dsimp only; (repeat' split) <;> simp; done)
    | (unfold enforceTot; dsimp only; (repeat' split) <;> (repeat' split) <;> simp_all)

@[simp] theorem releaseSplit_frame :
    (releaseSplit s).power = s.power ∧ (releaseSplit s).setup = s.setup ∧ (releaseSplit s).bus = s.bus
    ∧ (releaseSplit s).sync = s.sync ∧ (releaseSplit s).member = s.member ∧ (releaseSplit s).pool = s.pool
    ∧ (releaseSplit s).ident = s.ident ∧ (releaseSplit s).clamp = s.clamp ∧ (releaseSplit s).guard = s.guard
    ∧ (releaseSplit s).history = s.history ∧ (releaseSplit s).freeIx = s.freeIx ∧ (releaseSplit s).pending = s.pending := by
  first
    | (simp [releaseSplit]; done)
    | (unfold releaseSplit; (repeat' split) <;> simp; done)
    | (unfold releaseSplit; dsimp only; (repeat' split) <;> simp; done)
    | (unfold releaseSplit; dsimp only; (repeat' split) <;> (repeat' split) <;> simp_all)

@[simp] theorem preempt_frame :
    (preempt s).power = s.power ∧ (preempt s).setup = s.setup ∧ (preempt s).bus = s.bus ∧ (preempt s).sync = s.sync
    ∧ (preempt s).member = s.member ∧ (preempt s).pool = s.pool ∧ (preempt s).ident = s.ident
    ∧ (preempt s).clamp = s.clamp ∧ (preempt s).guard = s.guard ∧ (preempt s).history = s.history
    ∧ (preempt s).freeIx = s.freeIx ∧ (preempt s).pending = s.pending := by
  first
    | (simp [preempt]; done)
    | (unfold preempt; (repeat' split) <;> simp; done)
    | (unfold preempt; dsimp only; (repeat' split) <;> simp; done)
    | (unfold preempt; dsimp only; (repeat' split) <;> (repeat' split) <;> simp_all)

@[simp] theorem grantDesk_frame (d : Desk) :
    (grantDesk d s).power = s.power ∧ (grantDesk d s).setup = s.setup ∧ (grantDesk d s).bus = s.bus
    ∧ (grantDesk d s).sync = s.sync ∧ (grantDesk d s).member = s.member ∧ (grantDesk d s).pool = s.pool
    ∧ (grantDesk d s).ident = s.ident ∧ (grantDesk d s).clamp = s.clamp ∧ (grantDesk d s).guard = s.guard
    ∧ (grantDesk d s).history = s.history ∧ (grantDesk d s).freeIx = s.freeIx ∧ (grantDesk d s).pending = s.pending := by
  first
    | (simp [grantDesk]; done)
    | (unfold grantDesk; (repeat' split) <;> simp; done)
    | (unfold grantDesk; dsimp only; (repeat' split) <;> simp; done)
    | (unfold grantDesk; dsimp only; (repeat' split) <;> (repeat' split) <;> simp_all)

@[simp] theorem grantStep_frame :
    (grantStep s).power = s.power ∧ (grantStep s).setup = s.setup ∧ (grantStep s).bus = s.bus
    ∧ (grantStep s).sync = s.sync ∧ (grantStep s).member = s.member ∧ (grantStep s).pool = s.pool
    ∧ (grantStep s).ident = s.ident ∧ (grantStep s).clamp = s.clamp ∧ (grantStep s).guard = s.guard
    ∧ (grantStep s).history = s.history ∧ (grantStep s).freeIx = s.freeIx ∧ (grantStep s).pending = s.pending := by
  first
    | (simp [grantStep]; done)
    | (unfold grantStep; (repeat' split) <;> simp; done)
    | (unfold grantStep; dsimp only; (repeat' split) <;> simp; done)
    | (unfold grantStep; dsimp only; (repeat' split) <;> (repeat' split) <;> simp_all)

@[simp] theorem floorDecisions_frame (b : Bool) :
    (floorDecisions b s).power = s.power ∧ (floorDecisions b s).setup = s.setup ∧ (floorDecisions b s).bus = s.bus
    ∧ (floorDecisions b s).sync = s.sync ∧ (floorDecisions b s).member = s.member ∧ (floorDecisions b s).pool = s.pool
    ∧ (floorDecisions b s).ident = s.ident ∧ (floorDecisions b s).guard = s.guard
    ∧ (floorDecisions b s).history = s.history ∧ (floorDecisions b s).freeIx = s.freeIx
    ∧ (floorDecisions b s).pending = s.pending := by
  first
    | (simp [floorDecisions]; done)
    | (unfold floorDecisions; (repeat' split) <;> simp; done)
    | (unfold floorDecisions; dsimp only; (repeat' split) <;> simp; done)
    | (unfold floorDecisions; dsimp only; (repeat' split) <;> (repeat' split) <;> simp_all)

@[simp] theorem snapshotStages_frame :
    (snapshotStages s).power = s.power ∧ (snapshotStages s).setup = s.setup ∧ (snapshotStages s).bus = s.bus
    ∧ (snapshotStages s).sync = s.sync ∧ (snapshotStages s).member = s.member ∧ (snapshotStages s).pool = s.pool
    ∧ (snapshotStages s).ident = s.ident ∧ (snapshotStages s).clamp = s.clamp ∧ (snapshotStages s).guard = s.guard
    ∧ (snapshotStages s).freeIx = s.freeIx ∧ (snapshotStages s).pending = s.pending := by
  first
    | (simp [snapshotStages]; done)
    | (unfold snapshotStages; (repeat' split) <;> simp; done)
    | (unfold snapshotStages; dsimp only; (repeat' split) <;> simp; done)
    | (unfold snapshotStages; dsimp only; (repeat' split) <;> (repeat' split) <;> simp_all)

@[simp] theorem countVoice_frame :
    (countVoice s).power = s.power ∧ (countVoice s).setup = s.setup ∧ (countVoice s).bus = s.bus
    ∧ (countVoice s).sync = s.sync ∧ (countVoice s).member = s.member ∧ (countVoice s).claims = s.claims
    ∧ (countVoice s).pool = s.pool ∧ (countVoice s).air = s.air ∧ (countVoice s).clamp = s.clamp
    ∧ (countVoice s).guard = s.guard ∧ (countVoice s).history = s.history ∧ (countVoice s).link = s.link
    ∧ (countVoice s).freeIx = s.freeIx ∧ (countVoice s).pending = s.pending := by
  first
    | (simp [countVoice]; done)
    | (unfold countVoice; (repeat' split) <;> simp; done)
    | (unfold countVoice; dsimp only; (repeat' split) <;> simp; done)
    | (unfold countVoice; dsimp only; (repeat' split) <;> (repeat' split) <;> simp_all)

@[simp] theorem identSent_frame :
    (identSent s).power = s.power ∧ (identSent s).setup = s.setup ∧ (identSent s).bus = s.bus
    ∧ (identSent s).sync = s.sync ∧ (identSent s).member = s.member ∧ (identSent s).claims = s.claims
    ∧ (identSent s).pool = s.pool ∧ (identSent s).air = s.air ∧ (identSent s).clamp = s.clamp
    ∧ (identSent s).guard = s.guard ∧ (identSent s).history = s.history ∧ (identSent s).freeIx = s.freeIx
    ∧ (identSent s).pending = s.pending := by
  first
    | (simp [identSent]; done)
    | (unfold identSent; (repeat' split) <;> simp; done)
    | (unfold identSent; dsimp only; (repeat' split) <;> simp; done)
    | (unfold identSent; dsimp only; (repeat' split) <;> (repeat' split) <;> simp_all)

@[simp] theorem identHeard_frame :
    (identHeard s).power = s.power ∧ (identHeard s).setup = s.setup ∧ (identHeard s).bus = s.bus
    ∧ (identHeard s).sync = s.sync ∧ (identHeard s).member = s.member ∧ (identHeard s).claims = s.claims
    ∧ (identHeard s).pool = s.pool ∧ (identHeard s).air = s.air ∧ (identHeard s).clamp = s.clamp
    ∧ (identHeard s).guard = s.guard ∧ (identHeard s).history = s.history ∧ (identHeard s).link = s.link
    ∧ (identHeard s).freeIx = s.freeIx ∧ (identHeard s).pending = s.pending := by
  first
    | (simp [identHeard]; done)
    | (unfold identHeard; (repeat' split) <;> simp; done)
    | (unfold identHeard; dsimp only; (repeat' split) <;> simp; done)
    | (unfold identHeard; dsimp only; (repeat' split) <;> (repeat' split) <;> simp_all)

@[simp] theorem actOnDue_frame :
    (actOnDue s).power = s.power ∧ (actOnDue s).setup = s.setup ∧ (actOnDue s).bus = s.bus
    ∧ (actOnDue s).sync = s.sync ∧ (actOnDue s).member = s.member ∧ (actOnDue s).pool = s.pool
    ∧ (actOnDue s).clamp = s.clamp ∧ (actOnDue s).guard = s.guard ∧ (actOnDue s).history = s.history
    ∧ (actOnDue s).freeIx = s.freeIx ∧ (actOnDue s).pending = s.pending := by
  first
    | (simp [actOnDue]; done)
    | (unfold actOnDue; (repeat' split) <;> simp; done)
    | (unfold actOnDue; dsimp only; (repeat' split) <;> simp; done)
    | (unfold actOnDue; dsimp only; (repeat' split) <;> (repeat' split) <;> simp_all)

@[simp] theorem voiceReceived_frame (h : BitVec 3) :
    (voiceReceived h s).power = s.power ∧ (voiceReceived h s).setup = s.setup ∧ (voiceReceived h s).bus = s.bus
    ∧ (voiceReceived h s).sync = s.sync ∧ (voiceReceived h s).member = s.member ∧ (voiceReceived h s).pool = s.pool
    ∧ (voiceReceived h s).clamp = s.clamp ∧ (voiceReceived h s).guard = s.guard
    ∧ (voiceReceived h s).history = s.history ∧ (voiceReceived h s).freeIx = s.freeIx
    ∧ (voiceReceived h s).pending = s.pending := by
  first
    | (simp [voiceReceived]; done)
    | (unfold voiceReceived; (repeat' split) <;> simp; done)
    | (unfold voiceReceived; dsimp only; (repeat' split) <;> simp; done)
    | (unfold voiceReceived; dsimp only; (repeat' split) <;> (repeat' split) <;> simp_all)

@[simp] theorem identProgram_frame (r : ProgResult) (p : ProgField) :
    (identProgram r p s).power = s.power ∧ (identProgram r p s).setup = s.setup ∧ (identProgram r p s).bus = s.bus
    ∧ (identProgram r p s).sync = s.sync ∧ (identProgram r p s).member = s.member ∧ (identProgram r p s).pool = s.pool
    ∧ (identProgram r p s).clamp = s.clamp ∧ (identProgram r p s).guard = s.guard
    ∧ (identProgram r p s).history = s.history ∧ (identProgram r p s).freeIx = s.freeIx
    ∧ (identProgram r p s).pending = s.pending := by
  first
    | (simp [identProgram]; done)
    | (unfold identProgram; (repeat' split) <;> simp; done)
    | (unfold identProgram; dsimp only; (repeat' split) <;> simp; done)
    | (unfold identProgram; dsimp only; (repeat' split) <;> (repeat' split) <;> simp_all)

@[simp] theorem dueStep_frame :
    (dueStep s).power = s.power ∧ (dueStep s).setup = s.setup ∧ (dueStep s).bus = s.bus ∧ (dueStep s).sync = s.sync
    ∧ (dueStep s).member = s.member ∧ (dueStep s).claims = s.claims ∧ (dueStep s).pool = s.pool
    ∧ (dueStep s).air = s.air ∧ (dueStep s).clamp = s.clamp ∧ (dueStep s).guard = s.guard
    ∧ (dueStep s).history = s.history ∧ (dueStep s).freeIx = s.freeIx ∧ (dueStep s).pending = s.pending := by
  first
    | (simp [dueStep]; done)
    | (unfold dueStep; (repeat' split) <;> simp; done)
    | (unfold dueStep; dsimp only; (repeat' split) <;> simp; done)
    | (unfold dueStep; dsimp only; (repeat' split) <;> (repeat' split) <;> simp_all)

@[simp] theorem tailWaitStep_frame :
    (tailWaitStep s).power = s.power ∧ (tailWaitStep s).setup = s.setup ∧ (tailWaitStep s).bus = s.bus
    ∧ (tailWaitStep s).sync = s.sync ∧ (tailWaitStep s).member = s.member ∧ (tailWaitStep s).claims = s.claims
    ∧ (tailWaitStep s).pool = s.pool ∧ (tailWaitStep s).air = s.air ∧ (tailWaitStep s).clamp = s.clamp
    ∧ (tailWaitStep s).guard = s.guard ∧ (tailWaitStep s).history = s.history ∧ (tailWaitStep s).link = s.link
    ∧ (tailWaitStep s).freeIx = s.freeIx ∧ (tailWaitStep s).pending = s.pending := by
  first
    | (simp [tailWaitStep]; done)
    | (unfold tailWaitStep; (repeat' split) <;> simp; done)
    | (unfold tailWaitStep; dsimp only; (repeat' split) <;> simp; done)
    | (unfold tailWaitStep; dsimp only; (repeat' split) <;> (repeat' split) <;> simp_all)

@[simp] theorem considerTail_frame :
    (considerTail s).power = s.power ∧ (considerTail s).setup = s.setup ∧ (considerTail s).bus = s.bus
    ∧ (considerTail s).sync = s.sync ∧ (considerTail s).member = s.member ∧ (considerTail s).claims = s.claims
    ∧ (considerTail s).pool = s.pool ∧ (considerTail s).clamp = s.clamp ∧ (considerTail s).guard = s.guard
    ∧ (considerTail s).history = s.history ∧ (considerTail s).link = s.link ∧ (considerTail s).freeIx = s.freeIx
    ∧ (considerTail s).pending = s.pending := by
  first
    | (simp [considerTail]; done)
    | (unfold considerTail; (repeat' split) <;> simp; done)
    | (unfold considerTail; dsimp only; (repeat' split) <;> simp; done)
    | (unfold considerTail; dsimp only; (repeat' split) <;> (repeat' split) <;> simp_all)

@[simp] theorem withdrawTail_frame :
    (withdrawTail s).power = s.power ∧ (withdrawTail s).setup = s.setup ∧ (withdrawTail s).bus = s.bus
    ∧ (withdrawTail s).sync = s.sync ∧ (withdrawTail s).member = s.member ∧ (withdrawTail s).claims = s.claims
    ∧ (withdrawTail s).pool = s.pool ∧ (withdrawTail s).clamp = s.clamp ∧ (withdrawTail s).guard = s.guard
    ∧ (withdrawTail s).history = s.history ∧ (withdrawTail s).link = s.link ∧ (withdrawTail s).freeIx = s.freeIx
    ∧ (withdrawTail s).pending = s.pending := by
  first
    | (simp [withdrawTail]; done)
    | (unfold withdrawTail; (repeat' split) <;> simp; done)
    | (unfold withdrawTail; dsimp only; (repeat' split) <;> simp; done)
    | (unfold withdrawTail; dsimp only; (repeat' split) <;> (repeat' split) <;> simp_all)

@[simp] theorem identWork_frame :
    (identWork s).power = s.power ∧ (identWork s).setup = s.setup ∧ (identWork s).bus = s.bus
    ∧ (identWork s).sync = s.sync ∧ (identWork s).member = s.member ∧ (identWork s).claims = s.claims
    ∧ (identWork s).pool = s.pool ∧ (identWork s).clamp = s.clamp ∧ (identWork s).guard = s.guard
    ∧ (identWork s).history = s.history ∧ (identWork s).link = s.link ∧ (identWork s).freeIx = s.freeIx
    ∧ (identWork s).pending = s.pending := by
  first
    | (simp [identWork]; done)
    | (unfold identWork; (repeat' split) <;> simp; done)
    | (unfold identWork; dsimp only; (repeat' split) <;> simp; done)
    | (unfold identWork; dsimp only; (repeat' split) <;> (repeat' split) <;> simp_all)

@[simp] theorem newFrameBus_frame :
    (newFrameBus s).power = s.power ∧ (newFrameBus s).setup = s.setup ∧ (newFrameBus s).sync = s.sync
    ∧ (newFrameBus s).member = s.member ∧ (newFrameBus s).claims = s.claims ∧ (newFrameBus s).pool = s.pool
    ∧ (newFrameBus s).air = s.air ∧ (newFrameBus s).ident = s.ident ∧ (newFrameBus s).clamp = s.clamp
    ∧ (newFrameBus s).guard = s.guard ∧ (newFrameBus s).history = s.history ∧ (newFrameBus s).link = s.link
    ∧ (newFrameBus s).freeIx = s.freeIx ∧ (newFrameBus s).pending = s.pending := by
  first
    | (simp [newFrameBus]; done)
    | (unfold newFrameBus; (repeat' split) <;> simp; done)
    | (unfold newFrameBus; dsimp only; (repeat' split) <;> simp; done)
    | (unfold newFrameBus; dsimp only; (repeat' split) <;> (repeat' split) <;> simp_all)

@[simp] theorem joinRuns_frame :
    (joinRuns s).power = s.power ∧ (joinRuns s).setup = s.setup ∧ (joinRuns s).sync = s.sync
    ∧ (joinRuns s).claims = s.claims ∧ (joinRuns s).pool = s.pool ∧ (joinRuns s).air = s.air
    ∧ (joinRuns s).ident = s.ident ∧ (joinRuns s).clamp = s.clamp ∧ (joinRuns s).guard = s.guard
    ∧ (joinRuns s).history = s.history ∧ (joinRuns s).link = s.link ∧ (joinRuns s).freeIx = s.freeIx
    ∧ (joinRuns s).pending = s.pending := by
  first
    | (simp [joinRuns]; done)
    | (unfold joinRuns; (repeat' split) <;> simp; done)
    | (unfold joinRuns; dsimp only; (repeat' split) <;> simp; done)
    | (unfold joinRuns; dsimp only; (repeat' split) <;> (repeat' split) <;> simp_all)

@[simp] theorem latchFrame_frame :
    (latchFrame s).power = s.power ∧ (latchFrame s).setup = s.setup ∧ (latchFrame s).sync = s.sync
    ∧ (latchFrame s).member = s.member ∧ (latchFrame s).claims = s.claims ∧ (latchFrame s).pool = s.pool
    ∧ (latchFrame s).air = s.air ∧ (latchFrame s).ident = s.ident ∧ (latchFrame s).guard = s.guard
    ∧ (latchFrame s).history = s.history ∧ (latchFrame s).link = s.link ∧ (latchFrame s).freeIx = s.freeIx
    ∧ (latchFrame s).pending = s.pending := by
  first
    | (simp [latchFrame]; done)
    | (unfold latchFrame; (repeat' split) <;> simp; done)
    | (unfold latchFrame; dsimp only; (repeat' split) <;> simp; done)
    | (unfold latchFrame; dsimp only; (repeat' split) <;> (repeat' split) <;> simp_all)

@[simp] theorem claimsAndAir_frame (b : Bool) :
    (claimsAndAir b s).power = s.power ∧ (claimsAndAir b s).setup = s.setup ∧ (claimsAndAir b s).sync = s.sync
    ∧ (claimsAndAir b s).member = s.member ∧ (claimsAndAir b s).clamp = s.clamp ∧ (claimsAndAir b s).guard = s.guard
    ∧ (claimsAndAir b s).history = s.history ∧ (claimsAndAir b s).freeIx = s.freeIx
    ∧ (claimsAndAir b s).pending = s.pending := by
  first
    | (simp [claimsAndAir]; done)
    | (unfold claimsAndAir; (repeat' split) <;> simp; done)
    | (unfold claimsAndAir; dsimp only; (repeat' split) <;> simp; done)
    | (unfold claimsAndAir; dsimp only; (repeat' split) <;> (repeat' split) <;> simp_all)

@[simp] theorem frameWork_frame (b : Bool) :
    (frameWork b s).power = s.power ∧ (frameWork b s).setup = s.setup ∧ (frameWork b s).sync = s.sync
    ∧ (frameWork b s).history = s.history ∧ (frameWork b s).freeIx = s.freeIx ∧ (frameWork b s).pending = s.pending := by
  first
    | (simp [frameWork]; done)
    | (unfold frameWork; (repeat' split) <;> simp; done)
    | (unfold frameWork; dsimp only; (repeat' split) <;> simp; done)
    | (unfold frameWork; dsimp only; (repeat' split) <;> (repeat' split) <;> simp_all)

@[simp] theorem frameStarts_frame (b : Bool) :
    (frameStarts b s).power = s.power ∧ (frameStarts b s).setup = s.setup ∧ (frameStarts b s).freeIx = s.freeIx
    ∧ (frameStarts b s).pending = s.pending := by
  first
    | (simp [frameStarts]; done)
    | (unfold frameStarts; (repeat' split) <;> simp; done)
    | (unfold frameStarts; dsimp only; (repeat' split) <;> simp; done)
    | (unfold frameStarts; dsimp only; (repeat' split) <;> (repeat' split) <;> simp_all)

@[simp] theorem syncFields_frame (bits : BitVec 43) :
    (syncFields bits s).power = s.power ∧ (syncFields bits s).setup = s.setup ∧ (syncFields bits s).pool = s.pool
    ∧ (syncFields bits s).guard = s.guard ∧ (syncFields bits s).freeIx = s.freeIx
    ∧ (syncFields bits s).pending = s.pending := by
  first
    | (simp [syncFields]; done)
    | (unfold syncFields; (repeat' split) <;> simp; done)
    | (unfold syncFields; dsimp only; (repeat' split) <;> simp; done)
    | (unfold syncFields; dsimp only; (repeat' split) <;> (repeat' split) <;> simp_all)

@[simp] theorem ownSlotReceived_frame (bits : BitVec 208) :
    (ownSlotReceived bits s).power = s.power ∧ (ownSlotReceived bits s).setup = s.setup
    ∧ (ownSlotReceived bits s).sync = s.sync ∧ (ownSlotReceived bits s).member = s.member
    ∧ (ownSlotReceived bits s).claims = s.claims ∧ (ownSlotReceived bits s).pool = s.pool
    ∧ (ownSlotReceived bits s).air = s.air ∧ (ownSlotReceived bits s).ident = s.ident
    ∧ (ownSlotReceived bits s).clamp = s.clamp ∧ (ownSlotReceived bits s).guard = s.guard
    ∧ (ownSlotReceived bits s).history = s.history ∧ (ownSlotReceived bits s).link = s.link
    ∧ (ownSlotReceived bits s).freeIx = s.freeIx ∧ (ownSlotReceived bits s).pending = s.pending := by
  first
    | (simp [ownSlotReceived]; done)
    | (unfold ownSlotReceived; (repeat' split) <;> simp; done)
    | (unfold ownSlotReceived; dsimp only; (repeat' split) <;> simp; done)
    | (unfold ownSlotReceived; dsimp only; (repeat' split) <;> (repeat' split) <;> simp_all)

@[simp] theorem putJudge_frame (k : Station) (j : Judgement) :
    (putJudge k j s).power = s.power ∧ (putJudge k j s).setup = s.setup ∧ (putJudge k j s).sync = s.sync
    ∧ (putJudge k j s).member = s.member ∧ (putJudge k j s).claims = s.claims ∧ (putJudge k j s).pool = s.pool
    ∧ (putJudge k j s).air = s.air ∧ (putJudge k j s).ident = s.ident ∧ (putJudge k j s).clamp = s.clamp
    ∧ (putJudge k j s).guard = s.guard ∧ (putJudge k j s).history = s.history ∧ (putJudge k j s).link = s.link
    ∧ (putJudge k j s).freeIx = s.freeIx ∧ (putJudge k j s).pending = s.pending := by
  first
    | (simp [putJudge]; done)
    | (unfold putJudge; (repeat' split) <;> simp; done)
    | (unfold putJudge; dsimp only; (repeat' split) <;> simp; done)
    | (unfold putJudge; dsimp only; (repeat' split) <;> (repeat' split) <;> simp_all)

@[simp] theorem putMirrors_frame (k : Station) (r : Four Record) :
    (putMirrors k r s).power = s.power ∧ (putMirrors k r s).setup = s.setup ∧ (putMirrors k r s).bus = s.bus
    ∧ (putMirrors k r s).sync = s.sync ∧ (putMirrors k r s).member = s.member ∧ (putMirrors k r s).pool = s.pool
    ∧ (putMirrors k r s).air = s.air ∧ (putMirrors k r s).ident = s.ident ∧ (putMirrors k r s).clamp = s.clamp
    ∧ (putMirrors k r s).guard = s.guard ∧ (putMirrors k r s).history = s.history ∧ (putMirrors k r s).link = s.link
    ∧ (putMirrors k r s).freeIx = s.freeIx ∧ (putMirrors k r s).pending = s.pending := by
  first
    | (simp [putMirrors]; done)
    | (unfold putMirrors; (repeat' split) <;> simp; done)
    | (unfold putMirrors; dsimp only; (repeat' split) <;> simp; done)
    | (unfold putMirrors; dsimp only; (repeat' split) <;> (repeat' split) <;> simp_all)

@[simp] theorem freshSlot_frame (k : Station) (x : SlotIn) :
    (freshSlot k x s).power = s.power ∧ (freshSlot k x s).setup = s.setup ∧ (freshSlot k x s).sync = s.sync
    ∧ (freshSlot k x s).pool = s.pool ∧ (freshSlot k x s).air = s.air ∧ (freshSlot k x s).ident = s.ident
    ∧ (freshSlot k x s).clamp = s.clamp ∧ (freshSlot k x s).guard = s.guard ∧ (freshSlot k x s).history = s.history
    ∧ (freshSlot k x s).freeIx = s.freeIx ∧ (freshSlot k x s).pending = s.pending := by
  first
    | (simp [freshSlot]; done)
    | (unfold freshSlot; (repeat' split) <;> simp; done)
    | (unfold freshSlot; dsimp only; (repeat' split) <;> simp; done)
    | (unfold freshSlot; dsimp only; (repeat' split) <;> (repeat' split) <;> simp_all)

@[simp] theorem staleSlot_frame (k : Station) (bits : BitVec 208) :
    (staleSlot k bits s).power = s.power ∧ (staleSlot k bits s).setup = s.setup ∧ (staleSlot k bits s).sync = s.sync
    ∧ (staleSlot k bits s).pool = s.pool ∧ (staleSlot k bits s).air = s.air ∧ (staleSlot k bits s).ident = s.ident
    ∧ (staleSlot k bits s).clamp = s.clamp ∧ (staleSlot k bits s).guard = s.guard
    ∧ (staleSlot k bits s).history = s.history ∧ (staleSlot k bits s).freeIx = s.freeIx
    ∧ (staleSlot k bits s).pending = s.pending := by
  first
    | (simp [staleSlot]; done)
    | (unfold staleSlot; (repeat' split) <;> simp; done)
    | (unfold staleSlot; dsimp only; (repeat' split) <;> simp; done)
    | (unfold staleSlot; dsimp only; (repeat' split) <;> (repeat' split) <;> simp_all)

@[simp] theorem lastSlotChecks_frame (k : Station) :
    (lastSlotChecks k s).power = s.power ∧ (lastSlotChecks k s).setup = s.setup ∧ (lastSlotChecks k s).pool = s.pool
    ∧ (lastSlotChecks k s).guard = s.guard ∧ (lastSlotChecks k s).history = s.history
    ∧ (lastSlotChecks k s).freeIx = s.freeIx ∧ (lastSlotChecks k s).pending = s.pending := by
  first
    | (simp [lastSlotChecks]; done)
    | (unfold lastSlotChecks; (repeat' split) <;> simp; done)
    | (unfold lastSlotChecks; dsimp only; (repeat' split) <;> simp; done)
    | (unfold lastSlotChecks; dsimp only; (repeat' split) <;> (repeat' split) <;> simp_all)

@[simp] theorem takeOrder_frame (b : Bool) :
    (takeOrder b s).power = s.power ∧ (takeOrder b s).setup = s.setup ∧ (takeOrder b s).bus = s.bus
    ∧ (takeOrder b s).sync = s.sync ∧ (takeOrder b s).member = s.member ∧ (takeOrder b s).claims = s.claims
    ∧ (takeOrder b s).pool = s.pool ∧ (takeOrder b s).air = s.air ∧ (takeOrder b s).ident = s.ident
    ∧ (takeOrder b s).guard = s.guard ∧ (takeOrder b s).history = s.history ∧ (takeOrder b s).freeIx = s.freeIx
    ∧ (takeOrder b s).pending = s.pending := by
  first
    | (simp [takeOrder]; done)
    | (unfold takeOrder; (repeat' split) <;> simp; done)
    | (unfold takeOrder; dsimp only; (repeat' split) <;> simp; done)
    | (unfold takeOrder; dsimp only; (repeat' split) <;> (repeat' split) <;> simp_all)

@[simp] theorem slotArrives_frame (k : Station) (bits : BitVec 208) :
    (slotArrives k bits s).power = s.power ∧ (slotArrives k bits s).setup = s.setup
    ∧ (slotArrives k bits s).pool = s.pool ∧ (slotArrives k bits s).guard = s.guard
    ∧ (slotArrives k bits s).history = s.history ∧ (slotArrives k bits s).freeIx = s.freeIx
    ∧ (slotArrives k bits s).pending = s.pending := by
  first
    | (simp [slotArrives]; done)
    | (unfold slotArrives; (repeat' split) <;> simp; done)
    | (unfold slotArrives; dsimp only; (repeat' split) <;> simp; done)
    | (unfold slotArrives; dsimp only; (repeat' split) <;> (repeat' split) <;> simp_all)

@[simp] theorem keepSample_frame (x : Lines) :
    (keepSample x s).power = s.power ∧ (keepSample x s).setup = s.setup ∧ (keepSample x s).sync = s.sync
    ∧ (keepSample x s).member = s.member ∧ (keepSample x s).claims = s.claims ∧ (keepSample x s).pool = s.pool
    ∧ (keepSample x s).air = s.air ∧ (keepSample x s).ident = s.ident ∧ (keepSample x s).clamp = s.clamp
    ∧ (keepSample x s).guard = s.guard ∧ (keepSample x s).history = s.history ∧ (keepSample x s).link = s.link
    ∧ (keepSample x s).freeIx = s.freeIx ∧ (keepSample x s).pending = s.pending := by
  first
    | (simp [keepSample]; done)
    | (unfold keepSample; (repeat' split) <;> simp; done)
    | (unfold keepSample; dsimp only; (repeat' split) <;> simp; done)
    | (unfold keepSample; dsimp only; (repeat' split) <;> (repeat' split) <;> simp_all)

@[simp] theorem clampedSample_frame :
    (clampedSample s).power = s.power ∧ (clampedSample s).setup = s.setup ∧ (clampedSample s).sync = s.sync
    ∧ (clampedSample s).member = s.member ∧ (clampedSample s).pool = s.pool ∧ (clampedSample s).clamp = s.clamp
    ∧ (clampedSample s).guard = s.guard ∧ (clampedSample s).history = s.history ∧ (clampedSample s).freeIx = s.freeIx
    ∧ (clampedSample s).pending = s.pending := by
  first
    | (simp [clampedSample]; done)
    | (unfold clampedSample; (repeat' split) <;> simp; done)
    | (unfold clampedSample; dsimp only; (repeat' split) <;> simp; done)
    | (unfold clampedSample; dsimp only; (repeat' split) <;> (repeat' split) <;> simp_all)

@[simp] theorem keySampleWork_frame (x : Lines) :
    (keySampleWork x s).power = s.power ∧ (keySampleWork x s).setup = s.setup ∧ (keySampleWork x s).sync = s.sync
    ∧ (keySampleWork x s).member = s.member ∧ (keySampleWork x s).pool = s.pool ∧ (keySampleWork x s).guard = s.guard
    ∧ (keySampleWork x s).history = s.history ∧ (keySampleWork x s).freeIx = s.freeIx
    ∧ (keySampleWork x s).pending = s.pending := by
  first
    | (simp [keySampleWork]; done)
    | (unfold keySampleWork; (repeat' split) <;> simp; done)
    | (unfold keySampleWork; dsimp only; (repeat' split) <;> simp; done)
    | (unfold keySampleWork; dsimp only; (repeat' split) <;> (repeat' split) <;> simp_all)

@[simp] theorem putFenceRun_frame (n : Nat) :
    (putFenceRun n s).power = s.power ∧ (putFenceRun n s).setup = s.setup ∧ (putFenceRun n s).sync = s.sync
    ∧ (putFenceRun n s).member = s.member ∧ (putFenceRun n s).claims = s.claims ∧ (putFenceRun n s).pool = s.pool
    ∧ (putFenceRun n s).air = s.air ∧ (putFenceRun n s).ident = s.ident ∧ (putFenceRun n s).clamp = s.clamp
    ∧ (putFenceRun n s).guard = s.guard ∧ (putFenceRun n s).history = s.history ∧ (putFenceRun n s).link = s.link
    ∧ (putFenceRun n s).freeIx = s.freeIx ∧ (putFenceRun n s).pending = s.pending := by
  first
    | (simp [putFenceRun]; done)
    | (unfold putFenceRun; (repeat' split) <;> simp; done)
    | (unfold putFenceRun; dsimp only; (repeat' split) <;> simp; done)
    | (unfold putFenceRun; dsimp only; (repeat' split) <;> (repeat' split) <;> simp_all)

@[simp] theorem snapshotAndIdent_frame (a b : Bool) :
    (snapshotAndIdent a b s).power = s.power ∧ (snapshotAndIdent a b s).setup = s.setup
    ∧ (snapshotAndIdent a b s).bus = s.bus ∧ (snapshotAndIdent a b s).sync = s.sync
    ∧ (snapshotAndIdent a b s).member = s.member ∧ (snapshotAndIdent a b s).pool = s.pool
    ∧ (snapshotAndIdent a b s).guard = s.guard ∧ (snapshotAndIdent a b s).freeIx = s.freeIx
    ∧ (snapshotAndIdent a b s).pending = s.pending := by
  first
    | (simp [snapshotAndIdent]; done)
    | (unfold snapshotAndIdent; (repeat' split) <;> simp; done)
    | (unfold snapshotAndIdent; dsimp only; (repeat' split) <;> simp; done)
    | (unfold snapshotAndIdent; dsimp only; (repeat' split) <;> (repeat' split) <;> simp_all)

@[simp] theorem afterFence_frame (b : Bool) :
    (afterFence b s).power = s.power ∧ (afterFence b s).setup = s.setup ∧ (afterFence b s).bus = s.bus
    ∧ (afterFence b s).sync = s.sync ∧ (afterFence b s).member = s.member ∧ (afterFence b s).pool = s.pool
    ∧ (afterFence b s).guard = s.guard ∧ (afterFence b s).freeIx = s.freeIx ∧ (afterFence b s).pending = s.pending := by
  first
    | (simp [afterFence]; done)
    | (unfold afterFence; (repeat' split) <;> simp; done)
    | (unfold afterFence; dsimp only; (repeat' split) <;> simp; done)
    | (unfold afterFence; dsimp only; (repeat' split) <;> (repeat' split) <;> simp_all)

@[simp] theorem snapshotWithFence_frame (o : FenceOrder) (b : Bool) :
    (snapshotWithFence o b s).power = s.power ∧ (snapshotWithFence o b s).setup = s.setup
    ∧ (snapshotWithFence o b s).pool = s.pool ∧ (snapshotWithFence o b s).guard = s.guard
    ∧ (snapshotWithFence o b s).freeIx = s.freeIx ∧ (snapshotWithFence o b s).pending = s.pending := by
  first
    | (simp [snapshotWithFence]; done)
    | (unfold snapshotWithFence; (repeat' split) <;> simp; done)
    | (unfold snapshotWithFence; dsimp only; (repeat' split) <;> simp; done)
    | (unfold snapshotWithFence; dsimp only; (repeat' split) <;> (repeat' split) <;> simp_all)

@[simp] theorem snapshotWork_frame (o : FenceOrder) (b : Bool) :
    (snapshotWork o b s).power = s.power ∧ (snapshotWork o b s).setup = s.setup ∧ (snapshotWork o b s).pool = s.pool
    ∧ (snapshotWork o b s).guard = s.guard ∧ (snapshotWork o b s).freeIx = s.freeIx
    ∧ (snapshotWork o b s).pending = s.pending := by
  first
    | (simp [snapshotWork]; done)
    | (unfold snapshotWork; (repeat' split) <;> simp; done)
    | (unfold snapshotWork; dsimp only; (repeat' split) <;> simp; done)
    | (unfold snapshotWork; dsimp only; (repeat' split) <;> (repeat' split) <;> simp_all)

@[simp] theorem mismatchStep_frame (r : ProgResult) (p : ProgField) :
    (mismatchStep r p s).power = s.power ∧ (mismatchStep r p s).setup = s.setup ∧ (mismatchStep r p s).sync = s.sync
    ∧ (mismatchStep r p s).member = s.member ∧ (mismatchStep r p s).claims = s.claims
    ∧ (mismatchStep r p s).pool = s.pool ∧ (mismatchStep r p s).air = s.air ∧ (mismatchStep r p s).ident = s.ident
    ∧ (mismatchStep r p s).clamp = s.clamp ∧ (mismatchStep r p s).guard = s.guard
    ∧ (mismatchStep r p s).history = s.history ∧ (mismatchStep r p s).freeIx = s.freeIx
    ∧ (mismatchStep r p s).pending = s.pending := by
  first
    | (simp [mismatchStep]; done)
    | (unfold mismatchStep; (repeat' split) <;> simp; done)
    | (unfold mismatchStep; dsimp only; (repeat' split) <;> simp; done)
    | (unfold mismatchStep; dsimp only; (repeat' split) <;> (repeat' split) <;> simp_all)

@[simp] theorem programWork_frame (bits : BitVec 168) :
    (programWork bits s).power = s.power ∧ (programWork bits s).setup = s.setup ∧ (programWork bits s).sync = s.sync
    ∧ (programWork bits s).member = s.member ∧ (programWork bits s).pool = s.pool
    ∧ (programWork bits s).guard = s.guard ∧ (programWork bits s).history = s.history
    ∧ (programWork bits s).freeIx = s.freeIx ∧ (programWork bits s).pending = s.pending := by
  first
    | (simp [programWork]; done)
    | (unfold programWork; (repeat' split) <;> simp; done)
    | (unfold programWork; dsimp only; (repeat' split) <;> simp; done)
    | (unfold programWork; dsimp only; (repeat' split) <;> (repeat' split) <;> simp_all)

@[simp] theorem patternSeen_frame :
    (patternSeen s).power = s.power ∧ (patternSeen s).setup = s.setup ∧ (patternSeen s).bus = s.bus
    ∧ (patternSeen s).member = s.member ∧ (patternSeen s).claims = s.claims ∧ (patternSeen s).pool = s.pool
    ∧ (patternSeen s).air = s.air ∧ (patternSeen s).ident = s.ident ∧ (patternSeen s).clamp = s.clamp
    ∧ (patternSeen s).guard = s.guard ∧ (patternSeen s).history = s.history ∧ (patternSeen s).link = s.link
    ∧ (patternSeen s).freeIx = s.freeIx ∧ (patternSeen s).pending = s.pending := by
  first
    | (simp [patternSeen]; done)
    | (unfold patternSeen; (repeat' split) <;> simp; done)
    | (unfold patternSeen; dsimp only; (repeat' split) <;> simp; done)
    | (unfold patternSeen; dsimp only; (repeat' split) <;> (repeat' split) <;> simp_all)

@[simp] theorem patternFound_frame (p : BitVec 11) (c : Count) (t : Station) :
    (patternFound p c t s).power = s.power ∧ (patternFound p c t s).setup = s.setup
    ∧ (patternFound p c t s).pool = s.pool ∧ (patternFound p c t s).air = s.air
    ∧ (patternFound p c t s).ident = s.ident ∧ (patternFound p c t s).guard = s.guard
    ∧ (patternFound p c t s).history = s.history ∧ (patternFound p c t s).freeIx = s.freeIx
    ∧ (patternFound p c t s).pending = s.pending := by
  first
    | (simp [patternFound]; done)
    | (unfold patternFound; (repeat' split) <;> simp; done)
    | (unfold patternFound; dsimp only; (repeat' split) <;> simp; done)
    | (unfold patternFound; dsimp only; (repeat' split) <;> (repeat' split) <;> simp_all)

end Sys2Proof.Machine
end

