-- ==== Sys2Proof/Laws/Pool.lean ====
section
/-! SUPPORT. What the operations on a desk queue do to its cells and its order: accept, start, gap, play, flush; and what the pool's operations do to the free list. -/

namespace Sys2Proof

open Machine

/-! ### Cells -/

theorem blockCells_insertFrom (base : Seq) (b : Block) (bs : List Block) :
    blockCells (insertFrom base b bs) = blockCells bs + b.cells.length := by
  induction bs with
  | nil => simp [insertFrom, blockCells, Block.count]
  | cons x xs ih =>
    simp only [insertFrom]
    split
    · simp [blockCells, Block.count]; omega
    · simp only [blockCells, List.map_cons, List.sum_cons, Block.count] at ih ⊢; omega

theorem blockCells_insertBlock (c : Option Seq) (b : Block) (bs : List Block) :
    blockCells (insertBlock c b bs) = blockCells bs + b.cells.length := by
  cases c with
  | some c => simp [insertBlock, blockCells_insertFrom]
  | none =>
    cases bs with
    | nil => simp [insertBlock, blockCells, Block.count]
    | cons x xs =>
      simp only [insertBlock]
      split
      · simp [blockCells, Block.count]; omega
      · exact blockCells_insertFrom _ _ _

theorem length_insertFrom (base : Seq) (b : Block) (bs : List Block) :
    (insertFrom base b bs).length = bs.length + 1 := by
  induction bs with
  | nil => rfl
  | cons x xs ih => simp only [insertFrom]; split <;> simp [ih]

theorem length_insertBlock (c : Option Seq) (b : Block) (bs : List Block) :
    (insertBlock c b bs).length = bs.length + 1 := by
  cases c with
  | some c => simp [insertBlock, length_insertFrom]
  | none =>
    cases bs with
    | nil => rfl
    | cons x xs =>
      simp only [insertBlock]
      split
      · simp
      · exact length_insertFrom _ _ _

theorem mem_insertFrom (base : Seq) (b x : Block) (bs : List Block) : x ∈ insertFrom base b bs ↔ x = b ∨ x ∈ bs := by
  induction bs with
  | nil => simp [insertFrom]
  | cons y ys ih =>
    simp only [insertFrom]
    split
    · simp
    · simp only [List.mem_cons, ih]; tauto

theorem mem_insertBlock (c : Option Seq) (b x : Block) (bs : List Block) : x ∈ insertBlock c b bs ↔ x = b ∨ x ∈ bs := by
  cases c with
  | some c => simp [insertBlock, mem_insertFrom]
  | none =>
    cases bs with
    | nil => simp [insertBlock]
    | cons y ys =>
      simp only [insertBlock]
      split
      · simp
      · exact mem_insertFrom _ _ _ _

theorem cells_accept (q : DeskQueue) (n : Seq) (cells : List Cell) (r : Bool) :
    (q.accept n cells r).cells = q.cells + cells.length := by
  simp [DeskQueue.accept, DeskQueue.cells, DeskQueue.left, blockCells_insertBlock]; omega

@[simp] theorem cells_flushed (q : DeskQueue) : q.flushed.cells = 0 := by
  simp [DeskQueue.flushed, DeskQueue.cells, DeskQueue.left, blockCells]

@[simp] theorem cells_reset : DeskQueue.reset.cells = 0 := by
  simp [DeskQueue.reset, DeskQueue.cells, DeskQueue.left, blockCells]

@[simp] theorem cells_declareGap (q : DeskQueue) : q.declareGap.cells = q.cells := by
  unfold DeskQueue.declareGap; split <;> simp [DeskQueue.cells, DeskQueue.left]

/-- A start moves no cell to the free list where no current cell is unplayed. -/
theorem cells_startHead {q : DeskQueue} (h : q.left = 0) : q.startHead.cells = q.cells := by
  unfold DeskQueue.startHead
  split
  · rfl
  · rename_i b rest hq
    simp only [DeskQueue.cells, hq, h]
    simp [DeskQueue.left, blockCells, Block.count]; omega

/-- Playing takes one cell from the desk. -/
theorem cells_play {q : DeskQueue} {p : Played} (h : q.play = some p) : p.queue.cells + 1 = q.cells := by
  unfold DeskQueue.play at h
  split at h
  · cases h
  · rename_i c hc
    split at h
    · cases h
    · rename_i x hr
      cases h
      simp [DeskQueue.cells, DeskQueue.left, hc, hr]
    · rename_i x y rest hr
      cases h
      simp [DeskQueue.cells, DeskQueue.left, hc, hr]; omega

/-! ### Order -/

theorem ascendingFrom_mono {base : Seq} {low low' : Nat} {bs : List Block} (h : low' ≤ low) (hs : ascendingFrom base low bs) :
    ascendingFrom base low' bs := by
  cases bs with
  | nil => trivial
  | cons b rest => exact ⟨h.trans hs.1, hs.2⟩

/-- A block put in its place keeps the ascending order where no queued block has its position. -/
theorem ascendingFrom_insertFrom {base : Seq} {b : Block} : ∀ {low : Nat} {bs : List Block}, ascendingFrom base low bs →
    low ≤ (b.seq - base).toNat → (b.seq - base).toNat < 32768 → (∀ x ∈ bs, x.seq ≠ b.seq) →
    ascendingFrom base low (insertFrom base b bs)
  | low, [], _, h1, h2, _ => ⟨h1, h2, trivial⟩
  | low, x :: xs, hs, h1, h2, h3 => by
    obtain ⟨hx1, hx2, hx3⟩ := hs
    have hne : (x.seq - base).toNat ≠ (b.seq - base).toNat := by
      intro e
      have e' : x.seq - base = b.seq - base := BitVec.eq_of_toNat_eq e
      exact h3 x (by simp) (by have := congrArg (· + base) e'; simpa using this)
    simp only [insertFrom]
    split
    · rename_i hlt
      exact ⟨h1, h2, hlt, hx2, hx3⟩
    · rename_i hge
      exact ⟨hx1, hx2, ascendingFrom_insertFrom hx3 (by omega) h2 fun y hy => h3 y (by simp [hy])⟩

/-! ### Pool -/

@[simp] theorem getQueue_setQueue (d e : Desk) (q : DeskQueue) (s : State) :
    getQueue (setQueue d q s) e = if e = d then q else getQueue s e := by
  simp [getQueue, setQueue, Four.get_set]

@[simp] theorem getQueue_releaseCells (d e : Desk) (q : DeskQueue) (s : State) :
    getQueue (releaseCells d q s) e = if e = d then q else getQueue s e := by
  simp [getQueue, releaseCells, Four.get_set]

@[simp] theorem free_releaseCells (d : Desk) (q : DeskQueue) (s : State) :
    (releaseCells d q s).pool.free = s.pool.free + ((getQueue s d).cells - q.cells) := rfl

theorem deskCells_eq (s : State) :
    deskCells s = (getQueue s 0).cells + (getQueue s 1).cells + (getQueue s 2).cells + (getQueue s 3).cells := by
  simp [deskCells, allDesks]; omega

/-- The cells of all desks after one desk's queue is replaced. -/
theorem deskCells_set {s t : State} {d : Desk} {q : DeskQueue}
    (h : ∀ e, getQueue t e = if e = d then q else getQueue s e) :
    deskCells t + (getQueue s d).cells = deskCells s + q.cells := by
  simp only [deskCells_eq, h]
  fin_cases d <;> simp <;> omega

/-- R84 is kept by a release of cells to the free list. -/
theorem cellsConserved_releaseCells {d : Desk} {q : DeskQueue} {s : State} (hq : q.cells ≤ (getQueue s d).cells)
    (h : cellsConserved s) : cellsConserved (releaseCells d q s) := by
  have hd := deskCells_set (s := s) (t := releaseCells d q s) (d := d) (q := q) (fun e => by simp)
  simp only [cellsConserved, free_releaseCells] at h ⊢
  have hc : (releaseCells d q s).pool.clip = s.pool.clip := rfl
  have hz : (releaseCells d q s).pool.size = s.pool.size := rfl
  rw [hc, hz]
  omega

theorem length_writeClip (clip : List Cell) (offset : Nat) (cells : List Cell) :
    (writeClip clip offset cells).length = max clip.length (offset + cells.length) := by
  simp [writeClip]; omega

/-- R104: the scaled sample lies in the signed range, so its value is the truncated quotient. -/
theorem toInt_scaleSample (trim : BitVec 4) (x : Word16) :
    (scaleSample trim x).toInt = (x.toInt * (16 - (trim.toNat : Int))).tdiv 16 := by
  have h1 := BitVec.toInt_lt (x := x)
  have h2 := BitVec.le_toInt (x := x)
  have h3 := trim.isLt
  generalize hm : (16 - (trim.toNat : Int)) = m
  have hm1 : 1 ≤ m := by omega
  have hm2 : m ≤ 16 := by omega
  generalize hv : x.toInt = v at h1 h2
  norm_num at h1 h2
  have hlo : -32768 * 16 ≤ v * m := by nlinarith
  have hhi : v * m ≤ 32767 * 16 := by nlinarith
  rw [scaleSample, hv, hm, BitVec.toInt_ofInt]
  generalize v * m = y at hlo hhi
  have h5 : -32768 ≤ y.tdiv 16 := by
    have := Int.tdiv_le_tdiv (c := 16) (by norm_num) hlo; simpa using this
  have h6 : y.tdiv 16 ≤ 32767 := by
    have := Int.tdiv_le_tdiv (c := 16) (by norm_num) hhi; simpa using this
  exact Int.bmod_eq_of_le (by omega) (by omega)

end Sys2Proof
end

