-- ==== Sys2Proof/Laws/Requests.lean ====
section
/-! SUPPORT. How a request is taken while the part is up, and what a desk selector gives. -/

namespace Sys2Proof

open Machine

/-- R165: in a busy window MISO shifts ones. -/
@[simp] theorem shifted_window (s : State) (n : Nat) : shifted s n true = List.replicate n 0xFF := by
  cases h : s.link.response <;> simp [shifted, h]

/-- R165: with no response pending MISO shifts ones. -/
theorem shifted_empty {s : State} (h : s.link.response = none) (n : Nat) (b : Bool) :
    shifted s n b = List.replicate n 0xFF := by
  simp [shifted, h]

theorem takeRequest_up {s : State} (h : linkUp s = true) (b : Bool) (n : Nat) (act : State → Answer) :
    takeRequest b n act s = replied b s (act s).state n (act s).status (act s).body := by
  simp [takeRequest, replied, h]

theorem takeRequest_down {s : State} (h : linkUp s = false) (b : Bool) (n : Nat) (act : State → Answer) : takeRequest b n act s = s := by
  simp [takeRequest, h]

theorem forDesk_of {sel : Byte} {d : Desk} (h : sel.toNat = d.val) (act : Desk → State → Answer) (s : State) :
    forDesk sel act s = act d s := by
  have : sel.toNat < 4 := by have := d.isLt; omega
  have e : (⟨sel.toNat, this⟩ : Desk) = d := Fin.ext h
  simp only [forDesk, this, dif_pos, e]

theorem forDesk_none {sel : Byte} (h : 4 ≤ sel.toNat) (act : Desk → State → Answer) (s : State) :
    forDesk sel act s = .refuse .noDesk s := by
  have : ¬ sel.toNat < 4 := by omega
  simp [forDesk, this]

theorem endForClose_getDesk (d e : Desk) (s : State) : getDesk (endForClose d s) e =
    if e = d ∧ hasState s d .holding then (getDesk s d).ended .closed
    else if e = d ∧ hasState s d .waiting then (getDesk s d).withdrawn .closed else getDesk s e := by
  simp only [endForClose, getDesk_withdraw, getDesk_endHolding, hasState]
  by_cases h : e = d
  · subst h
    by_cases h1 : (getDesk s e).record.state = .holding
    · simp [h1, OwnDesk.ended, stateAfter]
    · simp [h1]
  · simp [h]

@[simp] theorem endForClose_frame (d : Desk) (s : State) :
    (endForClose d s).power = s.power ∧ (endForClose d s).setup = s.setup ∧ (endForClose d s).bus = s.bus
    ∧ (endForClose d s).sync = s.sync ∧ (endForClose d s).member = s.member ∧ (endForClose d s).pool = s.pool
    ∧ (endForClose d s).ident = s.ident ∧ (endForClose d s).clamp = s.clamp ∧ (endForClose d s).guard = s.guard
    ∧ (endForClose d s).history = s.history ∧ (endForClose d s).freeIx = s.freeIx
    ∧ (endForClose d s).pending = s.pending := by
  simp [endForClose]

end Sys2Proof
end

