-- ==== Sys2Proof/Laws/Sync.lean ====
section
/-! SUPPORT. What each entry to a sync state leaves, said once for the commands that enter it (R20, R23, R25, R28, R35), and a frame start that enters none (R19, R22, R27). -/

namespace Sys2Proof

open Machine

/-! ### Losing sync -/

theorem getDesk_loseSync (s : State) (d : Desk) : getDesk (loseSync s) d =
    if hasState s d .holding then (getDesk s d).ended .syncLost
    else if hasState s d .waiting then (getDesk s d).withdrawn .syncLost else getDesk s d := by
  have e : ∀ d, getDesk (airOff s) d = getDesk s d := fun d => getDesk_of_claims (by simp) d
  simp only [loseSync, getDesk_withdrawAll, getDesk_endHoldings, hasState, e]
  cases hs : (getDesk s d).record.state <;> simp [hs, OwnDesk.ended, stateAfter]

theorem airIsOff_loseSync (s : State) : airIsOff (loseSync s) :=
  airIsOff_of_blocks (airIsOff_endHoldings .syncLost (airIsOff_airOff s)) (by simp [loseSync]) (by simp [loseSync])
    (by simp [loseSync])

theorem siteFlags_loseSync (s : State) : (loseSync s).link.siteFlags = s.link.siteFlags := by
  simp [loseSync, siteFlags_withdrawAll, siteFlags_endHoldings]

theorem syncLostAt_loseSync (s : State) (d : Desk) : syncLostAt s (loseSync s) d := by
  have e : ∀ d, getDesk (airOff s) d = getDesk s d := fun d => getDesk_of_claims (by simp) d
  have hended : hasState s d .holding → deskFlagSet (loseSync s) d .ended := fun h =>
    deskFlagSet_withdrawAll_of .syncLost (deskFlagSet_endHoldings .syncLost (s := airOff s) (by simpa [hasState, e] using h))
  have hwait : hasState s d .waiting → deskFlagSet (loseSync s) d .waitEnd := fun h => by
    refine deskFlagSet_withdrawAll .syncLost ?_
    simp only [hasState, getDesk_endHoldings, e] at h ⊢
    simp [h]
  refine ⟨?_, hended, hwait, ?_⟩
  · rintro (h | h)
    · rw [getDesk_loseSync, if_pos h]
      have := ended_record (getDesk s d) .syncLost (by decide) (by decide)
      exact ⟨this.1, this.2.2⟩
    · have h' : ¬ hasState s d .holding := by simp only [hasState] at h ⊢; rw [h]; decide
      rw [getDesk_loseSync, if_neg h', if_pos h, withdrawn_eq]
      exact ⟨rfl, rfl⟩
  · intro h h'
    rw [getDesk_loseSync, if_neg h, if_neg h']

theorem syncLostAt_of {s t u : State} (h : ∀ d, syncLostAt s t d) (hc : u.claims.desks = t.claims.desks)
    (hl : u.link.deskFlags = t.link.deskFlags) : ∀ d, syncLostAt s u d := by
  intro d
  have := h d
  simpa [syncLostAt, getDesk, deskFlagSet, hc, hl] using this

/-! ### Join state -/

@[simp] theorem setJoin_deskFlags (j : JoinState) (s : State) : (setJoin j s).link.deskFlags = s.link.deskFlags := by
  unfold setJoin; split
  · rfl
  · split <;> simp

theorem setJoin_join (j : JoinState) (s : State) : (setJoin j s).member.join = j := by
  unfold setJoin
  by_cases h : s.member.join = j
  · simp [h]
  · by_cases h' : s.member.join = .member
    · rw [h'] at h; simp [h, h']
    · simp [h, h']

@[simp] theorem setJoin_presence (j : JoinState) (s : State) : (setJoin j s).member.presence = s.member.presence := by
  unfold setJoin
  by_cases h : s.member.join = j
  · simp [h]
  · by_cases h' : s.member.join = .member
    · rw [h'] at h; simp [h, h']
    · simp [h, h']

/-! ### Entries -/

theorem huntEntered_enterHunt (s : State) : huntEntered s (enterHunt s) := by
  have hj : ∀ t, (joinAtHunt t).link.deskFlags = t.link.deskFlags ∧ (joinAtHunt t).claims = t.claims
      ∧ (joinAtHunt t).air = t.air ∧ (joinAtHunt t).bus = t.bus ∧ (joinAtHunt t).ident = t.ident
      ∧ (joinAtHunt t).sync = t.sync
      ∧ (joinAtHunt t).member.join = (if t.member.join = .mismatch ∨ t.member.join = .fenced then t.member.join else .listen) := by
    intro t
    unfold joinAtHunt
    cases h : t.member.join <;> simp [clearAnnounce, setJoin_join, h]
  have hoff := airIsOff_loseSync s
  refine ⟨?_, ?_, ?_, ?_, ?_, ?_, ?_, ?_, ?_, ?_, ?_, ?_, ?_, ?_, ?_, ?_, ?_, ?_⟩
  · simp [enterHunt, loseSync]
  · simpa [airIsOff, enterHunt, huntBus, (hj _).2.2.1, (hj _).2.2.2.1, (hj _).2.2.2.2.1] using hoff
  · refine syncLostAt_of (syncLostAt_loseSync s) ?_ ?_
    · simp [enterHunt, huntClaims, (hj _).2.1]
    · simp [enterHunt, (hj _).1]
  · simp [enterHunt, Presence.cleared]
  · simp [enterHunt, (hj _).2.2.2.2.2.2, loseSync]
  · simp [enterHunt, huntBus]
  · simp [enterHunt, huntBus]
  · simp [enterHunt, huntBus]
  · simp [enterHunt, History.reset]
  · simp [enterHunt, History.reset]
  · simp [enterHunt, huntClaims]
  · simp [enterHunt, huntClaims]
  · simp [enterHunt, huntClaims]
  · simp [enterHunt, huntClaims]
  · simp [enterHunt, huntClaims]
  · simp [enterHunt, huntClaims]
  · exact siteFlagSet_raiseSite .syncChange _
  · apply State.eq_of_blocks <;> simp [enterHunt, loseSync]

theorem joinAtActive_spec (s : State) :
    (joinAtActive s).member = joinAfterEntry s.member ∧ (joinAtActive s).clamp = s.clamp
    ∧ (joinAtActive s).link.deskFlags = s.link.deskFlags ∧ (joinAtActive s).bus = s.bus
    ∧ (joinAtActive s).sync = s.sync ∧ (joinAtActive s).claims = s.claims := by
  unfold joinAtActive joinAfterEntry
  by_cases h : s.member.join = .listen <;> simp [h, setJoin, clearAnnounce]

theorem timingEntered_enterTiming (s : State) : timingEntered s (enterTiming s) := by
  refine ⟨?_, ?_, siteFlagSet_raiseSite .syncChange _, ?_⟩
  · simp [enterTiming, ownCount, ownStation]
  · simp [enterTiming, (joinAtActive_spec _).1]
  · apply State.eq_of_blocks <;> simp [enterTiming, (joinAtActive_spec _).2.1]

theorem holdoverEntered_enterHoldover (s : State) : holdoverEntered s (enterHoldover s) := by
  have hj : ∀ t, (joinAtHoldover t).link.deskFlags = t.link.deskFlags ∧ (joinAtHoldover t).claims = t.claims
      ∧ (joinAtHoldover t).air = t.air ∧ (joinAtHoldover t).bus = t.bus ∧ (joinAtHoldover t).ident = t.ident
      ∧ (joinAtHoldover t).clamp = t.clamp
      ∧ (joinAtHoldover t).member.join = (if t.member.join = .announce then .listen else t.member.join) := by
    intro t
    unfold joinAtHoldover
    by_cases h : t.member.join = .announce <;> simp [h, clearAnnounce, setJoin]
  have hoff := airIsOff_endHoldings .syncLost (airIsOff_airOff s)
  have e : ∀ d, getDesk (airOff s) d = getDesk s d := fun d => getDesk_of_claims (by simp) d
  refine ⟨?_, ?_, ?_, ?_, ?_, ?_, ?_⟩
  · simp [enterHoldover]
  · simpa [airIsOff, enterHoldover, (hj _).2.2.1, (hj _).2.2.2.1, (hj _).2.2.2.2.1] using hoff
  · intro d
    have hd : getDesk (enterHoldover s) d = getDesk (endHoldings .syncLost (airOff s)) d :=
      getDesk_of_claims (by simp [enterHoldover, (hj _).2.1]) d
    refine ⟨fun h => ?_, fun h => ?_⟩
    · have h' : hasState (airOff s) d .holding := by simpa [hasState, e] using h
      have := ended_record (getDesk s d) .syncLost (by decide) (by decide)
      rw [hd, getDesk_endHoldings, if_pos h', e]
      refine ⟨this.1, this.2.1, this.2.2, ?_⟩
      have := deskFlagSet_endHoldings .syncLost h'
      simpa [deskFlagSet, enterHoldover, (hj _).1] using this
    · have h' : ¬ hasState (airOff s) d .holding := by simpa [hasState, e] using h
      rw [hd, getDesk_endHoldings, if_neg h', e]
  · simp [enterHoldover, (hj _).2.2.2.2.2.2]
  · simp only [enterHoldover, joinAtHoldover]
    split <;> simp [clearAnnounce]
  · exact siteFlagSet_raiseSite .syncChange _
  · apply State.eq_of_blocks <;> simp [enterHoldover, (hj _).2.2.2.2.2.1]

/-- The entry to LOCKED, from a state whose claims may just have been withdrawn. -/
theorem lockedEntered_enterLocked (c : Count) (n : Station) {s u : State}
    (hu : u = { s with claims := u.claims, link := u.link, sync := u.sync })
    (hs : u.sync = { s.sync with huntRun := u.sync.huntRun }) : lockedEntered c n s (enterLocked c n u) := by
  have hb : u.bus = s.bus := by rw [hu]
  have hm : u.member = s.member := by rw [hu]
  refine ⟨?_, ?_, ?_, siteFlagSet_raiseSite .syncChange _, ?_⟩
  · simp only [enterLocked, raiseSite_frame, (joinAtActive_spec _).2.2.2.2.1, setBus_sync, setSync_sync]
    rw [hs]
  · simp only [enterLocked, raiseSite_frame, (joinAtActive_spec _).2.2.2.1, setBus_bus, setSync_bus, hb]
  · simp only [enterLocked, raiseSite_frame, (joinAtActive_spec _).1, setBus_member, setSync_member, hm]
  · have hp : u.power = s.power ∧ u.setup = s.setup ∧ u.pool = s.pool ∧ u.air = s.air ∧ u.ident = s.ident
        ∧ u.clamp = s.clamp ∧ u.guard = s.guard ∧ u.history = s.history ∧ u.freeIx = s.freeIx
        ∧ u.pending = s.pending := by
      rw [hu]; simp
    apply State.eq_of_blocks <;> simp [enterLocked, (joinAtActive_spec _).2.1, hp]

theorem enterLocked_claims (c : Count) (n : Station) (s : State) : (enterLocked c n s).claims = s.claims := by
  simp [enterLocked]

theorem enterLocked_deskFlags (c : Count) (n : Station) (s : State) :
    (enterLocked c n s).link.deskFlags = s.link.deskFlags := by
  simp [enterLocked, (joinAtActive_spec _).2.2.1]

theorem siteFlagSet_setJoin_fenced {s : State} (h : s.member.join ≠ .fenced) : siteFlagSet (setJoin .fenced s) .fenced := by
  unfold setJoin
  rw [if_neg h]
  exact siteFlagSet_raiseSite .fenced _

/-- The entry to FENCED before a timing station goes on to HUNT. -/
def fencedStop (s : State) : State :=
  setJoin .fenced ((loseSync s).setBus { (loseSync s).bus with ownSlotDriven := false, syncLatch := none })

theorem fencedStop_spec {s : State} (h : s.member.join ≠ .fenced) :
    (fencedStop s).member.join = .fenced ∧ (fencedStop s).member.standing = 0 ∧ airIsOff (fencedStop s)
    ∧ (∀ d, syncLostAt s (fencedStop s) d) ∧ (fencedStop s).bus.ownSlotDriven = false
    ∧ (fencedStop s).bus.syncLatch = none ∧ siteFlagSet (fencedStop s) .fenced
    ∧ (fencedStop s).sync = s.sync ∧ (fencedStop s).bus.fenceRun = s.bus.fenceRun := by
  have hm : (loseSync s).member = s.member := by simp [loseSync]
  refine ⟨?_, ?_, ?_, ?_, ?_, ?_, ?_, ?_, ?_⟩
  · unfold fencedStop; exact setJoin_join _ _
  · unfold fencedStop setJoin
    by_cases h' : s.member.join = .member <;> simp [hm, h, h']
  · have := airIsOff_loseSync s
    simpa [airIsOff, fencedStop] using this
  · exact syncLostAt_of (syncLostAt_loseSync s) (by simp [fencedStop]) (by simp [fencedStop])
  · simp [fencedStop]
  · simp [fencedStop]
  · unfold fencedStop; exact siteFlagSet_setJoin_fenced (by simpa [hm] using h)
  · simp [fencedStop, loseSync]
  · simp [fencedStop, loseSync, airOff, endIdent]

/-- What the entry to FENCED leaves (R35), from any join state but FENCED. -/
theorem enterFenced_spec {s : State} (h : s.member.join ≠ .fenced) :
    (enterFenced s).member.join = .fenced ∧ (enterFenced s).member.standing = 0 ∧ airIsOff (enterFenced s)
    ∧ (∀ d, syncLostAt s (enterFenced s) d) ∧ (enterFenced s).bus.ownSlotDriven = false
    ∧ (enterFenced s).bus.syncLatch = none ∧ siteFlagSet (enterFenced s) .fenced
    ∧ (s.sync.state = .timing → (enterFenced s).sync.state = .hunt ∧ (enterFenced s).bus.fenceRun = 0)
    ∧ (s.sync.state ≠ .timing → (enterFenced s).sync = s.sync ∧ (enterFenced s).bus.fenceRun = s.bus.fenceRun) := by
  have hu := fencedStop_spec h
  by_cases ht : s.sync.state = .timing
  · have e : enterFenced s = enterHunt (fencedStop s) := by simp [enterFenced, fencedStop, ht]
    have hh := huntEntered_enterHunt (fencedStop s)
    have hm : (enterHunt (fencedStop s)).member = { (fencedStop s).member with presence := .all .cleared } := by
      have : (loseSync (fencedStop s)).member = (fencedStop s).member := by simp [loseSync]
      simp [enterHunt, joinAtHunt, this, hu.1]
    have hfl : ∀ d g, deskFlagSet (fencedStop s) d g → deskFlagSet (enterHunt (fencedStop s)) d g := by
      intro d g hg
      have h1 : deskFlagSet (loseSync (fencedStop s)) d g :=
        deskFlagSet_withdrawAll_of _ (deskFlagSet_endHoldings_of _ (by simpa [deskFlagSet] using hg))
      have : (joinAtHunt (loseSync (fencedStop s))).link.deskFlags = (loseSync (fencedStop s)).link.deskFlags := by
        unfold joinAtHunt; split <;> simp [clearAnnounce]
      simpa [deskFlagSet, enterHunt, this] using h1
    have hsf : siteFlagSet (enterHunt (fencedStop s)) .fenced := by
      have h1 : siteFlagSet (loseSync (fencedStop s)) .fenced := by
        simpa [siteFlagSet, siteFlags_loseSync] using hu.2.2.2.2.2.2.1
      have h2 : (joinAtHunt (loseSync (fencedStop s))).link = (loseSync (fencedStop s)).link := by
        have : (loseSync (fencedStop s)).member = (fencedStop s).member := by simp [loseSync]
        simp [joinAtHunt, this, hu.1]
      refine siteFlagSet_raiseSite_of _ ?_
      simpa [siteFlagSet, h2] using h1
    have hod : (enterHunt (fencedStop s)).bus.ownSlotDriven = (fencedStop s).bus.ownSlotDriven := by
      simp [enterHunt, huntBus, joinAtHunt, loseSync, airOff, endIdent, hu.1]
    have hsl : (enterHunt (fencedStop s)).bus.syncLatch = (fencedStop s).bus.syncLatch := by
      simp [enterHunt, huntBus, joinAtHunt, loseSync, airOff, endIdent, hu.1]
    rw [e]
    generalize enterHunt (fencedStop s) = w at *
    generalize fencedStop s = u at *
    obtain ⟨hu1, hu2, hu3, hu4, hu5, hu6, hu7, hu8, hu9⟩ := hu
    unfold huntEntered at hh
    obtain ⟨hh1, hh2, hh3, hh4, hh5, hh6, hh7⟩ := hh
    refine ⟨by rw [hm]; exact hu1, by rw [hm]; exact hu2, hh2, ?_, hod.trans hu5, hsl.trans hu6, hsf,
      fun _ => ⟨by rw [hh1], hh6⟩, fun hn => absurd ht hn⟩
    intro d
    have hs := hu4 d
    have hd := hh3 d
    have hno : ¬ hasState u d .holding ∧ ¬ hasState u d .waiting := by
      by_cases hc : hasState s d .holding ∨ hasState s d .waiting
      · have := (hs.1 hc).1; simp [hasState, this, idleRecord]
      · have := hs.2.2.2 (fun h => hc (.inl h)) (fun h => hc (.inr h))
        simp only [hasState, this] at hc ⊢
        exact ⟨fun h => hc (.inl h), fun h => hc (.inr h)⟩
    have hk := hd.2.2.2 hno.1 hno.2
    refine ⟨fun hc => ?_, fun hc => hfl _ _ (hs.2.1 hc), fun hc => hfl _ _ (hs.2.2.1 hc), fun h1 h2 => ?_⟩
    · rw [hk]; exact hs.1 hc
    · rw [hk]; exact hs.2.2.2 h1 h2
  · have e : enterFenced s = fencedStop s := by simp [enterFenced, fencedStop, ht]
    rw [e]
    generalize fencedStop s = u at *
    obtain ⟨hu1, hu2, hu3, hu4, hu5, hu6, hu7, hu8, hu9⟩ := hu
    exact ⟨hu1, hu2, hu3, hu4, hu5, hu6, hu7, fun h' => absurd h' ht, fun _ => ⟨hu8, hu9⟩⟩

/-! ### A frame start at which no wait runs out -/

/-- What the frame timing leaves of the sync block at a frame start at which no wait runs out (R19, R22, R27). -/
def syncAdvanced (s : State) : Sync :=
  { s.sync with
    count := s.sync.count.map (· + 1)
    huntRun := if s.sync.state = .hunt then min (s.sync.huntRun + 1) (16 + 4 * s.setup.station.val) else s.sync.huntRun
    holdoverRun := if s.sync.state = .holdover then s.sync.holdoverRun + 1 else s.sync.holdoverRun }

theorem timingStage_of_waitGoesOn {s : State} (h : waitGoesOn s) : timingStage s = s.setSync (syncAdvanced s) := by
  obtain ⟨h1, h2⟩ := h
  cases hs : s.sync.state <;>
    simp [timingStage, advanceCount, hs, huntStep, holdoverStep, syncAdvanced, ownStation, Config.huntLimit,
      Config.holdoverLimit, capAdd]
  · intro hl hj
    rcases h1 hs with h | h
    · omega
    · exact absurd hj h
  · have h := h2 hs
    rw [if_neg (by omega), Nat.min_eq_left (by omega)]

/-- A frame start at which no wait runs out is the frame's work on the advanced sync block. -/
theorem exec_frameStart_of_waitGoesOn {s : State} (hr : frameRuns s = true) (h : waitGoesOn s) (b : Bool) :
    exec (.frameStart b) s = .next (frameWork b (s.setSync (syncAdvanced s))) := by
  simp [exec, execFrameStart, whenRuns, hr, frameStarts, timingStage_of_waitGoesOn h]

end Sys2Proof
end

