-- ==== Sys2Proof/Tests/Slice0.lean ====
section
/-! SUPPORT. Tests of the model: ill-formed commands, values the manual works out, small steps; and for each statement with hypotheses a state and operands that meet them. -/

set_option Elab.async false

namespace Sys2Proof.Tests

open Machine

/-! ### Ill-formed commands, and the well-formed ones beside them -/

theorem test_wf_read : (Instr.readTransaction 0 false).wellFormed = false ∧ (Instr.readTransaction 1 false).wellFormed = true := by decide

theorem test_wf_badRequest_of_good_frame : (Instr.badRequest [0x12, 0, 0, 0] false).wellFormed = false := by decide

theorem test_wf_badRequest_empty : (Instr.badRequest [] false).wellFormed = false ∧ (Instr.badRequest [0] false).wellFormed = false := by decide

theorem test_wf_badRequest : (Instr.badRequest [0x12, 0, 0, 1, 0] false).wellFormed = true := by decide

def cell (n : Nat) : Cell := .all (BitVec.ofNat 16 n)

def cells (n : Nat) : List Cell := List.replicate n (cell 1000)

theorem test_wf_push : (Instr.push 0 0 0 (cells 21) false).wellFormed = false ∧ (Instr.push 0 0 0 (cells 20) false).wellFormed = true := by decide

theorem test_wf_loadClip : (Instr.loadClip 0 (cells 21) false).wellFormed = false ∧ (Instr.loadClip 0 (cells 20) false).wellFormed = true := by decide

theorem test_wf_dischargeEnd :
    (Instr.dischargeEnd 65536).wellFormed = false ∧ (Instr.dischargeEnd 65535).wellFormed = true := by decide

/-! ### Values the manual works out -/

theorem test_crc_of_digits : crcBytes [0x31, 0x32, 0x33, 0x34, 0x35, 0x36, 0x37, 0x38, 0x39] = 0x29B1 := by decide +kernel

/-- R60: the digest of an empty snapshot. -/
theorem test_empty_view_digest : crcBytes (viewBytes none []) = 0 := by decide +kernel

/-- Table 6-3. -/
theorem test_trim_table :
    scaleSample 3 1000 = 812 ∧ scaleSample 3 (BitVec.ofInt 16 (-1000)) = BitVec.ofInt 16 (-812)
    ∧ scaleSample 1 (BitVec.ofInt 16 (-7)) = BitVec.ofInt 16 (-6) ∧ scaleSample 15 32767 = 2047
    ∧ scaleSample 15 (BitVec.ofInt 16 (-32768)) = BitVec.ofInt 16 (-2048)
    ∧ scaleSample 0 (BitVec.ofInt 16 (-32768)) = BitVec.ofInt 16 (-32768) := by decide +kernel

/-- Table 1-3: the ends of slots 0 and 7. -/
theorem test_slot_ends : Config.slotEnd 0 = 255 ∧ Config.slotEnd 7 = 1767 := by decide

/-- R5: sync fields of count 1 and station 3, written out from Table 1-2. -/
theorem test_sync_bits : syncBits 1 3 = 0b1101000101001011000000000000000000000001011#43 := by decide +kernel

/-- Table 1-2: a claim record of a CONTROL desk, BARRED for TIMEOUT with stamp 0, written out. -/
theorem test_record_bits : recordBits ⟨.barred, .control, .timeout, 0⟩ = 0b10010100000000000000000000000000#32 := by decide +kernel

theorem test_record_of_code_5 : recordOf 0b10110100000000000000000000000001#32 = .absent := by decide +kernel

/-- R41: an age across the wrap of the count, and one of half the range. -/
theorem test_ages : age 2 0xFFFFFF = 3 ∧ age 8388608 0 = 0 ∧ age 8388607 0 = 8388607 := by decide +kernel

/-! ### Small states -/

/-- Up, the setup still open. -/
def up : State := { State.reset with power := ⟨.up, 4096⟩ }

/-- Up, closed, the timing station of its site and MEMBER with full standing, desk 0 enabled and the pool formed. -/
def site : State :=
  { up with
    setup := { up.setup with closed := true, digest := some 7 }
    sync := { up.sync with state := .timing, timingRunning := true, count := some 100, timingStation := some 0 }
    member := { up.member with join := .member, announceRun := 16, standing := 8 }
    clamp := { up.clamp with seen := .clear, settleRun := 10 }
    bus := { up.bus with readback := .good, judge := (Eight.all Judgement.stale).set 0 .own }
    pool := { up.pool with size := some 512, free := 512, quota := (Four.all none).set 0 (some 100) } }

def withDesk (x : RecState) (r : EndReason) (s : State) : State :=
  setDesk s 0 { getDesk s 0 with record := ⟨x, .normal, r, 0⟩, stampSet := true }

def open0 : State := withDesk .idle .noReason site
def waiting0 : State := withDesk .waiting .noReason site
def holding0 : State := withDesk .holding .noReason site
def barred0 : State := withDesk .barred .timeout site

def onAir : State := { holding0 with air := { holding0.air with state := .on, purpose := some .desk, serving := some 0 } }

def locked : State := { site with sync := { site.sync with state := .locked, timingStation := some 3 } }
def holdover : State := { site with sync := { site.sync with state := .holdover, timingStation := none } }
def hunting : State :=
  { site with sync := { site.sync with state := .hunt, timingStation := none }, member := { site.member with join := .listen } }

def queued (bs : List Block) (cur : Option Current) (cursor : Option Seq) (s : State) : State :=
  setQueue 0 { getQueue s 0 with queue := bs, current := cur, cursor := cursor } s

def block (n : Seq) (k : Nat) : Block := ⟨n, cells k, 0, false⟩

def guardIn (x : GuardPhase) (s : State) : State := { s with guard := { s.guard with on := true, phase := x } }

/-! ### Small steps -/

def Out.stateIs (o : Out) (t : State) : Bool :=
  match o with
  | .next s => s == t
  | _ => false

def after (s : State) (is : List Instr) : State :=
  is.foldl (fun s i => match exec i s with | .next t => t | _ => s) s

theorem test_start_up : (after State.reset [.resetEnd 5 1, .settleEnd]).power = ⟨.up, 16384⟩
    ∧ (after State.reset [.resetEnd 5 1, .settleEnd]).setup.station = 5 := by decide +kernel

theorem test_settle_counts : (after { State.reset with power := ⟨.settling, 0⟩ } []).power.settleCount = 0
    ∧ step { State.reset with power := ⟨.settling, 0⟩ } = .next { State.reset with power := ⟨.settling, 1⟩ } :=
  ⟨rfl, rfl⟩

/-- A setup closes into HUNT and LISTEN with SYNC_CHANGE. -/
theorem test_close :
    let s := after up [.setField 2 1024 false, .setField 3 100 false, .closeSetup false]
    s.setup.closed = true ∧ s.sync.state = .hunt ∧ s.member.join = .listen ∧ s.link.siteFlags = 1 ∧ s.pool.free = 1024
      ∧ s.pool.quota.get 0 = some 100 := by decide +kernel

/-- Table 2-2: station 0 becomes the timing station at its sixteenth frame start. -/
theorem test_hunt_wait :
    let s := after up [.setField 2 1024 false, .setField 3 100 false, .closeSetup false]
    let t := after s (List.replicate 16 (.frameStart false))
    (after s (List.replicate 15 (.frameStart false))).sync.state = .hunt ∧ t.sync.state = .timing ∧ t.sync.count = some 0
      ∧ t.member.join = .announce ∧ t.member.announceRun = 1 ∧ t.bus.ownSlotDriven = true := by decide +kernel

/-- A claim, published at a frame start, is granted at the snapshot complete, and LEAD begins in the next frame. -/
theorem test_grant :
    let s := after open0 [.claim 0 false, .frameStart false, .slotReceived 0 0]
    let t := after { s with bus := { s.bus with readback := .good } } [.snapshotComplete .first false]
    hasState s 0 .waiting ∧ t.claims.verdict = .grant ∧ hasState t 0 .holding ∧ t.link.deskFlags.get 0 = 1
      ∧ (after t [.frameStart false]).air.state = .lead := by decide +kernel

/-- The last cell of a release-after block ends the over (R111). -/
theorem test_release_after :
    let s := queued [] (some ⟨9, cells 1, 0, true, 0⟩) (some 9) onAir
    let t := after s [.frameStart false]
    (getDesk t 0).record = ⟨.idle, .normal, .done, 0⟩ ∧ t.air.state = .tail ∧ (getQueue t 0).cursor = some 10
      ∧ t.pool.free = 513 := by decide +kernel

theorem test_clamp_ends_holding :
    let t := after onAir [.keySample false true false false]
    (getDesk t 0).record = ⟨.idle, .normal, .clamped, 0⟩ ∧ t.air.state = .off ∧ t.clamp.seen = .clamped := by decide +kernel

/-- R120 at a sequencer already OFF, and at one in TAIL. -/
theorem test_clamp_runs :
    let s := { site with air := { site.air with leadRun := 40, tailRun := 10 } }
    let t := after s [.keySample false true false false]
    let u := after { s with air := { s.air with state := .tail } } [.keySample false true false false]
    s.air.state = .off ∧ t.air.leadRun = 40 ∧ t.air.tailRun = 10 ∧ u.air.state = .off ∧ u.air.leadRun = 0
      ∧ u.air.tailRun = 0 := by decide +kernel

/-! ### The hypotheses of the statements are met -/

theorem test_met_StepRunsFrontCommand : ({ up with pending := [.siteEvents false] } : State).pending = .siteEvents false :: [] := rfl

theorem test_met_IdleStepIsOneReferenceCycle :
    up.pending = [] ∧ ({ up with power := ⟨.settling, 4095⟩ } : State).power.phase = .settling
    ∧ (guardIn .chargeRef site).guard.phase = .chargeRef ∧ (guardIn .dischargeMeas site).guard.phase = .dischargeMeas
    ∧ site.guard.phase = .off := by decide +kernel

theorem test_met_ResetAndStartUp :
    State.reset.power.phase = .inReset ∧ ({ up with power := ⟨.settling, 4096⟩ } : State).power.phase = .settling := by decide +kernel

theorem test_met_NothingBeforeItsTime :
    State.reset.power.phase ≠ .up ∧ isTransaction (.siteEvents false) = true ∧ up.setup.closed = false
    ∧ isPoint (.frameStart false) = true ∧ isPoint .orphan = true := by decide +kernel

theorem test_met_Transactions :
    linkUp up = true ∧ up.link.response = none ∧ badFraming [0xFF] = true
    ∧ (∃ r : Response, (after up [.siteEvents false]).link.response = some r ∧ 4 + r.body.length ≤ 6 ∧ 5 < 4 + r.body.length) :=
  ⟨by decide, by decide, by decide, ⟨.ok, [0, 0]⟩, by decide +kernel, by decide, by decide⟩

/-- R165: a request whose CSL assertion falls in the busy window of the one before shifts ones; any other shifts the response
that is pending. -/
theorem test_busy_window :
    isRequest (.siteEvents true) = true ∧ linkUp up = true
    ∧ (after up [.siteEvents, .siteEvents true]).link.miso = [0xFF, 0xFF, 0xFF, 0xFF]
    ∧ (after up [.siteEvents, .siteEvents false]).link.miso = [0, 0, 0, 2]
    ∧ (after up [.siteEvents, .badRequest [0x12, 0] true]).link.miso = [0xFF, 0xFF]
    ∧ (after up [.siteEvents, .badRequest [0x12, 0] false]).link.miso = [0, 0] := by decide +kernel

theorem test_met_RequestFrameRoundTrip :
    isRequest (.push 3 0xFFFF 0xFF (cells 20) false) = true ∧ (Instr.push 3 0xFFFF 0xFF (cells 20) false).wellFormed = true := by decide +kernel

theorem test_met_SelectorOutOfRange :
    linkUp up = true ∧ deskSelector (.claim 4 false) = some 4 ∧ 4 ≤ (4 : Byte).toNat ∧ 5 ≤ (5 : Byte).toNat := by decide +kernel

theorem test_met_SetWritesOneField :
    linkUp up = true ∧ site.setup.closed = true ∧ up.setup.closed = false ∧ fieldValue up 14 = some 40
    ∧ fieldValue up 2 = none ∧ up.pool.size ≠ some 512 := by decide +kernel

/-- The ends of some ranges of Table 11-2. -/
theorem test_field_ranges :
    fieldRange 1 1 ∧ fieldRange 1 15 ∧ ¬ fieldRange 1 0 ∧ ¬ fieldRange 1 16 ∧ fieldRange 2 2048 ∧ ¬ fieldRange 14 41
    ∧ fieldRange 19 50 ∧ ¬ fieldRange 20 50 :=
  ⟨by simp [fieldRange], by simp [fieldRange], by simp [fieldRange], by simp [fieldRange], by simp [fieldRange],
    by simp [fieldRange], by simp [fieldRange], by simp [fieldRange]⟩

def formed : State := { up with pool := { up.pool with size := some 512, free := 512 } }

theorem test_met_LoadClipWritesTheClip :
    linkUp formed = true ∧ up.pool.size = none ∧ formed.setup.closed = false ∧ formed.pool.size ≠ none
    ∧ (cells 20).length ≤ 20 ∧ (399 : Word16).toNat + (cells 1).length ≤ 400
    ∧ 400 < (399 : Word16).toNat + (cells 2).length := by decide +kernel

def closable : State := { formed with setup := { formed.setup with quota := .all 20 } }

theorem test_met_CloseSetupRefused :
    linkUp formed = true ∧ formed.setup.closed = false ∧ up.pool.size = none ∧ deskEnabled formed 0 = true
    ∧ formed.setup.quota.get 0 < 20 ∧ (∀ d, deskEnabled closable d = true → 20 ≤ closable.setup.quota.get d)
    ∧ 512 < enabledSum { closable with setup := { closable.setup with quota := .all 513 } }
    ∧ ({ closable with setup := { closable.setup with heatTrip := 160 } } : State).setup.heatClear ≤ 160 := by decide +kernel

theorem test_met_CloseSetupStartsTheStation :
    linkUp closable = true ∧ closable.setup.closed = false ∧ closable.pool.size = some 512
    ∧ (∀ d, deskEnabled closable d = true → 20 ≤ closable.setup.quota.get d)
    ∧ enabledSum closable + closable.pool.clip.length ≤ 512 ∧ closable.setup.heatTrip < closable.setup.heatClear
    ∧ closable.guard.on = false ∧ closable.member.join = .unset := by decide +kernel

theorem test_met_GuardOnRequest :
    linkUp site = true ∧ up.setup.closed = false ∧ site.setup.closed = true ∧ site.guard.on = false
    ∧ (guardIn .idle site).guard.on = true := by decide +kernel

/-- R115 in RELEASE with NOW and in CLOSE_DESK: desk 0 served in ON, and in IDENT. -/
theorem test_ending_told :
    let s := { onAir with air := { onAir.air with state := .ident } }
    (after onAir [.release 0 0]).air.state = .tail ∧ (after onAir [.closeDesk 0]).air.state = .tail
      ∧ (after s [.release 0 0]).air.state = .ident ∧ (after s [.closeDesk 0]).air.holdingEnded = true := by decide +kernel

/-- OpenDesk, CloseDesk, Claim, Release, Flush. -/
theorem test_met_desk_requests :
    linkUp site = true ∧ (3 : Byte).toNat = (3 : Desk).val ∧ site.setup.closed = true ∧ deskEnabled site 0 = true
    ∧ deskEnabled site 1 = false ∧ hasState site 0 .absent ∧ hasState open0 0 .idle ∧ hasState waiting0 0 .waiting
    ∧ hasState holding0 0 .holding ∧ hasState barred0 0 .barred ∧ site.member.join = .member ∧ site.member.standing = 8
    ∧ ({ site with member := { site.member with join := .fenced } } : State).member.join = .fenced := by decide +kernel

def fullQueue : State := queued ((List.range 32).map fun n => block (BitVec.ofNat 16 n) 1) none (some 0) open0

theorem test_met_PushRefused :
    (cells 20).length = 20 ∧ 20 < (cells 21).length ∧ (getQueue fullQueue 0).holds 31 = true
    ∧ (getQueue fullQueue 0).holds 0x8000 = false ∧ (getQueue fullQueue 0).isLate 0x8000 = true
    ∧ (getQueue fullQueue 0).holds 0x7FFF = false ∧ (getQueue fullQueue 0).isLate 0x7FFF = false
    ∧ 32 < (getQueue fullQueue 0).queue.length + 1 ∧ hasState fullQueue 0 .idle := by decide +kernel

def spareQueue : State := queued ((List.range 31).map fun n => block (BitVec.ofNat 16 n) 1) none (some 0) open0

theorem test_met_PushAccepted :
    linkUp spareQueue = true ∧ spareQueue.setup.closed = true ∧ spareQueue.member.join ≠ .fenced
    ∧ ¬ hasState spareQueue 0 .absent ∧ ¬ hasState spareQueue 0 .barred ∧ (getQueue spareQueue 0).holds 31 = false
    ∧ (getQueue spareQueue 0).isLate 31 = false ∧ (getQueue spareQueue 0).queue.length + 1 ≤ 32
    ∧ (getQueue spareQueue 0).cells + (cells 20).length ≤ quotaOf spareQueue 0 := by decide +kernel

theorem test_met_Trim : (15 : Byte).toNat ≤ 15 ∧ 15 < (16 : Byte).toNat ∧ (1 : Byte).toNat ≤ 1 := by decide

theorem test_met_EventsReadAndClear :
    ¬ hasState open0 0 .barred ∧ hasState barred0 0 .barred ∧ (getDesk barred0 0).barRun < barred0.setup.coolOff
    ∧ (let s := setDesk barred0 0 { getDesk barred0 0 with barRun := 5000 };
      s.setup.coolOff ≤ (getDesk s 0).barRun) := by decide +kernel

theorem test_met_ReportsChangeNothing :
    linkUp onAir = true ∧ onAir.air.serving = some 0 ∧ site.air.serving ≠ some 0 ∧ site.setup.closed = true
    ∧ linkUp up = true ∧ up.setup.closed = false ∧ up.air.serving ≠ some 0 ∧ site.history.ring.length ≤ 8 := by decide +kernel

/-- R121, section 10.8: DESK_STATUS before the close says OFF and no voice sent, and uses up no free value. -/
theorem test_desk_status_before_close :
    deskAirReport up 0 = [0, 0] ∧ (after up [.deskStatus 0]).freeIx = up.freeIx
    ∧ (after site [.deskStatus 0]).freeIx = site.freeIx + 1 := by decide +kernel

def control0 : State := setDesk site 0 { getDesk site 0 with record := ⟨.idle, .control, .noReason, 0⟩ }

theorem test_met_ClampRequests :
    (getDesk open0 0).record.cls = .normal ∧ ¬ hasState control0 0 .absent ∧ (getDesk control0 0).record.cls = .control
    ∧ control0.clamp.causes &&& 0x80 = 0
    ∧ ({ control0 with clamp := { control0.clamp with causes := 0x80 } } : State).clamp.causes &&& 0x80 ≠ 0 := by decide +kernel

theorem test_met_MaskRequest :
    (63 : Word16).toNat < 64 ∧ 64 ≤ (64 : Word16).toNat ∧ (2047 : Word16).toNat < 2048 ∧ 2048 ≤ (2048 : Word16).toNat := by decide

theorem test_met_WireFormsReadBack :
    (⟨3, .member, some ((100 : Count).extractLsb' 0 8), 7, 0, 0, 0, .all .absent⟩ : OwnSlot).echo
      = some ((100 : Count).extractLsb' 0 8)
    ∧ (2 : BitVec 3).toNat ≤ 2 := by decide +kernel

/-- FrameStartAdvances, OwnSlotLatched, and the frame starts of FrameStartPublishesRecords and FrameStartPutsOnAir. -/
theorem test_met_frame_start :
    frameRuns site = true ∧ site.sync.state = .timing ∧ frameRuns locked = true ∧ locked.sync.state = .locked
    ∧ site.sync.count = some 100 ∧ (guardIn .idle site).guard.beginDue = false ∧ (guardIn .idle site).guard.since + 1 < 100
    ∧ site.air.state = .off ∧ site.air.pendingStart = none ∧ site.air.pendingIdent = none ∧ site.air.withdrawDue = false := by decide +kernel

/-- The last frame starts at which neither wait runs out, and one in HUNT at the limit of a station that is not LISTEN. -/
theorem test_met_waitGoesOn :
    waitGoesOn site ∧ frameRuns hunting = true ∧ waitGoesOn { hunting with sync := { hunting.sync with huntRun := 14 } }
    ∧ waitGoesOn { hunting with
        sync := { hunting.sync with huntRun := 16 }, member := { hunting.member with join := .mismatch } }
    ∧ frameRuns holdover = true ∧ waitGoesOn { holdover with sync := { holdover.sync with holdoverRun := 2 } } := by
  simp only [waitGoesOn]; decide +kernel

/-- R48: the last cell of a release-after block, with its report taken first and taken after the publication. -/
theorem test_report_order :
    let s := queued [] (some ⟨9, cells 1, 0, true, 0⟩) (some 9) onAir
    let t := after s [.frameStart true]
    let u := after s [.frameStart false]
    hasState s 0 .holding ∧ (getDesk s 0).endPub = none ∧ s.air.serving = some 0
      ∧ (getDesk t 0).published = ⟨.idle, .normal, .done, 0⟩ ∧ (getDesk t 0).endPub = none
      ∧ (getDesk u 0).published.state = .holding ∧ (getDesk u 0).endPub = some ⟨.idle, .normal, .done, 0⟩
      ∧ hasState (after onAir [.frameStart true]) 0 .holding := by decide +kernel

theorem test_met_Publication :
    (getDesk open0 0).endPub = none ∧ hasState waiting0 0 .waiting ∧ (getDesk waiting0 0).stampSet = true
    ∧ (let s := setDesk waiting0 0 { getDesk waiting0 0 with stampSet := false, endPub := some ⟨.idle, .normal, .done, 0⟩ };
      (getDesk s 0).stampSet = false ∧ (getDesk s 0).endPub = some ⟨.idle, .normal, .done, 0⟩)
    ∧ (getDesk barred0 0).barRun + 1 < barred0.setup.coolOff
    ∧ (let s := setDesk barred0 0 { getDesk barred0 0 with barRun := 4999 };
      s.setup.coolOff ≤ (getDesk s 0).barRun + 1 ∧ (getDesk s 0).record.reason ≠ .starved)
    ∧ (getDesk (withDesk .barred .starved site) 0).ack = false := by decide +kernel

theorem test_met_FrameStartPutsOnAir :
    (let s := queued [] (some ⟨9, cells 2, 3, false, 0⟩) (some 9) onAir;
      frameRuns s = true ∧ s.member.join = .member ∧ s.air.state = .on ∧ s.air.serving = some 0
      ∧ (getQueue s 0).current = some ⟨9, cells 2, 3, false, 0⟩ ∧ s.air.withdrawDue = false)
    ∧ (let s := { onAir with air := { onAir.air with state := .ident }, pool := { onAir.pool with clip := cells 1 } };
      s.air.state = .ident ∧ s.pool.clip[s.ident.clipIndex]? = some (cell 1000))
    ∧ (let s := { onAir with air := { onAir.air with state := .lead, leadRun := 39 } };
      s.air.state = .lead ∧ s.air.leadRun < s.setup.lead)
    ∧ (let s := { onAir with air := { onAir.air with state := .tail, tailRun := 9 } };
      s.air.state = .tail ∧ s.air.tailRun < s.setup.tail)
    ∧ (let s := { onAir with air := { onAir.air with state := .prime } };
      s.air.state = .prime ∧ ¬ canBegin s 0)
    ∧ (getQueue onAir 0).current = none ∧ (getQueue onAir 0).queue = []
    ∧ (let s := queued [block 5 1] none (some 3) onAir;
      (getQueue s 0).queue.head? = some (block 5 1) ∧ (getQueue s 0).cursor = some 3 ∧ (block 5 1).seq ≠ 3 ∧ ¬ canBegin s 0) := by decide +kernel

/-- The block changes of FrameStartPutsOnAir: the head at the cursor, with the cursor unset, and after a gap. -/
theorem test_block_begins :
    let s := queued [block 5 2] none (some 5) onAir
    let u := queued [block 5 1] none none onAir
    let v := queued [block 5 20] none (some 3) onAir
    choosesCell s 0 ∧ choosesCell u 0 ∧ canBegin v 0
      ∧ (getQueue (after s [.frameStart false]) 0).current = some ⟨5, cells 1, 0, false, 1⟩
      ∧ (getQueue (after u [.frameStart true]) 0).cursor = some 6
      ∧ (getQueue (after v [.frameStart true]) 0).gap = 2 := by decide +kernel

/-- `site` with a clip of one cell and pending work at its air sequencer. -/
def withPending (x : AirState) (start : Option Desk) (ident : Option IdentKind) (withdraw : Bool) : State :=
  { site with
    pool := { site.pool with clip := cells 1 }
    air := { site.air with state := x, pendingStart := start, pendingIdent := ident, withdrawDue := withdraw } }

/-- The pending clauses of FrameStartPutsOnAir. -/
theorem test_met_pending :
    (withPending .off (some 0) none false).air.state ≠ .ident ∧ (withPending .off none (some .tail) false).air.state = .off
    ∧ (withPending .ident (some 0) none false).pool.clip[0]? = some (cell 1000)
    ∧ (withPending .on none (some .interval) false).bus.sampNow.clampl = false
    ∧ (withPending .off none (some .tail) false).pool.clip ≠ [] ∧ site.pool.clip = []
    ∧ (withPending .lead none none true).air.withdrawDue = true
    ∧ (after (withPending .off (some 0) none false) [.frameStart false]).air.state = .lead
    ∧ (after (withPending .tail none (some .interval) false) [.frameStart false]).air.state = .ident
    ∧ (after (withPending .off none (some .tail) false) [.frameStart true]).air.purpose = some .tailIdent
    ∧ (after (withPending .lead none none true) [.frameStart true]).air.state = .off := by decide +kernel

theorem test_met_SyncFields :
    sampleRuns locked = true ∧ syncPatternOf (syncBits 100 3) = 0xD14B ∧ locked.sync.count = some (syncCountOf (syncBits 100 3))
    ∧ locked.sync.timingStation = some (syncStationOf (syncBits 100 3))
    ∧ locked.sync.timingStation ≠ some (syncStationOf (syncBits 100 4)) ∧ locked.sync.count ≠ some (syncCountOf (syncBits 99 3))
    ∧ sampleRuns site = true ∧ site.bus.syncLatch = none
    ∧ ({ site with bus := { site.bus with syncLatch := some 0 } } : State).bus.syncLatch = some 0
    ∧ site.sync.readbackRun = 0 ∧ sampleRuns hunting = true ∧ hunting.sync.state = .hunt := by decide +kernel

def peerSlot : BitVec 208 := slotBits ⟨3, .member, some 100, 7, 0, 0, 4, .all .absent⟩

theorem test_met_PeerSlots :
    pointsRun site = true ∧ (3 : Station) ≠ site.setup.station ∧ peerSlot ≠ BitVec.allOnes 208 ∧ slotCrcGood peerSlot = true
    ∧ (slotOf peerSlot).echo = (site.sync.count.getD 0).extractLsb' 0 8 ∧ (slotOf peerSlot).station.toNat = 3
    ∧ (slotOf peerSlot).join = 2 ∧ slotCrcGood (peerSlot ^^^ 1) = false := by decide +kernel

theorem test_met_ReadbackAndUnclampOrder :
    slotFresh (site.sync.count.getD 0) 3 peerSlot = true ∧ (slotOf peerSlot).flags.getLsbD 2 = true
    ∧ site.member.join = .member ∧ site.bus.ownSlotDriven = false
    ∧ (let o : OwnSlot := ⟨0, .member, some 100, 7, 0, 0, 4, .all .absent⟩;
      let s := { site with bus := { site.bus with ownSlot := some o, ownSlotDriven := true } };
      s.bus.ownSlotDriven = true ∧ s.bus.ownSlot = some o ∧ o.flags.getLsbD 2 = true)
    ∧ hunting.member.join ≠ .member
    ∧ (let s := { site with member := { site.member with join := .announce } };
      pointsRun s = true ∧ s.member.join = .announce ∧ 16 ≤ s.member.announceRun ∧ s.sync.state = .timing)
    ∧ (let s := { locked with
            member := { locked.member with join := .announce }
            bus := { locked.bus with
              syncGood := true, judge := locked.bus.judge.set 3 .fresh
              headers := locked.bus.headers.set 3 (some ⟨2, 7, 0, 0, 0, 100⟩) } };
      s.sync.timingStation = some 3 ∧ s.bus.judge.get 3 = .fresh ∧ s.bus.headers.get 3 = some ⟨2, 7, 0, 0, 0, 100⟩
      ∧ s.setup.digest = some 7 ∧ (after s [.slotReceived 7 0]).member.join = .member) := by decide +kernel

/-- An order in slot 7: taken by a station that becomes MEMBER there, and by a MEMBER in LOCKED at its third miss. -/
theorem test_order_in_slot_7 :
    let x := slotBits ⟨7, .member, some 100, 7, 0, 0, 4, .all .absent⟩
    let s := { site with member := { site.member with join := .announce }, clamp := { site.clamp with causes := 0x81 } }
    let u := { locked with sync := { locked.sync with missRun := 2 }, clamp := { locked.clamp with causes := 0x81 } }
    slotFresh 100 7 x = true ∧ (after s [.slotReceived 7 x]).member.join = .member
      ∧ (after s [.slotReceived 7 x]).clamp.causes = 1
      ∧ (after u [.slotReceived 7 x]).sync.state = .holdover ∧ (after u [.slotReceived 7 x]).clamp.causes = 1 := by decide +kernel

/-- KeySampleTaken, KeySampleRuns. -/
theorem test_met_key_sample :
    sampleRuns site = true ∧ site.clamp.causes = 0 ∧ site.clamp.seen = .clear ∧ site.setup.rfSense = false
    ∧ (let s := { site with clamp := { site.clamp with seen := .settling, settleRun := 9, stuckRun := 19, noRfRun := 89 } };
      9 ≤ s.clamp.settleRun ∧ s.clamp.stuckRun = 19 ∧ s.clamp.noRfRun + 1 = s.setup.lead + 50)
    ∧ (let s := { guardIn .idle site with clamp := { site.clamp with reflSet := 1, causes := 0 } };
      s.guard.on = true ∧ s.clamp.causes &&& 0x01 = 0 ∧ s.clamp.reflSet = 1)
    ∧ (let s := { guardIn .idle site with clamp := { site.clamp with reflClear := 99, causes := 1 } };
      s.clamp.causes &&& 0x01 ≠ 0 ∧ 99 ≤ s.clamp.reflClear) := by decide +kernel

/-- Desk 0 claimed and published, so the next snapshot complete grants it. -/
def granting : State :=
  setDesk site 0 { getDesk waiting0 0 with record := ⟨.waiting, .normal, .noReason, 99⟩, published := ⟨.waiting, .normal, .noReason, 99⟩ }

/-- SnapshotFormed, VerdictFromSixConditions, DigestDisagreementCountsSplits, EndedHoldingsAreRecorded. -/
theorem test_met_snapshot :
    pointsRun granting = true ∧ ¬ (granting.bus.readback = .mismatch ∧ 2 ≤ granting.bus.fenceRun)
    ∧ hasState granting 0 .waiting ∧ ¬ hasState granting 0 .holding ∧ granting.history.ring.length ≤ 8
    ∧ memberActive granting = true ∧ joinedStale granting = false ∧ granting.bus.readback = .good
    ∧ age (granting.sync.count.getD 0) (getDesk granting 0).record.stamp < granting.setup.maxWait := by decide +kernel

/-- R75: desk 0 holds, published, and a CONTROL desk 1 waits at the head of the list. -/
def preempting : State :=
  let s := setDesk onAir 0 { getDesk onAir 0 with published := ⟨.holding, .normal, .noReason, 90⟩ }
  setDesk s 1 { getDesk s 1 with record := ⟨.waiting, .control, .noReason, 95⟩, published := ⟨.waiting, .control, .noReason, 95⟩ }

theorem test_preemption :
    let t := after preempting [.snapshotComplete .first false]
    pointsRun preempting = true ∧ hasState preempting 0 .holding ∧ preempting.air.serving = some 0
      ∧ age (preempting.sync.count.getD 0) (getDesk preempting 0).record.stamp < preempting.setup.totLimit
      ∧ t.claims.conds.c1 = true ∧ t.claims.conds.c2 = true ∧ t.claims.conds.c3 = true
      ∧ snapHolder t = some ⟨0, 0, ⟨.holding, .normal, .noReason, 90⟩⟩
      ∧ (snapWaiting t).head? = some ⟨0, 1, ⟨.waiting, .control, .noReason, 95⟩⟩
      ∧ (getDesk t 0).record = ⟨.idle, .normal, .preempted, 0⟩ ∧ t.air.state = .tail := by decide +kernel

theorem test_met_GrantsComeFromTheVerdict :
    (match exec (.snapshotComplete .last true) granting with
      | .next t => decide (hasState t 0 .holding)
      | _ => false) = true := by decide +kernel

def voiceBits : BitVec 168 := progBits ⟨1, 0, 0, false, 100, cell 5⟩

theorem test_met_ProgramReceived :
    pointsRun site = true ∧ voiceBits ≠ BitVec.allOnes 168 ∧ progCrcGood voiceBits = true ∧ (progOf voiceBits).kind.toNat < 3
    ∧ (progOf voiceBits).echo = (site.sync.count.getD 0).extractLsb' 0 8 ∧ progCrcGood (voiceBits ^^^ 1) = false
    ∧ (progOf voiceBits).kind = 1 ∧ (progOf (progBits ⟨2, 0, 0, true, 100, cell 5⟩)).endIdent = true
    ∧ memberActive site = true ∧ snapHolder site = none ∧ holderOf site.claims.prev.count site.claims.prev.recs = none := by decide +kernel

/-- R18: the last VOICE of the previous snapshot's holder matches; a field that names another desk than the holder does not. -/
theorem test_last_voice :
    let r : Record := ⟨.holding, .normal, .noReason, 90⟩
    let one : Snapshot := ⟨Records.absent.set 0 ((Four.all .absent).set 0 r), 99⟩
    let s := { site with claims := { site.claims with prev := one } }
    let u := { site with claims := { site.claims with snap := one, prev := one } }
    holderOf one.count one.recs = some ⟨0, 0, r⟩ ∧ namesSeat (progOf voiceBits) ⟨0, 0, r⟩ = true
      ∧ namesSeat (progOf (progBits ⟨1, 0, 1, false, 100, cell 5⟩)) ⟨0, 0, r⟩ = false
      ∧ (after s [.programReceived voiceBits]).bus.mismatchCount = 0
      ∧ (after u [.programReceived voiceBits]).bus.mismatchCount = 0
      ∧ (after u [.programReceived (progBits ⟨1, 0, 1, false, 100, cell 5⟩)]).bus.mismatchCount = 1 := by decide +kernel

def searchingState : State := { holdover with sync := { holdover.sync with candidates := [⟨5, 200, 3⟩] } }

theorem test_met_Relock :
    searching searchingState = true
    ∧ (∃ x ∈ searchingState.sync.candidates, x.pos = 5 ∧ x.count + 1 = 201 ∧ x.station = 3)
    ∧ (∀ x ∈ searchingState.sync.candidates, ¬ (x.pos = 6 ∧ x.count + 1 = 201 ∧ x.station = 3))
    ∧ searchingState.sync.state = .holdover ∧ searchingState.sync.count = some 100
    ∧ 3 ≤ ((201 : Count) - 100).toNat ∧ ((201 : Count) - 100).toNat ≤ 16777213
    ∧ ((102 : Count) - 100).toNat ≤ 2 ∧ 16777214 ≤ ((98 : Count) - 100).toNat := by decide +kernel

theorem test_met_WaitsRunOut :
    frameRuns hunting = true ∧ hunting.member.join = .listen
    ∧ (let s := { hunting with sync := { hunting.sync with huntRun := 15 } };
      s.sync.huntRun + 1 = 16 + 4 * s.setup.station.val)
    ∧ frameRuns holdover = true
    ∧ (let s := { holdover with sync := { holdover.sync with holdoverRun := 3 } };
      s.sync.holdoverRun + 1 = 4 + 2 * s.setup.station.val ∧ s.member.join = .member)
    ∧ ({ holdover with member := { holdover.member with join := .mismatch } } : State).member.join ≠ .member := by decide +kernel

theorem test_met_SyncIsLost :
    pointsRun locked = true ∧ locked.sync.state = .locked ∧ sampleRuns site = true ∧ site.sync.state = .timing
    ∧ ({ site with bus := { site.bus with syncLatch := some 0 }, sync := { site.sync with readbackRun := 1 } } : State).bus.syncLatch ≠ none
    ∧ locked.bus.syncGood = false ∧ locked.sync.missRun < 2
    ∧ (let s := { locked with bus := { locked.bus with syncGood := true, judge := locked.bus.judge.set 3 .fresh } };
      s.bus.syncGood = true ∧ s.bus.judge.get 3 = .fresh) := by decide +kernel

theorem test_met_FenceTaken :
    let s := { site with bus := { site.bus with fenceRun := 2, readback := .mismatch, judge := site.bus.judge.set 3 .fresh } }
    pointsRun s = true ∧ s.member.join = .member ∧ s.bus.fenceRun = 2 ∧ s.bus.readback = .mismatch
      ∧ (∃ k, k ≠ s.setup.station ∧ s.bus.judge.get k = .fresh) := by decide +kernel

theorem test_met_Membership :
    (let s := { site with member := { site.member with join := .announce } };
      pointsRun s = true ∧ s.member.join = .announce ∧ 16 ≤ s.member.announceRun ∧ s.sync.state = .timing)
    ∧ (let s := { locked with bus := { locked.bus with
            judge := locked.bus.judge.set 3 .fresh, headers := locked.bus.headers.set 3 (some ⟨2, 7, 0, 0, 0, 100⟩) } };
      s.sync.timingStation = some 3 ∧ s.bus.headers.get 3 = some ⟨2, 7, 0, 0, 0, 100⟩ ∧ s.bus.judge.get 3 = .fresh)
    ∧ (let s := { locked with sync := { locked.sync with timingStation := some 0 } };
      s.sync.state = .locked ∧ s.sync.timingStation = some s.setup.station)
    ∧ (let s := { site with member := { site.member with
            presence := (site.member.presence.set 3 ⟨.joining, 3, 0, 0⟩).set 4 ⟨.joined, 0, 15, 9⟩ } };
      (s.member.presence.get 3).freshRun = 3 ∧ (s.member.presence.get 3).state ≠ .joined
      ∧ (s.member.presence.get 4).staleRun = 15 ∧ (s.member.presence.get 4).state = .joined) := by decide +kernel

theorem test_met_ClaimLimits :
    (let s := { waiting0 with sync := { waiting0.sync with count := some 300000 } };
      pointsRun s = true ∧ hasState s 0 .waiting ∧ (getDesk s 0).stampSet = true
      ∧ s.setup.maxWait ≤ age (s.sync.count.getD 0) (getDesk s 0).record.stamp)
    ∧ (let s := { holding0 with
            sync := { holding0.sync with count := some 180020 }
            claims := { holding0.claims with
              snap := ⟨Records.absent.set 0 ((Four.all .absent).set 0 ⟨.holding, .normal, .noReason, 0⟩), 180020⟩ } };
      s.setup.totLimit ≤ age (s.sync.count.getD 0) (getDesk s 0).record.stamp
      ∧ snapHolder s = some ⟨0, 0, ⟨.holding, .normal, .noReason, 0⟩⟩
      ∧ s.setup.totLimit + 20 ≤ age (s.sync.count.getD 0) 0)
    ∧ snapHolder site = none ∧ ({ site with claims := { site.claims with splitRun := 7 } } : State).claims.splitRun = 7
    ∧ (let s := setDesk barred0 0 { getDesk barred0 0 with barRun := 4999 };
      frameRuns s = true ∧ hasState s 0 .barred ∧ s.setup.coolOff ≤ (getDesk s 0).barRun + 1) := by decide +kernel

theorem test_met_LeadPrimeAndGap :
    (let s := { onAir with air := { onAir.air with state := .lead, leadRun := 40 } };
      frameRuns s = true ∧ s.air.state = .lead ∧ s.setup.lead ≤ s.air.leadRun ∧ s.air.purpose = some .desk
      ∧ s.air.serving = some 0 ∧ ¬ canBegin s 0 ∧ s.air.starveRun + 1 < s.setup.silenceHold)
    ∧ (let s := { site with
            air := { site.air with state := .lead, leadRun := 40, purpose := some .tailIdent }
            pool := { site.pool with clip := cells 1 } };
      s.air.purpose = some .tailIdent ∧ s.pool.clip[0]? = some (cell 1000))
    ∧ (let s := queued [block 5 20] none none { onAir with air := { onAir.air with state := .prime } };
      s.air.state = .prime ∧ canBegin s 0 ∧ s.air.serving = some 0 ∧ (getQueue s 0).current = none
      ∧ (getQueue s 0).queue.head? = some (block 5 20) ∧ (getQueue s 0).cursor = none)
    ∧ (let s := queued [block 5 20] none (some 3) onAir;
      s.air.state = .on ∧ (getQueue s 0).cursor = some 3 ∧ (getQueue s 0).current = none ∧ (block 5 20).seq ≠ 3) := by decide +kernel

/-- The end of LEAD of a desk that can begin: a head of one cell that ends the over, a head later than the cursor, a current
block, nothing left to drain. -/
theorem test_lead_to_on :
    let lead := { onAir with air := { onAir.air with state := .lead, leadRun := 40 } }
    let s := queued [⟨5, cells 1, 0, true⟩] none none lead
    let u := queued [⟨5, cells 2, 0, true⟩] none (some 3) lead
    let v := queued [] (some ⟨5, cells 20, 0, false, 0⟩) (some 5) lead
    let w := setDesk lead 0 { getDesk lead 0 with drain := true }
    canBegin s 0 ∧ canBegin u 0 ∧ canBegin v 0 ∧ canBegin w 0 ∧ hasState w 0 .holding
      ∧ (after s [.leadEnd]).air.state = .tail ∧ (getQueue (after s [.leadEnd]) 0).cursor = some 6
      ∧ (after u [.leadEnd]).air.state = .on ∧ (getQueue (after u [.leadEnd]) 0).gap = 2
      ∧ (getQueue (after v [.leadEnd]) 0).left = 19 ∧ (after w [.leadEnd]).air.state = .tail := by decide +kernel

theorem test_met_EndingsOnAir :
    frameRuns onAir = true ∧ onAir.air.state = .on ∧ onAir.air.serving = some 0 ∧ hasState onAir 0 .holding
    ∧ (getQueue (queued [] (some ⟨9, cells 1, 0, true, 0⟩) (some 9) onAir) 0).current = some ⟨9, cells 1, 0, true, 0⟩
    ∧ (getQueue onAir 0).current = none ∧ (getQueue onAir 0).queue = [] ∧ (getDesk onAir 0).drain = false
    ∧ ({ onAir with air := { onAir.air with starveRun := 499 } } : State).setup.silenceHold ≤ 499 + 1 := by decide +kernel

theorem test_met_TailAndIdentEnd :
    (let s := { site with air := { site.air with state := .tail, tailRun := 10 } };
      frameRuns s = true ∧ s.air.state = .tail ∧ s.setup.tail ≤ s.air.tailRun)
    ∧ (let s := { site with
            air := { site.air with state := .ident, purpose := some .tailIdent, pendingStart := some 0 }
            ident := { site.ident with phase := .playing, kind := some .tail, clipIndex := 1 }
            pool := { site.pool with clip := cells 1 } };
      s.air.state = .ident ∧ s.pool.clip.length ≤ s.ident.clipIndex ∧ s.air.pendingStart = some 0)
    ∧ (let s := queued [] (some ⟨9, cells 2, 0, false, 0⟩) (some 9) { onAir with air := { onAir.air with state := .ident } };
      s.air.purpose = some .desk ∧ s.air.holdingEnded = false ∧ s.pool.clip.length ≤ s.ident.clipIndex) := by decide +kernel

theorem test_met_IdentLimits :
    (let s := { onAir with ident := { onAir.ident with a := 599999 } };
      pointsRun s = true ∧ s.member.join = .member ∧ s.ident.due = false ∧ s.ident.a + 1 = s.setup.idInterval * 1000
      ∧ s.ident.phase = .nothing ∧ s.pool.clip = [] ∧ s.air.holdingEnded = false)
    ∧ (let s := { site with ident := { site.ident with due := true, dueAge := 99 } };
      frameRuns s = true ∧ s.ident.due = true ∧ s.ident.overdue = false ∧ s.ident.dueAge = 99)
    ∧ (let s := { site with ident := { site.ident with a := 1, tailWait := 2999 }, pool := { site.pool with clip := cells 1 } };
      memberActive s = true ∧ joinedStale s = false ∧ s.ident.a ≠ 0 ∧ identOnBus s = false ∧ s.bus.sampNow.keyl = false
      ∧ s.ident.tailWait + 1 = s.setup.tailWait ∧ s.clamp.settleRun = 10 ∧ qualifies s 0 = true ∧ s.pool.clip ≠ []
      ∧ ∀ k d, ¬ ((s.claims.snap.recs.get k).get d).state = .holding) := by decide +kernel

/-- `site` at position 1, its own tail identification in a phase, and station 0 a MEMBER that identifies. -/
def withdrawing (x : IdentPhase) : State :=
  { site with
    setup := { site.setup with station := 1 }
    ident := { site.ident with phase := x, kind := some .tail, a := 1, tailWait := 9 }
    air := { site.air with pendingIdent := if x = .ordered then some .tail else none }
    bus := { site.bus with
      judge := (Eight.all Judgement.stale).set 0 .fresh, headers := (Eight.all none).set 0 (some ⟨2, 7, 0, 0, 0x10, 100⟩) } }

theorem test_lowerStationIdentifies (x : IdentPhase) : lowerStationIdentifies (withdrawing x) :=
  ⟨0, ⟨2, 7, 0, 0, 0x10, 100⟩, by simp [withdrawing], rfl, rfl, rfl, rfl⟩

/-- R133, and R128 by the line of IDENT_ACTIVE and, with a JOINED peer stale, by the line before it. -/
theorem test_withdrawal :
    let t := after (withdrawing .ordered) [.snapshotComplete .first false]
    let u := after (withdrawing .lead) [.snapshotComplete .last true]
    let s := { withdrawing .lead with
      member := { site.member with presence := (Eight.all ⟨.unseen, 0, 0, 0⟩).set 5 ⟨.joined, 0, 1, 0⟩ } }
    pointsRun (withdrawing .lead) = true ∧ memberActive s = true ∧ joinedStale s = true
      ∧ t.ident.phase = .nothing ∧ t.air.pendingIdent = none ∧ t.ident.tailWait = 0
      ∧ u.ident.kind = none ∧ u.air.withdrawDue = true
      ∧ (after s [.snapshotComplete .first true]).ident.tailWait = 9 := by decide +kernel

/-- The snapshot clauses of IdentificationLimitsAct and SupervisionLimitsAct that count, clear and order. -/
theorem test_snapshot_runs :
    let s := { site with
      ident := { site.ident with a := 1, tailWait := 2999 }, pool := { site.pool with clip := cells 1 } }
    let t := after s [.snapshotComplete .first true]
    let k := { site with bus := { site.bus with sampNow := ⟨true, false, false, false⟩ }, clamp := { site.clamp with orphanRun := 17 } }
    t.ident.tailWait = 3000 ∧ t.ident.choice = chooseStation t ∧ t.ident.phase = .ordered ∧ t.air.pendingIdent = some .tail
      ∧ (after k [.snapshotComplete .first false]).clamp.orphanRun = 18
      ∧ (after k [.snapshotComplete .first false]).clamp.causes = 0x40
      ∧ (after { k with bus := site.bus } [.snapshotComplete .first false]).clamp.orphanRun = 0 := by decide +kernel

/-- R58: an own holding and a mirror that lose to another peer's desk. -/
theorem test_split :
    let r : Record := ⟨.holding, .normal, .noReason, 90⟩
    let s := { onAir with
      claims := { onAir.claims with
        desks := onAir.claims.desks.set 0 { getDesk onAir 0 with published := r }
        mirrors := (Records.absent.set 2 ((Four.all .absent).set 1 r)).set 3 ((Four.all .absent).set 0 { r with cls := .control }) }
      member := { onAir.member with
        presence := ((Eight.all ⟨.unseen, 0, 0, 0⟩).set 2 ⟨.joined, 4, 0, 0⟩).set 3 ⟨.joined, 4, 0, 0⟩ } }
    let t := after s [.snapshotComplete .first false]
    pointsRun s = true ∧ (formedRecord s 0 0).state = .holding ∧ hasState s 0 .holding ∧ s.air.serving = some 0
      ∧ ((t.claims.mirrors.get 2).get 1) = ⟨.idle, .normal, .split, 0⟩
      ∧ (getDesk t 0).record = ⟨.idle, .normal, .split, 0⟩ ∧ t.air.state = .tail := by decide +kernel

theorem test_met_WatchLimits :
    (let s := { site with
            bus := { site.bus with sampNow := ⟨true, false, false, false⟩, progResult := .error }
            clamp := { site.clamp with orphanRun := 17, progRun := 19, noRfRun := 89 } };
      pointsRun s = true ∧ s.bus.sampNow.keyl = true ∧ joinedStale s = false ∧ identOnBus s = false
      ∧ s.clamp.orphanRun + 1 = s.setup.tail + 8 ∧ s.bus.progResult = .error ∧ s.clamp.progRun = 19
      ∧ s.clamp.noRfRun + 1 = s.setup.lead + 50)
    ∧ (let s := { site with
            setup := { site.setup with rfSense := true }, bus := { site.bus with sampNow := ⟨false, false, true, false⟩ }
            clamp := { site.clamp with stuckRun := 19, seen := .settling, settleRun := 9 } };
      s.setup.rfSense = true ∧ s.bus.sampNow.rfon = true ∧ s.clamp.stuckRun = 19 ∧ s.clamp.seen = .settling
      ∧ s.clamp.settleRun = 9) := by decide +kernel

theorem test_met_GuardCycle :
    frameRuns (guardIn .idle site) = true ∧ (guardIn .idle site).guard.on = true
    ∧ ({ site.guard with on := true, beginDue := true } : Guard).beginDue = true
    ∧ (guardIn .chargeRef site).guard.phase = .chargeRef ∧ (guardIn .chargeMeas site).guard.phase = .chargeMeas
    ∧ (guardIn .dischargeRef site).guard.phase = .dischargeRef ∧ counterOf (guardIn .dischargeRef site).guard + 65535 < 65536
    ∧ (guardIn .dischargeMeas site).guard.phase = .dischargeMeas := by decide +kernel

/-- R153, R154: a measurement count of 63, and one of 64 after an OPEN of the reference channel. -/
theorem test_faulted_cycle :
    let s := guardIn .dischargeMeas site
    let o := { s with guard := { s.guard with openRef := true, heatRun := 1 } }
    (after s [.dischargeEnd 63]).guard.shortMeas = true ∧ (after s [.dischargeEnd 63]).clamp.causes = 2
      ∧ (after o [.dischargeEnd 64]).guard.ratio = none ∧ (after o [.dischargeEnd 64]).guard.heatRun = 0
      ∧ (after o [.dischargeEnd 64]).guard.nMeas = 64 := by decide +kernel

theorem test_met_HeatFromRatio :
    let s := { guardIn .dischargeMeas site with guard := { (guardIn .dischargeMeas site).guard with nRef := 128, heatRun := 1 } }
    s.setup.heatTrip < s.setup.heatClear ∧ s.guard.openRef = false ∧ s.guard.shortRef = false
      ∧ 64 ≤ counterOf s.guard + 64 ∧ 0 < s.guard.nRef ∧ min ((counterOf s.guard + 64) * 256 / s.guard.nRef) 65535 ≤ s.setup.heatTrip
      ∧ s.setup.heatTrip < min ((counterOf s.guard + 70) * 256 / s.guard.nRef) 65535
      ∧ s.setup.heatClear ≤ min ((counterOf s.guard + 80) * 256 / s.guard.nRef) 65535 := by decide +kernel

/-- BlockLawsKept, ClaimLawsKept, PoolLawsKept: a state that keeps every law, and takes a step. -/
theorem test_met_laws_kept :
    step site = .next (tick site) ∧ ringLaw site ∧ identLaw site ∧ settleLaw site ∧ recordLaw site ∧ siteLaw site := by
  refine ⟨rfl, ?_, ?_, ?_, ?_, ?_⟩
  · simp only [ringLaw]; decide
  · simp only [identLaw]; decide
  · simp only [settleLaw]; decide +kernel
  · intro d
    refine ⟨?_, ?_, ?_⟩ <;> fin_cases d <;> simp [site, up, State.reset, State.afterReset, Claims.reset, OwnDesk.reset,
      getDesk, Four.all, Four.get, recordShape, Record.absent]
  · simp only [siteLaw]; decide +kernel

theorem test_met_dueLaw : dueLaw site := by simp only [dueLaw]; decide +kernel

theorem test_met_PoolLawsKept : poolLaw site ∧ queuesLaw site := by
  refine ⟨?_, ?_⟩
  · simp only [poolLaw, cellsConserved]; decide +kernel
  · intro d
    fin_cases d <;> simp [site, up, State.reset, State.afterReset, Pool.reset, DeskQueue.reset, getQueue, Four.all, Four.get,
      queueLaw]

end Sys2Proof.Tests
end

namespace Sys2Proof
open Machine

/-! ## The wire forms of the site bus (Table 1-2, R5, R9, R10, R11, R17) -/

/-! ### The CRC of R9 -/

theorem crcBits_append (xs ys : List Bool) : crcBits (xs ++ ys) = ys.foldl crcStep (crcBits xs) := by
  simp [crcBits]

theorem crcBytes_concat (bytes : List Byte) (x : Byte) :
    crcBytes (bytes ++ [x]) = (bitsOf x).foldl crcStep (crcBytes bytes) := by
  simp [crcBytes, crcBits_append]

/-- R9, one data bit: the register shifts left, and the generator is combined where the data bit differs from the top bit. -/
theorem crcStep_eq (r : Word16) (b : Bool) :
    crcStep r b = if r.getMsbD 0 = b then r <<< 1 else (r <<< 1) ^^^ 0x1021 := by
  have hmsb : r.msb = r.getMsbD 0 := rfl
  by_cases h : r.getMsbD 0 = b <;> simp [crcStep, hmsb, h, Config.crcPoly]

/-- The bits of the upper part of a word are the first bits of the word in the order sent. -/
theorem bitsOf_extractLsb'_high (lo n : Nat) (b : BitVec (n + lo)) :
    bitsOf (b.extractLsb' lo n) = (List.range n).map b.getMsbD := by
  refine List.map_congr_left fun i hi => ?_
  have hi : i < n := List.mem_range.mp hi
  rw [BitVec.getMsbD_extractLsb']
  have e : n + lo - (lo + n - i) = i := by omega
  have hle : lo + n - i ≤ n + lo := by omega
  simp [hi, hle, e]

theorem slotCrcGood_iff (b : BitVec 208) :
    slotCrcGood b = true ↔ crcBits ((List.range 192).map b.getMsbD) = b.extractLsb' 0 16 := by
  rw [slotCrcGood, bitsOf_extractLsb'_high 16 192 b, beq_iff_eq]

theorem progCrcGood_iff (b : BitVec 168) :
    progCrcGood b = true ↔ crcBits ((List.range 152).map b.getMsbD) = b.extractLsb' 0 16 := by
  rw [progCrcGood, bitsOf_extractLsb'_high 16 152 b, beq_iff_eq]

theorem slotBits_data (o : OwnSlot) : (slotBits o).extractLsb' 16 192 = slotData o :=
  BitVec.extractLsb'_append_eq_left

theorem slotBits_crc (o : OwnSlot) : (slotBits o).extractLsb' 0 16 = crcBits (bitsOf (slotData o)) :=
  BitVec.extractLsb'_append_eq_right

theorem progBits_data (p : ProgField) : (progBits p).extractLsb' 16 152 = progData p :=
  BitVec.extractLsb'_append_eq_left

theorem progBits_crc (p : ProgField) : (progBits p).extractLsb' 0 16 = crcBits (bitsOf (progData p)) :=
  BitVec.extractLsb'_append_eq_right

theorem slotCrcGood_slotBits (o : OwnSlot) : slotCrcGood (slotBits o) = true := by
  simp [slotCrcGood, slotBits_data, slotBits_crc]

theorem progCrcGood_progBits (p : ProgField) : progCrcGood (progBits p) = true := by
  simp [progCrcGood, progBits_data, progBits_crc]

/-- The check value of R9. -/
theorem crcBytes_digits : crcBytes [0x31, 0x32, 0x33, 0x34, 0x35, 0x36, 0x37, 0x38, 0x39] = 0x29B1 := by
  decide +kernel

/-- Settles O27: one step from `crcStep_eq`, reception from the order of the bits, sending from what an append splits into. -/
theorem crcIsThatOfR9 : Obligations.CrcIsThatOfR9 := by
  refine ⟨rfl, fun bits b => ?_, fun bytes x => ?_, crcBytes_digits, slotCrcGood_iff, progCrcGood_iff,
    slotCrcGood_slotBits, progCrcGood_progBits⟩
  · rw [crcBits_append]
    exact crcStep_eq (crcBits bits) b
  · rw [crcBytes_concat, bitsOf, List.foldl_map]
end Sys2Proof

namespace Sys2Proof
open Machine
/-! ### Fields driven are fields read -/

theorem sync_readBack (c : Count) (n : Station) :
    syncPatternOf (syncBits c n) = 0xD14B ∧ syncCountOf (syncBits c n) = c ∧ syncStationOf (syncBits c n) = n := by
  have hstation : (syncBits c n).extractLsb' 0 3 = BitVec.ofNat 3 n.val := BitVec.extractLsb'_append_eq_right
  refine ⟨?_, ?_, Fin.ext ?_⟩
  · simp (disch := decide) only [syncPatternOf, syncBits, BitVec.extractLsb'_append_eq_of_le]
    rfl
  · simp (disch := decide) only [syncCountOf, syncBits, BitVec.extractLsb'_append_eq_of_add_le,
      BitVec.extractLsb'_append_eq_of_le, Nat.sub_self, BitVec.extractLsb'_eq_self]
  · simp [syncStationOf, hstation]

theorem recState_ofCode_code (x : RecState) : RecState.ofCode (BitVec.ofNat 3 x.code).toNat = some x := by
  cases x <;> rfl

theorem endReason_ofCode_code {x : EndReason} (h : x ≠ .lost) : EndReason.ofCode (BitVec.ofNat 4 x.code).toNat = x := by
  cases x with
  | lost => exact absurd rfl h
  | _ => rfl

theorem cls_of_bit (x : Cls) : (if (BitVec.ofNat 1 x.code).getLsbD 0 = true then Cls.control else Cls.normal) = x := by
  cases x <;> rfl

/-- R11: a record sent is the record handed, where its end reason is one that a slot carries. -/
theorem recordOf_recordBits {r : Record} (h : r.reason ≠ .lost) : recordOf (recordBits r) = r := by
  have hstate : (recordBits r).extractLsb' 29 3 = BitVec.ofNat 3 r.state.code := by
    simp (disch := decide) only [recordBits, BitVec.extractLsb'_append_eq_of_le, Nat.reduceSub, BitVec.extractLsb'_eq_self]
  have hcls : (recordBits r).getLsbD 28 = (BitVec.ofNat 1 r.cls.code).getLsbD 0 := by
    simp only [recordBits, BitVec.getLsbD_append, Nat.reduceLT, Nat.reduceSub, if_true, if_false]
  have hreason : (recordBits r).extractLsb' 24 4 = BitVec.ofNat 4 r.reason.code := by
    simp (disch := decide) only [recordBits, BitVec.extractLsb'_append_eq_of_le, BitVec.extractLsb'_append_eq_of_add_le,
      Nat.sub_self, BitVec.extractLsb'_eq_self]
  have hstamp : (recordBits r).extractLsb' 0 24 = r.stamp := BitVec.extractLsb'_append_eq_right
  simp only [recordOf, hstate, hcls, hreason, hstamp, recState_ofCode_code, endReason_ofCode_code h, cls_of_bit]

/-- The slot that a station of the site reads where the own slot is driven (Table 1-2, R11). -/
theorem slotOf_slotBits {o : OwnSlot} (h : ∀ d, (o.recs.get d).reason ≠ .lost) :
    slotOf (slotBits o) =
      ⟨BitVec.ofNat 3 o.station.val, o.join.field, o.echo.getD 0, o.setupDigest, o.viewDigest, o.causes, o.flags,
        o.recs⟩ := by
  have h0 : recordOf (recordBits o.recs.d0) = o.recs.d0 := recordOf_recordBits (h 0)
  have h1 : recordOf (recordBits o.recs.d1) = o.recs.d1 := recordOf_recordBits (h 1)
  have h2 : recordOf (recordBits o.recs.d2) = o.recs.d2 := recordOf_recordBits (h 2)
  have h3 : recordOf (recordBits o.recs.d3) = o.recs.d3 := recordOf_recordBits (h 3)
  simp (disch := decide) only [slotOf, slotBits, slotData, BitVec.extractLsb'_append_eq_of_le,
    BitVec.extractLsb'_append_eq_of_add_le, Nat.reduceSub, BitVec.extractLsb'_eq_self, h0, h1, h2, h3]

/-- Table 1-2: bits 59 to 63 of an own slot read zero, so it is not an undriven position. -/
theorem slotBits_ne_allOnes (o : OwnSlot) : slotBits o ≠ BitVec.allOnes 208 := by
  intro h
  have hzero : (slotBits o).extractLsb' 144 5 = 0 := by
    simp (disch := decide) only [slotBits, slotData, BitVec.extractLsb'_append_eq_of_le,
      BitVec.extractLsb'_append_eq_of_add_le, Nat.reduceSub, BitVec.extractLsb'_eq_self]
  rw [h] at hzero
  exact absurd hzero (by decide)

/-- R10: the four freshness checks. -/
theorem slotFresh_iff (now : Count) (k : Station) (b : BitVec 208) :
    slotFresh now k b = true ↔ b ≠ BitVec.allOnes 208 ∧ slotCrcGood b = true ∧ (slotOf b).echo = echoOf now
      ∧ (slotOf b).station.toNat = k.val := by
  simp only [slotFresh, Bool.and_eq_true, bne_iff_ne, beq_iff_eq, and_assoc]

theorem slotFresh_slotBits {o : OwnSlot} {c : Count} (hecho : o.echo = some (echoOf c))
    (h : ∀ d, (o.recs.get d).reason ≠ .lost) : slotFresh c o.station (slotBits o) = true := by
  rw [slotFresh_iff, slotOf_slotBits h]
  exact ⟨slotBits_ne_allOnes o, slotCrcGood_slotBits o, by rw [hecho]; rfl, Nat.mod_eq_of_lt o.station.isLt⟩

theorem progOf_progBits (p : ProgField) : progOf (progBits p) = p := by
  have hend : (progBits p).getLsbD 159 = p.endIdent := by
    simp only [progBits, progData, BitVec.getLsbD_append, Nat.reduceLT, Nat.reduceSub, if_true, if_false]
    cases p.endIdent <;> rfl
  simp only [progOf, hend]
  simp (disch := decide) only [progBits, progData, samplesBits, BitVec.extractLsb'_append_eq_of_le,
    BitVec.extractLsb'_append_eq_of_add_le, Nat.reduceSub, BitVec.extractLsb'_eq_self]
  simp only [Nat.reduceAdd, Nat.reduceSub, BitVec.extractLsb'_eq_self]

/-- Table 1-2: the seven bits between the echo and the samples read zero, so a program field is not an undriven one. -/
theorem progBits_ne_allOnes (p : ProgField) : progBits p ≠ BitVec.allOnes 168 := by
  intro h
  have hzero : (progBits p).extractLsb' 144 7 = 0 := by
    simp (disch := decide) only [progBits, progData, BitVec.extractLsb'_append_eq_of_le,
      BitVec.extractLsb'_append_eq_of_add_le, Nat.reduceSub, BitVec.extractLsb'_eq_self]
  rw [h] at hzero
  exact absurd hzero (by decide)

theorem classify_progBits {p : ProgField} {c : Count} (hecho : p.echo = echoOf c) (hkind : p.kind.toNat ≤ 2) :
    classify c (progBits p) = .good := by
  have hkind : ¬ 3 ≤ p.kind.toNat := by omega
  rw [classify, if_neg (progBits_ne_allOnes p)]
  simp [progCrcGood_progBits, progOf_progBits, hecho, hkind]

/-- Settles O28, form by form: each field is cut out of the append that it was driven in. -/
theorem wireFormsReadBack : Obligations.WireFormsReadBack := by
  refine ⟨sync_readBack, fun o c hecho hrecs => ?_, fun p c hecho hkind =>
    ⟨classify_progBits hecho hkind, progOf_progBits p⟩⟩
  rw [slotOf_slotBits hrecs]
  exact ⟨slotFresh_slotBits hecho hrecs, rfl, rfl, rfl, rfl, rfl, rfl⟩

end Sys2Proof

namespace Sys2Proof
open Machine

/-! ## A fence report (R14, R35, R66) -/

/-- No own desk waits for the floor or holds it. -/
def floorIdle (s : State) : Prop := ∀ d, ¬ hasState s d .waiting ∧ ¬ hasState s d .holding

/-- A station FENCED by a report: off the air, with nothing on the floor and its slot not driven. -/
structure FencedOut (t : State) : Prop where
  join : t.member.join = .fenced
  off : airIsOff t
  idle : floorIdle t
  slot : t.bus.ownSlotDriven = false
  flag : siteFlagSet t .fenced

/-! ### Endings and grants find nothing where the floor is idle -/

theorem fold_eq_self (f : Desk → State → State) {s : State} (h : ∀ d, f d s = s) :
    allDesks.foldl (fun s d => f d s) s = s := by
  simp only [allDesks, List.foldl, h]

theorem endHoldings_of_floorIdle {s : State} (h : floorIdle s) (r : EndReason) : endHoldings r s = s :=
  fold_eq_self (fun d s => endHolding d r s) fun d => endHolding_of_not (h d).2 r

theorem endReplaced_of_floorIdle {s : State} (h : floorIdle s) (formed kept : Records) :
    endReplaced formed kept s = s :=
  fold_eq_self (fun d s => if replacedAt formed kept (ownStation s) d then endHolding d .split s else s) fun d => by
    rw [endHolding_of_not (h d).2, ite_self]

theorem expireWaits_of_floorIdle {s : State} (h : floorIdle s) : expireWaits s = s :=
  fold_eq_self (fun d s => if ageAtLeast (deskAge s (getDesk s d)) s.setup.maxWait then withdraw d .waitExpired s else s)
    fun d => by rw [withdraw_of_not (h d).1, ite_self]

theorem applyTimeLimit_of_floorIdle {s : State} (h : floorIdle s) : applyTimeLimit s = s :=
  fold_eq_self (fun d s => if ageAtLeast (deskAge s (getDesk s d)) s.setup.totLimit then endHolding d .timeout s else s)
    fun d => by rw [endHolding_of_not (h d).2, ite_self]

theorem releaseSplit_of_floorIdle {s : State} (h : floorIdle s) : releaseSplit s = s := by
  rw [releaseSplit, endHoldings_of_floorIdle h, ite_self]

theorem preempt_of_floorIdle {s : State} (h : floorIdle s) : preempt s = s := by
  unfold preempt
  split
  next d _ => exact endHolding_of_not (h d).2 .preempted
  next => rfl

theorem grantStep_of_floorIdle {s : State} (h : floorIdle s) : grantStep s = s := by
  have hgrant (d : Desk) : grantDesk d s = s := if_neg (h d).1
  unfold grantStep
  split
  next k d _ => rw [hgrant, ite_self]
  next => rfl

theorem floorIdle_of_desks {s t : State} (h : floorIdle s) (hd : t.claims.desks = s.claims.desks) : floorIdle t := by
  simpa [floorIdle, hasState, getDesk, hd] using h

/-- With a FENCE reported at the snapshot complete, the floor decisions of an idle floor set the verdict only (R65, R144). -/
theorem floorDecisions_of_floorIdle {s : State} (h : floorIdle s) : floorDecisions true s = setVerdict s := by
  have hv : floorIdle (setVerdict s) := floorIdle_of_desks h rfl
  have ht (u : State) : enforceTot true u = u := by simp [enforceTot]
  rw [floorDecisions, applyTimeLimit_of_floorIdle hv, ht, releaseSplit_of_floorIdle hv, preempt_of_floorIdle hv,
    grantStep_of_floorIdle hv]

/-! ### The work of the snapshot complete keeps a station FENCED and off the air -/

theorem fencedOut_of_blocks {s t : State} (h : FencedOut s) (hm : t.member = s.member) (hb : t.bus = s.bus)
    (ha : t.air = s.air) (hphase : t.ident.phase = s.ident.phase) (hkind : t.ident.kind = s.ident.kind)
    (hd : t.claims.desks = s.claims.desks) (hl : siteFlagSet t .fenced) : FencedOut t := by
  refine ⟨by rw [hm]; exact h.join, ?_, floorIdle_of_desks h.idle hd, by rw [hb]; exact h.slot, hl⟩
  simpa [airIsOff, ha, hb, hphase, hkind] using h.off

theorem memberActive_of_fenced {s : State} (h : s.member.join = .fenced) : memberActive s = false := by
  simp [memberActive, h]

theorem fencedOut_digestTest {s : State} (h : FencedOut s) : FencedOut (digestTest s) := by
  have e : digestTest s = s.setClaims { s.claims with disagree := disagreeing s, splitRun := 0 } := by
    simp [digestTest, memberActive_of_fenced h.join]
  rw [e]
  exact fencedOut_of_blocks h rfl rfl rfl rfl rfl rfl h.flag

theorem fencedOut_formSnapshot {s : State} (h : FencedOut s) (formed kept : Records) :
    FencedOut (formSnapshot formed kept s) := by
  rw [formSnapshot, endReplaced_of_floorIdle]
  · exact fencedOut_of_blocks h rfl rfl rfl rfl rfl rfl h.flag
  · exact floorIdle_of_desks h.idle rfl

theorem fencedOut_handOff {s : State} (h : FencedOut s) (formed kept : Records) : FencedOut (handOff formed kept s) :=
  fencedOut_of_blocks h (by simp) (by simp) (by simp) (by simp) (by simp) (by simp)
    (by simpa [siteFlagSet] using h.flag)

theorem fencedOut_computeDigest {s : State} (h : FencedOut s) : FencedOut (computeDigest s) :=
  fencedOut_of_blocks h rfl rfl rfl rfl rfl rfl h.flag

theorem fencedOut_snapshotStages {s : State} (h : FencedOut s) : FencedOut (snapshotStages s) := by
  have hwork (formed kept : Records) := fencedOut_computeDigest
    (fencedOut_handOff (fencedOut_formSnapshot (fencedOut_digestTest h) formed kept) formed kept)
  simp only [snapshotStages]
  rw [expireWaits_of_floorIdle (hwork _ _).idle]
  exact hwork _ _

theorem fencedOut_floorDecisions {s : State} (h : FencedOut s) : FencedOut (floorDecisions true s) := by
  rw [floorDecisions_of_floorIdle h.idle]
  exact fencedOut_of_blocks h rfl rfl rfl rfl rfl rfl h.flag

theorem fencedOut_tailWaitStep {s : State} (h : FencedOut s) : FencedOut (tailWaitStep s) := by
  have e : tailWaitStep s = s.setIdent { s.ident with tailWait := 0 } := by
    simp [tailWaitStep, memberActive_of_fenced h.join]
  rw [e]
  exact fencedOut_of_blocks h rfl rfl rfl rfl rfl rfl h.flag

/-- R119: out of MEMBER a tail order starts nothing. -/
theorem orderTail_of_not_memberActive {s : State} (h : memberActive s = false) : orderTail s = s := by
  simp [orderTail, tailConds, orderConds, h]

theorem fencedOut_considerTail {s : State} (h : FencedOut s) : FencedOut (considerTail s) := by
  have hchoice (c : Option Station) : FencedOut (s.setIdent { s.ident with choice := c }) :=
    fencedOut_of_blocks h rfl rfl rfl rfl rfl rfl h.flag
  unfold considerTail
  split
  · dsimp only
    rw [orderTail_of_not_memberActive (memberActive_of_fenced (hchoice _).join), ite_self]
    exact hchoice _
  · exact h

/-- With no own identification there is none to withdraw (R133). -/
theorem withdrawTail_of_kind_none {s : State} (h : s.ident.kind = none) : withdrawTail s = s := by
  simp [withdrawTail, h]

theorem fencedOut_identWork {s : State} (h : FencedOut s) : FencedOut (identWork s) := by
  have hwork := fencedOut_considerTail (fencedOut_tailWaitStep h)
  obtain ⟨-, -, -, -, -, -, -, -, hkind⟩ := hwork.off
  rw [identWork, withdrawTail_of_kind_none hkind]
  exact hwork

theorem fencedOut_snapshotAndIdent {s : State} (h : FencedOut s) (identFirst : Bool) :
    FencedOut (snapshotAndIdent true identFirst s) := by
  have hstages := fencedOut_snapshotStages h
  cases identFirst
  · simpa [snapshotAndIdent] using fencedOut_identWork (fencedOut_floorDecisions hstages)
  · simpa [snapshotAndIdent] using fencedOut_floorDecisions (fencedOut_identWork hstages)

/-- R143, the first line of its table. -/
theorem orphanStep_of_not_member {s : State} (h : s.member.join ≠ .member) :
    orphanStep s = s.setClamp { s.clamp with orphanRun := 0 } := by
  rw [orphanStep, if_pos h]

theorem fencedOut_orphanStep {s : State} (h : FencedOut s) : FencedOut (orphanStep s) := by
  rw [orphanStep_of_not_member (by rw [h.join]; decide)]
  exact fencedOut_of_blocks h rfl rfl rfl rfl rfl rfl h.flag

/-! ### The entry itself -/

/-- A desk that has lost the sync waits for nothing and holds nothing. -/
theorem floorIdle_of_syncLostAt {s t : State} (h : ∀ d, syncLostAt s t d) : floorIdle t := by
  intro d
  obtain ⟨hlost, -, -, hkept⟩ := h d
  by_cases hc : hasState s d .holding ∨ hasState s d .waiting
  · simp [hasState, (hlost hc).1, idleRecord]
  · obtain ⟨hh, hw⟩ := not_or.mp hc
    simp only [hasState, hkept hh hw]
    exact ⟨hw, hh⟩

theorem fencedOut_enterFenced {s : State} (h : s.member.join ≠ .fenced) : FencedOut (enterFenced s) := by
  obtain ⟨hjoin, -, hoff, hlost, hslot, -, hflag, -⟩ := enterFenced_spec h
  exact ⟨hjoin, hoff, floorIdle_of_syncLostAt hlost, hslot, hflag⟩

/-- R66: in each order of the FENCE report and the snapshot's work, the station ends FENCED and off the air. -/
theorem fencedOut_snapshotWithFence {s : State} (h : s.member.join ≠ .fenced) (order : FenceOrder) (identFirst : Bool) :
    FencedOut (snapshotWithFence order identFirst s) := by
  cases order with
  | first =>
    have hf := fencedOut_enterFenced h
    by_cases hh : (enterFenced s).sync.state = .hunt
    · simpa [snapshotWithFence, afterFence, hh] using hf
    · simpa [snapshotWithFence, afterFence, hh] using fencedOut_snapshotAndIdent hf identFirst
  | beforeIdent =>
    cases identFirst
    · have hend := fencedOut_enterFenced (s := floorDecisions true (snapshotStages s)) (by simpa using h)
      simpa [snapshotWithFence] using fencedOut_identWork hend
    · have hend := fencedOut_enterFenced (s := snapshotAndIdent true true s) (by simpa using h)
      simpa [snapshotWithFence] using hend
  | last => exact fencedOut_enterFenced (by simpa using h)

theorem judgedFresh_iff (s : State) (k : Station) :
    judgedFresh s k = true ↔ k ≠ s.setup.station ∧ s.bus.judge.get k = .fresh := by
  simp [judgedFresh, ownStation]

theorem allPeersStale_of_fresh {s : State} {k : Station} (h : judgedFresh s k = true) : allPeersStale s = false := by
  rw [allPeersStale, List.all_eq_false]
  exact ⟨k, mem_allStations k, by rw [h]; decide⟩

/-- R14: a counted mismatch that is the third is reported in the join states that R35 names. -/
theorem fenceReported_of_third_mismatch {s : State} (hcan : canFence s = true) (hrun : s.bus.fenceRun = 2)
    (hmis : s.bus.readback = .mismatch) (hpeer : ∃ k, k ≠ s.setup.station ∧ s.bus.judge.get k = .fresh) :
    fenceReported s = true := by
  obtain ⟨k, hk, hfresh⟩ := hpeer
  have hstale : allPeersStale s = false := allPeersStale_of_fresh ((judgedFresh_iff s k).mpr ⟨hk, hfresh⟩)
  simp [fenceReported, hcan, hrun, hmis, hstale]

theorem canFence_iff (s : State) : canFence s = true ↔
    s.member.join = .announce ∨ s.member.join = .member ∨ s.member.join = .mismatch := by
  simp [canFence, or_assoc]

theorem exec_snapshotComplete_of_fenceReported {s : State} (hp : pointsRun s = true) (hf : fenceReported s = true)
    (o : FenceOrder) (b : Bool) : exec (.snapshotComplete o b) s
      = .next (orphanStep (snapshotWithFence o b (putFenceRun (fenceRunNext s) s))) := by
  simp [exec, execSnapshotComplete, whenRuns, hp, snapshotWork, hf]

theorem exec_fence_of_reaches {s : State} (h : fenceReaches s = true) :
    exec .fence s = .next (orphanStep (enterFenced (putFenceRun 3 s))) := by
  simp [exec, execFence, whenRuns, h, fenceEvent]

/-- Settles O47: the row by `enterFenced_spec`, the snapshot complete by `FencedOut`, which the entry makes and all the work of
a snapshot complete keeps. -/
theorem fenceTaken : Obligations.FenceTaken := by
  intro s hp hj hrun
  have hcan := (canFence_iff s).mpr hj
  have hne : s.member.join ≠ .fenced := by rcases hj with h | h | h <;> rw [h] <;> decide
  have hreach : fenceReaches s = true := by simp [fenceReaches, hp, hcan, reaches, hrun]
  obtain ⟨hjoin, hstand, hoff, hlost, hslot, hlatch, hflag, htiming, hother⟩ :=
    enterFenced_spec (s := putFenceRun 3 s) hne
  refine ⟨_, exec_fence_of_reaches hreach, ?_⟩
  rw [orphanStep_of_not_member (by rw [hjoin]; decide)]
  refine ⟨hjoin, hstand, hoff, hlost, hslot, hlatch, hflag, htiming, hother, fun o b hmis hpeer =>
    ⟨_, exec_snapshotComplete_of_fenceReported hp (fenceReported_of_third_mismatch hcan hrun hmis hpeer) o b, ?_⟩⟩
  have hu := fencedOut_orphanStep (fencedOut_snapshotWithFence (s := putFenceRun (fenceRunNext s) s) hne o b)
  exact ⟨hu.join, hu.off, hu.idle, hu.slot, hu.flag⟩

end Sys2Proof

namespace Sys2Proof
open Machine

/-! ## The key sample (R15, R16, R49, R120, R139) -/

/-! ### What the supervision runs keep -/

/-- From s to t only runs and causes of the clamp unit moved: the clamp-seen state and the settle run stand, no desk flag
changed and no site flag was lowered. -/
structure SeenKept (s t : State) : Prop where
  seen : t.clamp.seen = s.clamp.seen
  settleRun : t.clamp.settleRun = s.clamp.settleRun
  deskFlags : t.link.deskFlags = s.link.deskFlags
  siteFlags : ∀ f, siteFlagSet s f → siteFlagSet t f

theorem SeenKept.refl (s : State) : SeenKept s s := ⟨rfl, rfl, rfl, fun _ h => h⟩

theorem SeenKept.after {s t u : State} (k : SeenKept t u) (h : SeenKept s t) : SeenKept s u :=
  ⟨k.seen.trans h.seen, k.settleRun.trans h.settleRun, k.deskFlags.trans h.deskFlags,
    fun f hf => k.siteFlags f (h.siteFlags f hf)⟩

theorem seenKept_raiseSite (f : SiteFlag) (s : State) : SeenKept s (raiseSite f s) :=
  ⟨rfl, rfl, rfl, fun _ h => siteFlagSet_raiseSite_of f h⟩

/-- A change of the clamp unit that leaves what it has seen. -/
theorem seenKept_setClamp {s : State} {c : Clamp} (hseen : c.seen = s.clamp.seen) (hrun : c.settleRun = s.clamp.settleRun) :
    SeenKept s (s.setClamp c) :=
  ⟨hseen, hrun, rfl, fun _ h => h⟩

theorem seenKept_putCauses (x : Byte) (s : State) : SeenKept s (putCauses x s) := by
  unfold putCauses
  split
  · exact .refl s
  · exact (seenKept_raiseSite .clampChange _).after (seenKept_setClamp rfl rfl)

theorem seenKept_setGuardCause (c : Cause) (s : State) : SeenKept s (setGuardCause c s) := by
  unfold setGuardCause
  split
  · exact .refl s
  · exact (seenKept_raiseSite .guard _).after (seenKept_putCauses _ s)

theorem seenKept_clearGuardCause (c : Cause) (s : State) : SeenKept s (clearGuardCause c s) := by
  unfold clearGuardCause
  split
  · exact (seenKept_raiseSite .guard _).after (seenKept_putCauses _ s)
  · exact .refl s

theorem seenKept_stuckStep (s : State) : SeenKept s (stuckStep s) := by
  unfold stuckStep
  split
  · exact .refl s
  split
  · dsimp only
    split
    · exact (seenKept_putCauses _ _).after (seenKept_setClamp rfl rfl)
    · exact seenKept_setClamp rfl rfl
  · exact seenKept_setClamp rfl rfl

theorem seenKept_noRfStep (s : State) : SeenKept s (noRfStep s) := by
  unfold noRfStep
  split
  · exact .refl s
  split
  · dsimp only
    split
    · exact (seenKept_raiseSite .noRf _).after (seenKept_setClamp rfl rfl)
    · exact seenKept_setClamp rfl rfl
  · exact seenKept_setClamp rfl rfl

theorem seenKept_reflectStep (s : State) : SeenKept s (reflectStep s) := by
  unfold reflectStep
  split
  · exact .refl s
  split
  · split
    · exact seenKept_setClamp rfl rfl
    split
    · exact seenKept_setClamp rfl rfl
    · exact (seenKept_clearGuardCause .reflect _).after (seenKept_setClamp rfl rfl)
  · split
    · exact seenKept_setClamp rfl rfl
    split
    · exact seenKept_setClamp rfl rfl
    · exact (seenKept_setGuardCause .reflect _).after (seenKept_setClamp rfl rfl)

/-! ### The settle (R139) -/

/-- R139: the state seen and the run become those given, with CLAMP_CHANGE where the state changes; no desk flag moves. -/
theorem putSeen_spec (x : ClampSeen) (n : Nat) (s : State) :
    (putSeen x n s).clamp.seen = x ∧ (putSeen x n s).clamp.settleRun = n
    ∧ (putSeen x n s).link.deskFlags = s.link.deskFlags
    ∧ (x ≠ s.clamp.seen → siteFlagSet (putSeen x n s) .clampChange) := by
  unfold putSeen
  by_cases h : s.clamp.seen = x
  · rw [if_pos h]
    exact ⟨rfl, rfl, rfl, fun hne => absurd h.symm hne⟩
  · rw [if_neg h]
    exact ⟨rfl, rfl, rfl, fun _ => siteFlagSet_raiseSite .clampChange _⟩

theorem settleStep_asserted {s : State} (h : s.bus.sampNow.clampl = true) : settleStep s = putSeen .clamped 0 s := by
  simp [settleStep, h]

/-- R139: the state and run after a sample with CLAMPL negated. -/
def settleNext (seen : ClampSeen) (run : Nat) : ClampSeen × Nat :=
  match seen with
  | .clamped => (.settling, 1)
  | .settling => if run + 1 < 10 then (.settling, run + 1) else (.clear, 10)
  | .clear => (.clear, 10)

theorem settleStep_negated {s : State} (h : s.bus.sampNow.clampl = false) : settleStep s =
    putSeen (settleNext s.clamp.seen s.clamp.settleRun).1 (settleNext s.clamp.seen s.clamp.settleRun).2 s := by
  cases hseen : s.clamp.seen with
  | clamped => simp [settleStep, settleNext, h, hseen]
  | settling =>
    by_cases hr : s.clamp.settleRun + 1 < 10 <;> simp [settleStep, settleNext, h, hseen, hr, Config.settleSamples]
  | clear => simp [settleStep, settleNext, h, hseen, Config.settleSamples]

/-- In both cases the settle moves no desk flag and raises CLAMP_CHANGE with a change of the state seen. -/
theorem settleStep_flags (s : State) : (settleStep s).link.deskFlags = s.link.deskFlags
    ∧ ((settleStep s).clamp.seen ≠ s.clamp.seen → siteFlagSet (settleStep s) .clampChange) := by
  cases h : s.bus.sampNow.clampl with
  | true =>
    obtain ⟨hseen, -, hdesk, hflag⟩ := putSeen_spec .clamped 0 s
    rw [settleStep_asserted h, hseen]
    exact ⟨hdesk, hflag⟩
  | false =>
    obtain ⟨hseen, -, hdesk, hflag⟩ := putSeen_spec (settleNext s.clamp.seen s.clamp.settleRun).1
      (settleNext s.clamp.seen s.clamp.settleRun).2 s
    rw [settleStep_negated h, hseen]
    exact ⟨hdesk, hflag⟩

/-! ### Holdings ended off the air -/

/-- R47: every holding of the station ended with a reason that leads to IDLE, the air sequencer already OFF. -/
theorem holdingEndedAt_endHoldings {r : EndReason} (h : r ≠ .timeout) (h' : r ≠ .starved) (s : State) (d : Desk) :
    holdingEndedAt r s (endHoldings r (airOff s)) d := by
  have e : getDesk (airOff s) d = getDesk s d := getDesk_of_claims (by simp) d
  have hoff (x : RecState) : hasState (airOff s) d x ↔ hasState s d x := by simp [hasState, e]
  refine ⟨fun hh => ?_, fun hh => ?_⟩
  · obtain ⟨hrec, hdrain, hpub⟩ := ended_record (getDesk s d) r h h'
    rw [getDesk_endHoldings, if_pos ((hoff _).mpr hh), e]
    exact ⟨hrec, hdrain, hpub, deskFlagSet_endHoldings r ((hoff _).mpr hh)⟩
  · rw [getDesk_endHoldings, if_neg (mt (hoff _).mp hh), e]

theorem holdingEndedAt_of {r : EndReason} {s t u : State} {d : Desk} (h : holdingEndedAt r s t d)
    (hc : u.claims.desks = t.claims.desks) (hl : u.link.deskFlags = t.link.deskFlags) : holdingEndedAt r s u d := by
  simpa [holdingEndedAt, getDesk, deskFlagSet, hc, hl] using h

/-! ### The sample -/

theorem clampedSample_asserted {s : State} (h : s.bus.sampNow.clampl = true) :
    clampedSample s = endHoldings .clamped (airOff s) := by
  simp [clampedSample, h]

theorem clampedSample_negated {s : State} (h : s.bus.sampNow.clampl = false) : clampedSample s = s := by
  simp [clampedSample, h]

theorem clampedSample_samples (s : State) : (clampedSample s).bus.sampNow = s.bus.sampNow
    ∧ (clampedSample s).bus.sampPrev = s.bus.sampPrev := by
  unfold clampedSample
  split <;> simp [airOff]

theorem clampedSample_clamp (s : State) : (clampedSample s).clamp = s.clamp := by simp

/-- The part of a key sample that the clamp and the settle make. The runs after it keep what they leave. -/
def sampleSettled (x : Lines) (s : State) : State := settleStep (clampedSample (keepSample x s))

theorem seenKept_keySampleWork (x : Lines) (s : State) : SeenKept (sampleSettled x s) (keySampleWork x s) :=
  (seenKept_reflectStep _).after ((seenKept_noRfStep _).after (seenKept_stuckStep _))

/-- A key sample touches the bus, the claims, the air sequencer and the identification in its first part only. -/
theorem keySampleWork_blocks (x : Lines) (s : State) :
    (keySampleWork x s).bus = (clampedSample (keepSample x s)).bus
    ∧ (keySampleWork x s).claims = (clampedSample (keepSample x s)).claims
    ∧ (keySampleWork x s).air = (clampedSample (keepSample x s)).air
    ∧ (keySampleWork x s).ident = (clampedSample (keepSample x s)).ident := by
  simp [keySampleWork]

theorem keySampleWork_deskFlags (x : Lines) (s : State) :
    (keySampleWork x s).link.deskFlags = (clampedSample (keepSample x s)).link.deskFlags :=
  (seenKept_keySampleWork x s).deskFlags.trans (settleStep_flags _).1

theorem keySampleWork_clampChange (x : Lines) (s : State) (h : (keySampleWork x s).clamp.seen ≠ s.clamp.seen) :
    siteFlagSet (keySampleWork x s) .clampChange := by
  have hkept := seenKept_keySampleWork x s
  refine hkept.siteFlags _ ((settleStep_flags _).2 ?_)
  rw [hkept.seen] at h
  rw [clampedSample_clamp]
  exact h

/-- R16, R49, R120: a sample that finds CLAMPL asserted. -/
theorem keySampleWork_asserted {x : Lines} (h : x.clampl = true) (s : State) :
    airIsOff (keySampleWork x s) ∧ (∀ d, holdingEndedAt .clamped s (keySampleWork x s) d)
    ∧ (keySampleWork x s).air.leadRun = (if s.air.state = .off then s.air.leadRun else 0)
    ∧ (keySampleWork x s).air.tailRun = (if s.air.state = .off then s.air.tailRun else 0)
    ∧ (keySampleWork x s).clamp.seen = .clamped ∧ (keySampleWork x s).clamp.settleRun = 0 := by
  have e : clampedSample (keepSample x s) = endHoldings .clamped (airOff (keepSample x s)) := clampedSample_asserted h
  obtain ⟨hbus, hclaims, hair, hident⟩ := keySampleWork_blocks x s
  have hdesk := keySampleWork_deskFlags x s
  have hkept := seenKept_keySampleWork x s
  obtain ⟨hseen, hrun, -⟩ := putSeen_spec .clamped 0 (clampedSample (keepSample x s))
  have hsettle : sampleSettled x s = putSeen .clamped 0 (clampedSample (keepSample x s)) :=
    settleStep_asserted (by rw [(clampedSample_samples _).1]; exact h)
  rw [e] at hbus hclaims hair hident hdesk
  have hoff := airIsOff_airOff (keepSample x s)
  obtain ⟨hlead, htail⟩ := airOff_runs (keepSample x s)
  have hendair : (endHoldings .clamped (airOff (keepSample x s))).air = (airOff (keepSample x s)).air :=
    endHoldings_air_off .clamped rfl rfl
  refine ⟨airIsOff_of_blocks (airIsOff_endHoldings .clamped hoff) hair hbus hident, fun d => ?_, ?_, ?_, ?_, ?_⟩
  · have hended : holdingEndedAt .clamped s (endHoldings .clamped (airOff (keepSample x s))) d :=
      holdingEndedAt_endHoldings (by decide) (by decide) (keepSample x s) d
    exact holdingEndedAt_of hended (by rw [hclaims]) hdesk
  · rw [hair, hendair, hlead]; rfl
  · rw [hair, hendair, htail]; rfl
  · rw [hkept.seen, hsettle, hseen]
  · rw [hkept.settleRun, hsettle, hrun]

/-- R139: a sample that finds CLAMPL negated. -/
theorem keySampleWork_negated {x : Lines} (h : x.clampl = false) (s : State) :
    (keySampleWork x s).claims = s.claims ∧ (keySampleWork x s).air = s.air ∧ (keySampleWork x s).ident = s.ident
    ∧ (keySampleWork x s).bus = { s.bus with sampNow := x, sampPrev := s.bus.sampNow }
    ∧ (keySampleWork x s).clamp.seen = (settleNext s.clamp.seen s.clamp.settleRun).1
    ∧ (keySampleWork x s).clamp.settleRun = (settleNext s.clamp.seen s.clamp.settleRun).2 := by
  have e : clampedSample (keepSample x s) = keepSample x s := clampedSample_negated h
  obtain ⟨hbus, hclaims, hair, hident⟩ := keySampleWork_blocks x s
  have hkept := seenKept_keySampleWork x s
  rw [e] at hbus hclaims hair hident
  have hsettle : sampleSettled x s = putSeen (settleNext s.clamp.seen s.clamp.settleRun).1
      (settleNext s.clamp.seen s.clamp.settleRun).2 (keepSample x s) := by
    rw [sampleSettled, e]
    exact settleStep_negated h
  obtain ⟨hseen, hrun, -⟩ := putSeen_spec (settleNext s.clamp.seen s.clamp.settleRun).1
    (settleNext s.clamp.seen s.clamp.settleRun).2 (keepSample x s)
  refine ⟨hclaims, hair, hident, hbus, ?_, ?_⟩
  · rw [hkept.seen, hsettle]; exact hseen
  · rw [hkept.settleRun, hsettle]; exact hrun

theorem exec_keySample_of_runs {s : State} (h : sampleRuns s = true) (keyl clampl rfon refl : Bool) :
    exec (.keySample keyl clampl rfon refl) s = .next (keySampleWork (linesSeen s keyl clampl rfon refl) s) := by
  simp [exec, execKeySample, whenRuns, h]

/-- R8, R15: CLAMPL is sampled asserted where it is driven from outside or by the own cause set. -/
theorem linesSeen_clampl (s : State) (keyl clampl rfon refl : Bool) :
    (linesSeen s keyl clampl rfon refl).clampl = (clampl || decide (s.clamp.causes ≠ 0)) := by
  have hdrive : clamplDrive s = decide (s.clamp.causes ≠ 0) := by
    rw [Bool.eq_iff_iff, decide_eq_true_iff]
    exact bne_iff_ne
  rw [← hdrive]
  rfl

/-- Settles O36, by whether the sample finds CLAMPL asserted; the supervision runs that follow keep what it leaves. -/
theorem keySampleTaken : Obligations.KeySampleTaken := by
  intro s keyl clampl rfon refl hruns
  have hlines : linesSeen s keyl clampl rfon refl
      = ⟨keyl || s.bus.keylDrive, clampl || decide (s.clamp.causes ≠ 0), rfon, refl⟩ :=
    congrArg (fun c => (⟨keyl || s.bus.keylDrive, c, rfon, refl⟩ : Lines)) (linesSeen_clampl s keyl clampl rfon refl)
  have hx := linesSeen_clampl s keyl clampl rfon refl
  refine ⟨_, exec_keySample_of_runs hruns keyl clampl rfon refl, ?_⟩
  rw [← hlines]
  generalize linesSeen s keyl clampl rfon refl = x at hx
  obtain ⟨hbus, -⟩ := keySampleWork_blocks x s
  obtain ⟨hnow, hprev⟩ := clampedSample_samples (keepSample x s)
  refine ⟨?_, ?_, ?_, fun hc => ?_, fun hc hcauses => ?_, keySampleWork_clampChange x s⟩
  · rw [hbus, hnow]; rfl
  · rw [hbus, hprev]; rfl
  · apply State.eq_of_blocks <;> simp
  · have hassert : x.clampl = true := by rw [hx, Bool.or_eq_true, decide_eq_true_iff]; exact hc
    obtain ⟨hoff, hended, hlead, htail, hseen, hrun⟩ := keySampleWork_asserted hassert s
    refine ⟨hoff, hended, fun hair => ?_, fun hair => ?_, hseen, hrun⟩
    · rw [hlead, htail, if_neg hair, if_neg hair]; exact ⟨rfl, rfl⟩
    · rw [hlead, htail, if_pos hair, if_pos hair]; exact ⟨rfl, rfl⟩
  · have hneg : x.clampl = false := by rw [hx]; simp [hc, hcauses]
    obtain ⟨hclaims, hair, hident, hb, hseen, hrun⟩ := keySampleWork_negated hneg s
    rw [hseen, hrun, hb]
    refine ⟨hclaims, hair, hident, rfl, rfl, fun h => ?_, fun h hlt => ?_, fun h hle => ?_, fun h => ?_⟩ <;> rw [h]
    · exact ⟨rfl, rfl⟩
    · have : s.clamp.settleRun + 1 < 10 := by omega
      simp [settleNext, this]
    · have : ¬ s.clamp.settleRun + 1 < 10 := by omega
      simp [settleNext, this]
    · exact ⟨rfl, rfl⟩

end Sys2Proof

namespace Sys2Proof
open Machine

/-! ## Slots received from peers (R10, R11, R12, R36, R37, R55, R56) -/

/-! ### What the checks at slot received 7 and an unclamp order leave of the peers -/

/-- From s to t the judgements, headers, mirrors and presence entries stand, the own slot and its readback too, and no site
flag was lowered. -/
structure PeersKept (s t : State) : Prop where
  judge : t.bus.judge = s.bus.judge
  headers : t.bus.headers = s.bus.headers
  ownSlot : t.bus.ownSlot = s.bus.ownSlot
  readback : t.bus.readback = s.bus.readback
  mirrors : t.claims.mirrors = s.claims.mirrors
  presence : t.member.presence = s.member.presence
  siteFlags : ∀ f, siteFlagSet s f → siteFlagSet t f

theorem PeersKept.refl (s : State) : PeersKept s s := ⟨rfl, rfl, rfl, rfl, rfl, rfl, fun _ h => h⟩

theorem PeersKept.after {s t u : State} (k : PeersKept t u) (h : PeersKept s t) : PeersKept s u :=
  ⟨k.judge.trans h.judge, k.headers.trans h.headers, k.ownSlot.trans h.ownSlot, k.readback.trans h.readback,
    k.mirrors.trans h.mirrors, k.presence.trans h.presence, fun f hf => k.siteFlags f (h.siteFlags f hf)⟩

theorem peersKept_raiseSite (f : SiteFlag) (s : State) : PeersKept s (raiseSite f s) :=
  ⟨rfl, rfl, rfl, rfl, rfl, rfl, fun _ h => siteFlagSet_raiseSite_of f h⟩

theorem peersKept_setJoin (j : JoinState) (s : State) : PeersKept s (setJoin j s) := by
  refine ⟨by simp, by simp, by simp, by simp, by simp, setJoin_presence j s, fun f hf => ?_⟩
  unfold setJoin
  split
  · exact hf
  · refine siteFlagSet_raiseSite_of _ ?_
    split <;> exact hf

theorem peersKept_clearAnnounce (s : State) : PeersKept s (clearAnnounce s) := ⟨rfl, rfl, rfl, rfl, rfl, rfl, fun _ h => h⟩

theorem peersKept_setSync (s : State) (x : Sync) : PeersKept s (s.setSync x) := ⟨rfl, rfl, rfl, rfl, rfl, rfl, fun _ h => h⟩

theorem peersKept_airOff (s : State) : PeersKept s (airOff s) := ⟨rfl, rfl, rfl, rfl, rfl, rfl, fun _ h => h⟩

theorem mirrors_endHolding (d : Desk) (r : EndReason) (s : State) :
    (endHolding d r s).claims.mirrors = s.claims.mirrors := by
  unfold endHolding
  split
  · rw [tellEnded_claims]; rfl
  · rfl

theorem mirrors_endHoldings (r : EndReason) (s : State) : (endHoldings r s).claims.mirrors = s.claims.mirrors := by
  simp only [endHoldings, allDesks, List.foldl, mirrors_endHolding]

theorem peersKept_endHoldings (r : EndReason) (s : State) : PeersKept s (endHoldings r s) :=
  ⟨by simp, by simp, by simp, by simp, mirrors_endHoldings r s, by simp,
    fun f hf => by rw [siteFlagSet, siteFlags_endHoldings]; exact hf⟩

theorem peersKept_joinAtHoldover (s : State) : PeersKept s (joinAtHoldover s) := by
  unfold joinAtHoldover
  split
  · exact (peersKept_setJoin .listen _).after (peersKept_clearAnnounce s)
  · exact .refl s

theorem peersKept_enterHoldover (s : State) : PeersKept s (enterHoldover s) :=
  (peersKept_raiseSite .syncChange _).after ((peersKept_setSync _ _).after ((peersKept_joinAtHoldover _).after
    ((peersKept_endHoldings .syncLost _).after (peersKept_airOff s))))

theorem peersKept_missStep (s : State) : PeersKept s (missStep s) := by
  unfold missStep
  split
  · split
    · unfold countMiss
      dsimp only
      split
      · exact (peersKept_enterHoldover _).after (peersKept_setSync s _)
      · exact peersKept_setSync s _
    · exact peersKept_setSync s _
  · exact .refl s

theorem peersKept_announceCompare (s : State) : PeersKept s (announceCompare s) := by
  unfold announceCompare
  split
  · split
    · exact peersKept_setJoin .member s
    · split
      · split <;> exact peersKept_setJoin _ s
      · exact .refl s
    all_goals exact .refl s
  · exact .refl s

theorem peersKept_lastSlotChecks (k : Station) (s : State) : PeersKept s (lastSlotChecks k s) := by
  unfold lastSlotChecks
  split
  · exact (peersKept_announceCompare _).after (peersKept_missStep s)
  · exact .refl s

theorem seenKept_unclampReceipt (s : State) : SeenKept s (unclampReceipt s) :=
  (seenKept_putCauses _ _).after (seenKept_setClamp rfl rfl)

theorem peersKept_takeOrder (order : Bool) (s : State) : PeersKept s (takeOrder order s) := by
  refine ⟨by simp, by simp, by simp, by simp, by simp, by simp, fun f hf => ?_⟩
  unfold takeOrder
  split
  · exact (seenKept_unclampReceipt s).siteFlags f hf
  · exact hf

/-! ### Presence entries (R36, R37) -/

theorem putPresence_presence (k : Station) (x : Presence) (s : State) :
    (putPresence k x s).member.presence = s.member.presence.set k x := by
  unfold putPresence
  dsimp only
  split <;> rfl

theorem putPresence_peerChange {k : Station} {x : Presence} {s : State} (h : x.state ≠ (s.member.presence.get k).state) :
    siteFlagSet (putPresence k x s) .peerChange := by
  unfold putPresence
  dsimp only
  rw [if_neg (Ne.symm h)]
  exact siteFlagSet_raiseSite .peerChange _

theorem Machine.Presence.fresh_runs (e : Presence) (join : BitVec 3) :
    (e.fresh join).staleRun = 0 ∧ (e.fresh join).bad = e.bad := by
  unfold Presence.fresh
  split
  · exact ⟨rfl, rfl⟩
  split
  · exact ⟨rfl, rfl⟩
  split <;> exact ⟨rfl, rfl⟩

/-- A join field that names none of ANNOUNCE, MEMBER and MISMATCH. -/
theorem Machine.Presence.fresh_other (e : Presence) {join : BitVec 3} (h : join = 0 ∨ 4 ≤ join.toNat) :
    (e.fresh join).state = e.state ∧ (e.fresh join).freshRun = 0 := by
  have h1 : join ≠ 1 := by rintro rfl; revert h; decide
  have h2 : join ≠ 2 := by rintro rfl; revert h; decide
  have h3 : join ≠ 3 := by rintro rfl; revert h; decide
  rw [Presence.fresh, if_neg h1, if_neg h2, if_neg h3]
  exact ⟨rfl, rfl⟩

theorem Machine.Presence.losing_iff (e : Presence) :
    e.losing = true ↔ 15 ≤ e.staleRun ∧ (e.state = .joining ∨ e.state = .joined) := by
  simp [Presence.losing]

theorem Machine.Presence.losing_eq_false {e : Presence}
    (h : e.staleRun < 15 ∨ e.state = .unseen ∨ e.state = .mismatched) : e.losing = false := by
  rw [← Bool.not_eq_true, e.losing_iff]
  rintro ⟨hrun, hstate⟩
  rcases h with h | h | h
  · omega
  · rw [h] at hstate; simp at hstate
  · rw [h] at hstate; simp at hstate

/-! ### One slot of a peer position -/

theorem freshSlot_spec (k : Station) (x : SlotIn) (s : State) :
    (freshSlot k x s).bus.judge = s.bus.judge.set k .fresh
    ∧ (freshSlot k x s).bus.headers = s.bus.headers.set k (some (headerOf (ownCount s) x))
    ∧ (freshSlot k x s).claims.mirrors = s.claims.mirrors.set k x.recs
    ∧ (freshSlot k x s).member.presence = s.member.presence.set k ((s.member.presence.get k).fresh x.join)
    ∧ (((s.member.presence.get k).fresh x.join).state ≠ (s.member.presence.get k).state →
      siteFlagSet (freshSlot k x s) .peerChange) := by
  refine ⟨?_, ?_, ?_, putPresence_presence _ _ _, fun h => ?_⟩
  · simp [freshSlot, putJudge, putMirrors]
  · simp [freshSlot, putJudge, putMirrors]
  · simp [freshSlot, putMirrors]
  · exact putPresence_peerChange (s := State.setBus _ _) h

/-- R37, R56: the entry counts the stale slot, and the mirrors of a JOINED peer that is lost become ABSENT. -/
theorem peerStale_spec (k : Station) (driven : Bool) (s : State) :
    (peerStale k driven s).member.presence = s.member.presence.set k ((s.member.presence.get k).stale driven)
    ∧ ((s.member.presence.get k).losing = true → siteFlagSet (peerStale k driven s) .peerChange)
    ∧ (peerStale k driven s).claims.mirrors =
      if (s.member.presence.get k).losing = true ∧ (s.member.presence.get k).state = .joined
      then s.claims.mirrors.set k (.all .absent) else s.claims.mirrors := by
  have hpres := putPresence_presence k ((s.member.presence.get k).stale driven) s
  have hflag : (s.member.presence.get k).losing = true →
      siteFlagSet (putPresence k ((s.member.presence.get k).stale driven) s) .peerChange := fun hl => by
    refine putPresence_peerChange ?_
    have hstate : ((s.member.presence.get k).stale driven).state = .unseen := if_pos hl
    obtain ⟨-, h | h⟩ := (Presence.losing_iff _).mp hl <;> rw [hstate, h] <;> decide
  unfold peerStale
  dsimp only
  by_cases hl : (s.member.presence.get k).losing = true ∧ (s.member.presence.get k).state = .joined
  · rw [if_pos (by simpa using hl), if_pos hl]
    exact ⟨hpres, hflag, by simp [clearMirrors]⟩
  · rw [if_neg (by simpa using hl), if_neg hl]
    exact ⟨hpres, hflag, by simp⟩

theorem exec_slotReceived_of_runs {s : State} (h : pointsRun s = true) (k : Station) (x : BitVec 208) :
    exec (.slotReceived k x) s = .next (slotArrives k x s) := by
  simp [exec, execSlotReceived, whenRuns, h]

theorem slotArrives_fresh {s : State} {k : Station} {x : BitVec 208} (hk : k ≠ ownStation s)
    (h : slotFresh (ownCount s) k x = true) :
    slotArrives k x s = takeOrder (peerOrder (slotOf x)) (lastSlotChecks k (freshSlot k (slotOf x) s)) := by
  rw [slotArrives, if_neg hk, if_pos h]

theorem slotArrives_stale {s : State} {k : Station} {x : BitVec 208} (hk : k ≠ ownStation s)
    (h : slotFresh (ownCount s) k x = false) : slotArrives k x s = lastSlotChecks k (staleSlot k x s) := by
  rw [slotArrives, if_neg hk, if_neg (by rw [h]; decide)]

/-- R10: a slot that fails one of the four checks. -/
theorem slotFresh_eq_false_iff (now : Count) (k : Station) (b : BitVec 208) :
    slotFresh now k b = false ↔ b = BitVec.allOnes 208 ∨ slotCrcGood b = false ∨ (slotOf b).echo ≠ echoOf now
      ∨ (slotOf b).station.toNat ≠ k.val := by
  rw [← Bool.not_eq_true, slotFresh_iff]
  simp only [not_and_or, not_not, Bool.not_eq_true, ne_eq]

/-- Settles O34, by whether the slot passes the four checks; what is done at slot received 7 after it keeps the peers. -/
theorem peerSlotFreshOrStale : Obligations.PeerSlotFreshOrStale := by
  intro s k x hp hk
  refine ⟨_, exec_slotReceived_of_runs hp k x, fun hdriven hcrc hecho hstation => ?_, fun hfail => ?_⟩
  · rw [slotArrives_fresh hk ((slotFresh_iff _ _ _).mpr ⟨hdriven, hcrc, hecho, hstation⟩)]
    have hkept := (peersKept_takeOrder (peerOrder (slotOf x)) _).after
      (peersKept_lastSlotChecks k (freshSlot k (slotOf x) s))
    obtain ⟨hjudge, hheader, hmirror, hpres, hflag⟩ := freshSlot_spec k (slotOf x) s
    obtain ⟨hstale, hbad⟩ := (s.member.presence.get k).fresh_runs (slotOf x).join
    rw [hkept.judge, hkept.headers, hkept.mirrors, hkept.presence, hjudge, hheader, hmirror, hpres]
    rw [Eight.get_set_self]
    refine ⟨rfl, rfl, rfl, fun j hj => Eight.get_set_ne _ _ hj, hstale, hbad, fun h => ?_, fun h => ?_, fun h => ?_,
      fun h => Presence.fresh_other _ h, fun h => hkept.siteFlags _ (hflag h)⟩
    · rw [h]; exact ⟨rfl, rfl⟩
    · rw [h]; exact ⟨rfl, rfl⟩
    · rw [h]; exact ⟨rfl, rfl⟩
  · rw [slotArrives_stale hk ((slotFresh_eq_false_iff _ _ _).mpr hfail)]
    have hkept := peersKept_lastSlotChecks k (staleSlot k x s)
    obtain ⟨hpres, hflag, hmirror⟩ := peerStale_spec k (x != BitVec.allOnes 208) (putJudge k .stale s)
    have hjudge : (staleSlot k x s).bus = (putJudge k .stale s).bus := by simp [staleSlot]
    rw [hkept.judge, hkept.headers, hkept.mirrors, hkept.presence, hjudge, staleSlot, hpres, hmirror]
    rw [Eight.get_set_self]
    refine ⟨rfl, rfl, fun j hj => Eight.get_set_ne _ _ hj, rfl, rfl, ?_, fun hrun hstate => ?_, fun h => ?_,
      fun hrun hstate => ?_⟩
    · by_cases hx : x = BitVec.allOnes 208
      · rw [if_pos hx, hx, bne_self_eq_false]; rfl
      · rw [if_neg hx, bne_iff_ne.mpr hx]; rfl
    · have hl : (s.member.presence.get k).losing = true := (Presence.losing_iff _).mpr ⟨hrun, hstate⟩
      exact ⟨if_pos hl, hkept.siteFlags _ (hflag hl)⟩
    · have hl := Presence.losing_eq_false h
      have hlost : (putJudge k .stale s).member.presence.get k = s.member.presence.get k := rfl
      rw [hlost, hl]
      exact ⟨by simp [Presence.stale, hl], by simp [putJudge]⟩
    · exact if_pos ⟨(Presence.losing_iff _).mpr ⟨hrun, .inr hstate⟩, hstate⟩

end Sys2Proof

namespace Sys2Proof
open Machine

/-! ## The own slot read back, and an unclamp order received (R13, R32, R142) -/

/-! ### The slot itself, before the checks at slot received 7 -/

/-- R10 to R13, R36, R37, R55: the slot received at position k, judged or read back. -/
def slotTaken (k : Station) (x : BitVec 208) (s : State) : State :=
  if k = ownStation s then ownSlotReceived x s
  else if slotFresh (ownCount s) k x then freshSlot k (slotOf x) s
  else staleSlot k x s

/-- What a slot at position k leaves: everything that the checks at slot received 7 and an order look at, but for the
position itself. -/
structure SlotLeaves (k : Station) (s t : State) : Prop where
  join : t.member.join = s.member.join
  announceRun : t.member.announceRun = s.member.announceRun
  sync : t.sync = s.sync
  setup : t.setup = s.setup
  clamp : t.clamp = s.clamp
  syncGood : t.bus.syncGood = s.bus.syncGood
  ownSlot : t.bus.ownSlot = s.bus.ownSlot
  judge : ∀ j, j ≠ k → t.bus.judge.get j = s.bus.judge.get j
  headers : ∀ j, j ≠ k → t.bus.headers.get j = s.bus.headers.get j

theorem putPresence_member (k : Station) (x : Presence) (s : State) :
    (putPresence k x s).member = { s.member with presence := s.member.presence.set k x } := by
  unfold putPresence
  dsimp only
  split <;> rfl

theorem peerStale_member (k : Station) (driven : Bool) (s : State) : (peerStale k driven s).member
    = { s.member with presence := s.member.presence.set k ((s.member.presence.get k).stale driven) } := by
  unfold peerStale
  dsimp only
  split <;> exact putPresence_member k _ s

theorem slotLeaves_freshSlot (k : Station) (x : SlotIn) (s : State) : SlotLeaves k s (freshSlot k x s) := by
  have hbus : (freshSlot k x s).bus = { s.bus with
      judge := s.bus.judge.set k .fresh, headers := s.bus.headers.set k (some (headerOf (ownCount s) x)) } := by
    simp [freshSlot, putJudge]
  have hmember : (freshSlot k x s).member
      = { s.member with presence := s.member.presence.set k ((s.member.presence.get k).fresh x.join) } :=
    putPresence_member k _ _
  refine ⟨by rw [hmember], by rw [hmember], by simp, by simp, by simp, by rw [hbus], by rw [hbus], fun j hj => ?_,
    fun j hj => ?_⟩
  · rw [hbus]; exact Eight.get_set_ne _ _ hj
  · rw [hbus]; exact Eight.get_set_ne _ _ hj

theorem slotLeaves_staleSlot (k : Station) (x : BitVec 208) (s : State) : SlotLeaves k s (staleSlot k x s) := by
  have hbus : (staleSlot k x s).bus = { s.bus with judge := s.bus.judge.set k .stale } := by simp [staleSlot, putJudge]
  have hmember := peerStale_member k (x != BitVec.allOnes 208) (putJudge k .stale s)
  refine ⟨by rw [staleSlot, hmember]; rfl, by rw [staleSlot, hmember]; rfl, by simp, by simp, by simp, by rw [hbus],
    by rw [hbus], fun j hj => ?_, fun j _ => by rw [hbus]⟩
  rw [hbus]
  exact Eight.get_set_ne _ _ hj

theorem slotLeaves_slotTaken (k : Station) (x : BitVec 208) (s : State) : SlotLeaves k s (slotTaken k x s) := by
  unfold slotTaken
  split
  · exact ⟨rfl, rfl, rfl, rfl, rfl, rfl, rfl, fun _ _ => rfl, fun _ _ => rfl⟩
  split
  · exact slotLeaves_freshSlot k (slotOf x) s
  · exact slotLeaves_staleSlot k x s

/-! ### The checks at slot received 7 -/

theorem clamp_of_holdoverEntered {s t : State} (h : holdoverEntered s t) : t.clamp = s.clamp := by
  obtain ⟨-, -, -, -, -, -, hframe⟩ := h
  rw [hframe]

theorem enterHoldover_clamp (s : State) : (enterHoldover s).clamp = s.clamp :=
  clamp_of_holdoverEntered (holdoverEntered_enterHoldover s)

/-- R25: the entry to HOLDOVER ends an announcement and no other join state. -/
theorem enterHoldover_join (s : State) : (enterHoldover s).member.join = s.member.join
    ∨ s.member.join = .announce ∧ (enterHoldover s).member.join = .listen := by
  obtain ⟨-, -, -, hjoin, -⟩ := holdoverEntered_enterHoldover s
  by_cases h : s.member.join = .announce
  · exact .inr ⟨h, by rw [hjoin, if_pos h]⟩
  · exact .inl (by rw [hjoin, if_neg h])

theorem countMiss_clamp (s : State) : (countMiss s).clamp = s.clamp := by
  unfold countMiss
  dsimp only
  split
  · exact enterHoldover_clamp _
  · rfl

theorem countMiss_join (s : State) : (countMiss s).member.join = s.member.join
    ∨ s.member.join = .announce ∧ (countMiss s).member.join = .listen := by
  unfold countMiss
  dsimp only
  split
  · exact enterHoldover_join (s.setSync _)
  · exact .inl rfl

theorem missStep_clamp (s : State) : (missStep s).clamp = s.clamp := by
  unfold missStep
  split
  · split
    · exact countMiss_clamp s
    · rfl
  · rfl

theorem missStep_join (s : State) : (missStep s).member.join = s.member.join
    ∨ s.member.join = .announce ∧ (missStep s).member.join = .listen := by
  unfold missStep
  split
  · split
    · exact countMiss_join s
    · exact .inl rfl
  · exact .inl rfl

/-- R148: only leaving MEMBER touches the clamp unit. -/
theorem setJoin_clamp {s : State} (h : s.member.join ≠ .member) (j : JoinState) : (setJoin j s).clamp = s.clamp := by
  by_cases hj : s.member.join = j
  · rw [setJoin, if_pos hj]
  · simp [setJoin, hj, h]

theorem announceCompare_of_not_announce {s : State} (h : s.member.join ≠ .announce) : announceCompare s = s := by
  rw [announceCompare, if_neg (fun hc => h hc.1)]

theorem announceCompare_clamp (s : State) : (announceCompare s).clamp = s.clamp := by
  by_cases h : s.member.join = .announce
  · have hm : s.member.join ≠ .member := by rw [h]; decide
    unfold announceCompare
    split
    · split
      · exact setJoin_clamp hm .member
      · split
        · split <;> exact setJoin_clamp hm _
        · rfl
      all_goals rfl
    · rfl
  · rw [announceCompare_of_not_announce h]

theorem lastSlotChecks_clamp (k : Station) (s : State) : (lastSlotChecks k s).clamp = s.clamp := by
  unfold lastSlotChecks
  split
  · rw [announceCompare_clamp, missStep_clamp]
  · rfl

/-- A MEMBER stays MEMBER through the checks. -/
theorem lastSlotChecks_member {s : State} (h : s.member.join = .member) (k : Station) :
    (lastSlotChecks k s).member.join = .member := by
  have hmiss : (missStep s).member.join = .member := by
    rcases missStep_join s with e | ⟨e, -⟩
    · rw [e, h]
    · rw [h] at e; cases e
  unfold lastSlotChecks
  split
  · rw [announceCompare_of_not_announce (by rw [hmiss]; decide), hmiss]
  · exact h

/-- The checks make a MEMBER only of a station in ANNOUNCE, and only at slot received 7. -/
theorem member_of_lastSlotChecks {s : State} {k : Station} (h : (lastSlotChecks k s).member.join = .member) :
    s.member.join = .member ∨ s.member.join = .announce ∧ k = 7 := by
  unfold lastSlotChecks at h
  split at h
  next hk =>
    by_cases ha : (missStep s).member.join = .announce
    · rcases missStep_join s with e | ⟨e, -⟩
      · exact .inr ⟨e ▸ ha, hk⟩
      · exact .inr ⟨e, hk⟩
    · rw [announceCompare_of_not_announce ha] at h
      rcases missStep_join s with e | ⟨-, e⟩
      · exact .inl (e ▸ h)
      · rw [e] at h; cases h
  next => exact .inl h

/-! ### The end of an announcement (R32) -/

theorem announceCompare_timing {s : State} (hj : s.member.join = .announce) (hr : 16 ≤ s.member.announceRun)
    (ht : s.sync.state = .timing) : announceCompare s = setJoin .member s := by
  rw [announceCompare, if_pos ⟨hj, hr⟩, ht]

theorem announceCompare_locked {s : State} {h : Header} (hj : s.member.join = .announce) (hr : 16 ≤ s.member.announceRun)
    (hl : s.sync.state = .locked) (hh : s.sync.timingStation.bind (freshHeader s) = some h)
    (hd : s.setup.digest = some h.setupDigest) : announceCompare s = setJoin .member s := by
  rw [announceCompare, if_pos ⟨hj, hr⟩, hl]
  dsimp only
  rw [hh]
  dsimp only
  rw [if_pos hd.symm]

theorem missStep_of_not_locked {s : State} (h : s.sync.state ≠ .locked) : missStep s = s := by
  rw [missStep, if_neg h]

/-- R24: good sync fields and a fresh peer slot make a frame of a LOCKED station no miss. -/
theorem missStep_good {s : State} (hl : s.sync.state = .locked) (hg : s.bus.syncGood = true)
    (hp : allPeersStale s = false) : missStep s = s.setSync { s.sync with missRun := 0 } := by
  rw [missStep, if_pos hl, if_neg (by rw [hg, hp]; decide)]

theorem freshHeader_of_fresh {s : State} {k : Station} (h : judgedFresh s k = true) :
    freshHeader s k = s.bus.headers.get k := if_pos h

theorem lastSlotChecks_timing {s : State} (hj : s.member.join = .announce) (hr : 16 ≤ s.member.announceRun)
    (ht : s.sync.state = .timing) : (lastSlotChecks 7 s).member.join = .member := by
  rw [lastSlotChecks, if_pos rfl, missStep_of_not_locked (by rw [ht]; decide), announceCompare_timing hj hr ht, setJoin_join]

theorem lastSlotChecks_locked {s : State} {j : Station} {h : Header} (hj : s.member.join = .announce)
    (hr : 16 ≤ s.member.announceRun) (hl : s.sync.state = .locked) (hg : s.bus.syncGood = true)
    (hst : s.sync.timingStation = some j) (hf : judgedFresh s j = true) (hh : s.bus.headers.get j = some h)
    (hd : s.setup.digest = some h.setupDigest) : (lastSlotChecks 7 s).member.join = .member := by
  rw [lastSlotChecks, if_pos rfl, missStep_good hl hg (allPeersStale_of_fresh hf)]
  have hhead : freshHeader s j = some h := (freshHeader_of_fresh hf).trans hh
  have hbind : s.sync.timingStation.bind (freshHeader s) = some h := by rw [hst]; exact hhead
  rw [announceCompare_locked (s := s.setSync { s.sync with missRun := 0 }) hj hr hl hbind hd, setJoin_join]

/-! ### The order (R142) -/

theorem readbackOf_eq_good {s : State} {x : BitVec 208} :
    readbackOf s x = .good ↔ ∃ o, s.bus.ownSlot = some o ∧ s.bus.ownSlotDriven = true ∧ x = slotBits o := by
  unfold readbackOf
  split
  next o ho hd =>
    by_cases hx : slotBits o = x
    · simp [hx, ho, hd]
    · simp [hx, ho, hd, Ne.symm hx]
  next hno =>
    simp only [reduceCtorEq, false_iff]
    rintro ⟨o, ho, hd, -⟩
    exact hno o ho hd

theorem ownOrder_iff (s : State) : ownOrder s = true ↔ s.bus.readback = .good
    ∧ ∃ o, s.bus.ownSlot = some o ∧ o.join = .member ∧ o.flags.getLsbD 2 = true := by
  unfold ownOrder
  cases s.bus.ownSlot with
  | none => simp
  | some o => simp [flagUnclampOrder]

/-- Slot received k is the slot taken, the checks, and the order that it carries. -/
theorem slotArrives_eq (k : Station) (x : BitVec 208) (s : State) : ∃ order : Bool,
    slotArrives k x s = takeOrder order (lastSlotChecks k (slotTaken k x s)) ∧ (order = true ↔ carriesOrder s k x) := by
  by_cases hk : k = ownStation s
  · refine ⟨_, by rw [slotArrives, slotTaken, if_pos hk, if_pos hk], ?_⟩
    have hkept := peersKept_lastSlotChecks k (ownSlotReceived x s)
    have hrb : (ownSlotReceived x s).bus.readback = readbackOf s x := rfl
    have hown : (ownSlotReceived x s).bus.ownSlot = s.bus.ownSlot := rfl
    rw [ownOrder_iff, hkept.readback, hkept.ownSlot, hrb, hown, readbackOf_eq_good]
    constructor
    · rintro ⟨⟨o, ho, hd, hx⟩, o', ho', hm, hf⟩
      obtain rfl : o = o' := Option.some.inj (ho.symm.trans ho')
      exact .inl ⟨hk, hd, o, ho, hx, hm, hf⟩
    · rintro (⟨-, hd, o, ho, hx, hm, hf⟩ | ⟨hne, -⟩)
      · exact ⟨⟨o, ho, hd, hx⟩, o, ho, hm, hf⟩
      · exact absurd hk hne
  · cases hf : slotFresh (ownCount s) k x with
    | true =>
      refine ⟨peerOrder (slotOf x), by rw [slotArrives_fresh hk hf, slotTaken, if_neg hk, if_pos hf], ?_⟩
      simp only [peerOrder, Bool.and_eq_true, beq_iff_eq]
      constructor
      · rintro ⟨hm, ho⟩
        exact .inr ⟨hk, hf, hm, ho⟩
      · rintro (⟨he, -⟩ | ⟨-, -, hm, ho⟩)
        · exact absurd he hk
        · exact ⟨hm, ho⟩
    | false =>
      refine ⟨false, by rw [slotArrives_stale hk hf, slotTaken, if_neg hk, if_neg (by rw [hf]; decide)]; rfl, ?_⟩
      refine iff_of_false (by decide) ?_
      rintro (⟨he, -⟩ | ⟨-, hfresh, -⟩)
      · exact hk he
      · exact absurd (hf.symm.trans hfresh) (by decide)

/-- R142: the receipt clears the latching causes and the watch runs, and keeps HEAT, SENSOR and REFLECT. -/
theorem unclampReceipt_spec (s : State) :
    (unclampReceipt s).clamp
      = { s.clamp with causes := s.clamp.causes &&& 0x07, orphanRun := 0, stuckRun := 0, progRun := 0 }
    ∧ (s.clamp.causes &&& 0x07 ≠ s.clamp.causes → siteFlagSet (unclampReceipt s) .clampChange) := by
  have hmask : ~~~ latchingMask = 0x07 := by decide
  have hcauses : (clearWatchRuns s).clamp.causes = s.clamp.causes := rfl
  unfold unclampReceipt putCauses
  rw [hmask, hcauses]
  by_cases h : s.clamp.causes &&& 0x07 = s.clamp.causes
  · rw [if_pos h, h]
    exact ⟨rfl, fun hne => absurd rfl hne⟩
  · rw [if_neg h]
    exact ⟨rfl, fun _ => siteFlagSet_raiseSite .clampChange _⟩

theorem takeOrder_member {s : State} (h : s.member.join = .member) : takeOrder true s = unclampReceipt s := by
  simp [takeOrder, h]

theorem takeOrder_other {s : State} {order : Bool} (h : s.member.join ≠ .member ∨ order = false) :
    takeOrder order s = s := by
  rcases h with h | h <;> simp [takeOrder, h]

/-- Settles O35: a slot received is the slot taken, the checks at slot received 7 and the order (`slotArrives_eq`), and each
clause is about one of the three. -/
theorem readbackAndUnclampOrder : Obligations.ReadbackAndUnclampOrder := by
  intro s k x hp
  refine ⟨_, exec_slotReceived_of_runs hp k x, ?_⟩
  obtain ⟨order, harr, horder⟩ := slotArrives_eq k x s
  have hslot := slotLeaves_slotTaken k x s
  have hkept := (peersKept_takeOrder order _).after (peersKept_lastSlotChecks k (slotTaken k x s))
  have hmember : (takeOrder order (lastSlotChecks k (slotTaken k x s))).member
      = (lastSlotChecks k (slotTaken k x s)).member := by simp
  have hclamp : (lastSlotChecks k (slotTaken k x s)).clamp = s.clamp :=
    (lastSlotChecks_clamp k _).trans hslot.clamp
  rw [harr, hkept.judge, hkept.headers, hkept.readback, hmember]
  refine ⟨fun hk => ?_, fun hm => lastSlotChecks_member (hslot.join.trans hm) k, fun hm => ?_, fun hj hk hr => ?_,
    fun hm hc => ?_, fun hno => ?_⟩
  · have hown : slotTaken k x s = ownSlotReceived x s := if_pos hk
    rw [hown]
    refine ⟨rfl, rfl, fun hd => ?_, fun o ho hd => ⟨fun hx => ?_, fun hx => ?_⟩⟩
    · simp [ownSlotReceived, readbackOf, hd]
    · simp [ownSlotReceived, readbackOf, ho, hd, hx]
    · simp [ownSlotReceived, readbackOf, ho, hd, Ne.symm hx]
  · rcases member_of_lastSlotChecks hm with h | ⟨h, hk⟩
    · exact .inl (hslot.join.symm.trans h)
    · exact .inr ⟨hslot.join.symm.trans h, hk⟩
  · subst hk
    have hj' := hslot.join.trans hj
    have hr' : 16 ≤ (slotTaken 7 x s).member.announceRun := by rw [hslot.announceRun]; exact hr
    refine ⟨fun ht => lastSlotChecks_timing hj' hr' (by rw [hslot.sync]; exact ht),
      fun j h hl hg hst hj7 hjo hf hh hd => ?_⟩
    have hfresh : judgedFresh (slotTaken 7 x s) j = true := by
      rw [judgedFresh_iff, hslot.setup, hslot.judge j hj7]
      exact ⟨hjo, hf⟩
    exact lastSlotChecks_locked hj' hr' (by rw [hslot.sync]; exact hl) (by rw [hslot.syncGood]; exact hg)
      (by rw [hslot.sync]; exact hst) hfresh (by rw [hslot.headers j hj7]; exact hh) (by rw [hslot.setup]; exact hd)
  · rw [horder.mpr hc, takeOrder_member hm, ← hclamp]
    exact unclampReceipt_spec _
  · have hnone : (lastSlotChecks k (slotTaken k x s)).member.join ≠ .member ∨ order = false := by
      refine hno.imp_right fun hc => ?_
      rw [← Bool.not_eq_true, horder]
      exact hc
    rw [takeOrder_other hnone, hclamp]

end Sys2Proof

namespace Sys2Proof
open Machine

/-! ## A program field received (R17, R18, R124, R126, R146) -/

/-! ### Its class (R17) -/

theorem classify_undriven (now : Count) : classify now (BitVec.allOnes 168) = .undriven := if_pos rfl

theorem classify_driven {x : BitVec 168} (h : x ≠ BitVec.allOnes 168) (now : Count) : classify now x =
    if progCrcGood x = false ∨ 3 ≤ (progOf x).kind.toNat ∨ (progOf x).echo ≠ echoOf now then .error else .good := by
  rw [classify, if_neg h]
  simp [or_assoc]

theorem classify_error {x : BitVec 168} {now : Count} (h : x ≠ BitVec.allOnes 168)
    (hbad : progCrcGood x = false ∨ 3 ≤ (progOf x).kind.toNat ∨ (progOf x).echo ≠ echoOf now) :
    classify now x = .error := by
  rw [classify_driven h, if_pos hbad]

theorem classify_good {x : BitVec 168} {now : Count} (h : x ≠ BitVec.allOnes 168) (hcrc : progCrcGood x = true)
    (hkind : (progOf x).kind.toNat < 3) (hecho : (progOf x).echo = echoOf now) : classify now x = .good := by
  rw [classify_driven h, if_neg]
  rintro (hc | hk | he)
  · rw [hcrc] at hc; cases hc
  · omega
  · exact he hecho

/-! ### The mismatch (R18) -/

theorem namesSeat_iff (p : ProgField) (h : Seat) :
    namesSeat p h = true ↔ p.station.toNat = h.station.val ∧ p.desk.toNat = h.desk.val := by
  simp [namesSeat]

theorem lastVoice_eq_false_iff (s : State) (p : ProgField) : lastVoice s p = false ↔
    ∀ h, holderOf s.claims.prev.count s.claims.prev.recs = some h → namesSeat p h = true →
      holdsFloor s.claims.snap.recs h.station h.desk := by
  unfold lastVoice
  cases holderOf s.claims.prev.count s.claims.prev.recs with
  | none => simp
  | some x => simp [holdsFloor]

/-- R18: the fields that count as a mismatch. -/
theorem programMismatch_iff (s : State) (result : ProgResult) (p : ProgField) :
    programMismatch s result p = true ↔ result = .good ∧ p.kind = 1 ∧ memberActive s = true
      ∧ (∀ h, snapHolder s = some h → namesSeat p h = false)
      ∧ ∀ h, holderOf s.claims.prev.count s.claims.prev.recs = some h → namesSeat p h = true →
        holdsFloor s.claims.snap.recs h.station h.desk := by
  rw [← lastVoice_eq_false_iff]
  unfold programMismatch
  cases snapHolder s with
  | none => simp [kindVoice, and_assoc]
  | some h => simp [kindVoice, and_assoc]

theorem mismatchStep_counts {s : State} {result : ProgResult} {p : ProgField} (h : programMismatch s result p = true) :
    (mismatchStep result p s).bus.mismatchCount = min (s.bus.mismatchCount + 1) 65535
    ∧ siteFlagSet (mismatchStep result p s) .programMismatch := by
  rw [mismatchStep, if_pos h]
  exact ⟨rfl, siteFlagSet_raiseSite .programMismatch _⟩

theorem mismatchStep_of_not {s : State} {result : ProgResult} {p : ProgField} (h : ¬ programMismatch s result p = true) :
    mismatchStep result p s = s := by
  rw [mismatchStep, if_neg h]

theorem mismatchStep_bus (result : ProgResult) (p : ProgField) (s : State) :
    (mismatchStep result p s).bus.progResult = s.bus.progResult
    ∧ (mismatchStep result p s).bus.sampNow = s.bus.sampNow := by
  unfold mismatchStep
  split <;> exact ⟨rfl, rfl⟩

/-! ### The identification unit (R124, R126) -/

theorem countVoice_a (s : State) : (countVoice s).ident.a = min (s.ident.a + 1) 16777215 := by
  unfold countVoice
  dsimp only
  split <;> rfl

theorem countVoice_link (s : State) : (countVoice s).link = s.link := by simp

theorem countVoice_due {s : State} (h : interval s ≤ min (s.ident.a + 1) 16777215) (hd : s.ident.due = false) :
    (countVoice s).ident.due = true ∧ (countVoice s).ident.dueAge = 0 := by
  have hc : interval s ≤ capAdd s.ident.a 1 16777215 ∧ s.ident.due = false := ⟨h, hd⟩
  rw [countVoice]
  dsimp only
  rw [if_pos hc]
  exact ⟨rfl, rfl⟩

/-- What a station does as the field's holder while an identification is due leaves the count and the due state; no site
flag changes. -/
structure DueKept (s t : State) : Prop where
  a : t.ident.a = s.ident.a
  due : t.ident.due = s.ident.due
  dueAge : t.ident.dueAge = s.ident.dueAge
  siteFlags : t.link.siteFlags = s.link.siteFlags

theorem DueKept.refl (s : State) : DueKept s s := ⟨rfl, rfl, rfl, rfl⟩

theorem dueKept_endHolding (d : Desk) (r : EndReason) (s : State) : DueKept s (endHolding d r s) :=
  ⟨by simp, by simp, by simp, siteFlags_endHolding d r s⟩

theorem dueKept_orderInterval (s : State) : DueKept s (orderInterval s) := by
  unfold orderInterval
  split
  · exact ⟨rfl, rfl, rfl, rfl⟩
  · exact .refl s

theorem dueKept_actOnDue (s : State) : DueKept s (actOnDue s) := by
  unfold actOnDue
  split
  · exact .refl s
  split
  · split
    · split
      · exact .refl s
      · exact dueKept_endHolding _ .noIdent s
    · exact .refl s
  split
  · exact dueKept_orderInterval s
  · exact .refl s

/-- R124, R126: a VOICE field at a MEMBER is counted; acting as its holder leaves the count. -/
theorem dueKept_voiceReceived {s : State} (h : s.member.join = .member) (holder : BitVec 3) :
    DueKept (countVoice s) (voiceReceived holder s) := by
  rw [voiceReceived, if_pos h]
  dsimp only
  split
  · exact dueKept_actOnDue _
  · exact .refl _

theorem voiceReceived_of_not_member {s : State} (h : s.member.join ≠ .member) (holder : BitVec 3) :
    voiceReceived holder s = s := by
  rw [voiceReceived, if_neg h]

theorem identProgram_of_not_good {result : ProgResult} (h : result ≠ .good) (p : ProgField) (s : State) :
    identProgram result p s = s := by
  cases result with
  | good => exact absurd rfl h
  | nothing => rfl
  | undriven => rfl
  | error => rfl

theorem identProgram_voice {p : ProgField} (h : p.kind = 1) (s : State) :
    identProgram .good p s = voiceReceived p.station s := if_pos h

theorem identProgram_ident {p : ProgField} (h : p.kind = 2) (s : State) :
    identProgram .good p s = if p.endIdent then identSent s else identHeard s := by
  have h1 : p.kind ≠ kindVoice := by rw [h]; decide
  rw [identProgram, if_neg h1]
  exact if_pos h

theorem identHeard_ident (s : State) :
    (identHeard s).ident = { s.ident with dueAge := if s.ident.due then 0 else s.ident.dueAge } := by
  unfold identHeard
  split <;> rfl

theorem identHeard_link (s : State) : (identHeard s).link = s.link := by simp

/-- No site flag is lowered by a program field. -/
theorem siteFlagSet_identProgram_of (result : ProgResult) (p : ProgField) {s : State} {f : SiteFlag}
    (h : siteFlagSet s f) : siteFlagSet (identProgram result p s) f := by
  by_cases hg : result = .good
  · subst hg
    unfold identProgram
    dsimp only
    split
    · by_cases hm : s.member.join = .member
      · rw [siteFlagSet, (dueKept_voiceReceived hm p.station).siteFlags, (countVoice_link s)]
        exact h
      · rw [voiceReceived_of_not_member hm]; exact h
    split
    · split
      · exact siteFlagSet_raiseSite_of .idSent h
      · rw [siteFlagSet, identHeard_link]; exact h
    · exact h
  · rw [identProgram_of_not_good hg]; exact h

/-! ### The program run (R146) -/

theorem seenKept_programStep (s : State) : SeenKept s (programStep s) := by
  unfold programStep
  split
  · dsimp only
    split
    · exact (seenKept_putCauses _ _).after (seenKept_setClamp rfl rfl)
    · exact seenKept_setClamp rfl rfl
  · exact seenKept_setClamp rfl rfl

theorem programCounts_iff (s : State) : programCounts s = true ↔
    s.bus.progResult = .error ∧ s.member.join = .member ∧ s.bus.sampNow.keyl = true := by
  simp only [programCounts, Bool.and_eq_true, beq_iff_eq]
  exact and_comm

theorem putCauses_progRun (x : Byte) (s : State) : (putCauses x s).clamp.progRun = s.clamp.progRun := by
  unfold putCauses
  split <;> rfl

theorem putCauses_causes (x : Byte) (s : State) : (putCauses x s).clamp.causes = x := causesBecome_causes x s

/-- R146: a counted field, and PROGRAM at the twentieth. -/
theorem programStep_counts {s : State} (h : programCounts s = true) :
    (programStep s).clamp.progRun = min (s.clamp.progRun + 1) 20
    ∧ (s.clamp.progRun = 19 → (programStep s).clamp.causes &&& 0x08 ≠ 0) := by
  rw [programStep, if_pos h]
  dsimp only
  by_cases hr : s.clamp.progRun = 19
  · have hreach : reaches s.clamp.progRun Config.watchLimit = true := by rw [hr]; rfl
    rw [if_pos hreach]
    refine ⟨putCauses_progRun _ _, fun _ => ?_⟩
    rw [setCause, putCauses_causes]
    exact or_and_self_ne_zero (by decide)
  · have hreach : ¬ reaches s.clamp.progRun Config.watchLimit = true := by
      simp only [reaches, Config.watchLimit, beq_iff_eq]; omega
    rw [if_neg hreach]
    exact ⟨rfl, fun h => absurd h hr⟩

theorem programStep_rests {s : State} (h : ¬ programCounts s = true) : (programStep s).clamp.progRun = 0 := by
  rw [programStep, if_neg h]
  rfl

/-! ### The field as a whole -/

theorem exec_programReceived_of_runs {s : State} (h : pointsRun s = true) (x : BitVec 168) :
    exec (.programReceived x) s = .next (programWork x s) := by
  simp [exec, execProgramReceived, whenRuns, h]

/-- The state with the class of the field kept and the mismatch counted, before the identification unit's work. -/
def fieldClassed (result : ProgResult) (p : ProgField) (s : State) : State :=
  mismatchStep result p (s.setBus { s.bus with progResult := result })

theorem programWork_eq (x : BitVec 168) (s : State) : programWork x s =
    programStep (identProgram (classify (ownCount s) x) (progOf x) (fieldClassed (classify (ownCount s) x) (progOf x) s)) :=
  rfl

section
variable (result : ProgResult) (p : ProgField) (s : State)

@[simp] theorem fieldClassed_frame : (fieldClassed result p s).setup = s.setup
    ∧ (fieldClassed result p s).member = s.member ∧ (fieldClassed result p s).claims = s.claims
    ∧ (fieldClassed result p s).air = s.air ∧ (fieldClassed result p s).ident = s.ident
    ∧ (fieldClassed result p s).clamp = s.clamp := by
  simp [fieldClassed]

theorem fieldClassed_bus : (fieldClassed result p s).bus.progResult = result
    ∧ (fieldClassed result p s).bus.sampNow = s.bus.sampNow :=
  mismatchStep_bus result p (s.setBus { s.bus with progResult := result })

end

theorem fieldClassed_mismatch {result : ProgResult} {p : ProgField} {s : State}
    (h : programMismatch s result p = true) :
    (fieldClassed result p s).bus.mismatchCount = min (s.bus.mismatchCount + 1) 65535
    ∧ siteFlagSet (fieldClassed result p s) .programMismatch :=
  mismatchStep_counts (s := s.setBus { s.bus with progResult := result }) h

theorem fieldClassed_match {result : ProgResult} {p : ProgField} {s : State}
    (h : ¬ programMismatch s result p = true) : (fieldClassed result p s).bus.mismatchCount = s.bus.mismatchCount := by
  rw [fieldClassed, mismatchStep_of_not (s := s.setBus { s.bus with progResult := result }) h]
  rfl

/-- R124: what a good field of each kind leaves of the identification unit. -/
theorem identProgram_counts {p : ProgField} {s : State} (hk : p.kind = 1) (hm : s.member.join = .member) :
    (identProgram .good p s).ident.a = min (s.ident.a + 1) 16777215
    ∧ (interval s ≤ min (s.ident.a + 1) 16777215 → s.ident.due = false →
      (identProgram .good p s).ident.due = true ∧ (identProgram .good p s).ident.dueAge = 0) := by
  have hkept := dueKept_voiceReceived hm p.station
  rw [identProgram_voice hk, hkept.a, hkept.due, hkept.dueAge]
  exact ⟨countVoice_a s, countVoice_due⟩

/-- Settles O43: the class, the mismatch, the identification unit and the program run in turn, each from its own lemma, with
the class and the field held as any class and any field. -/
theorem programReceived : Obligations.ProgramReceived := by
  intro s x hp
  refine ⟨_, exec_programReceived_of_runs hp x, ?_⟩
  rw [programWork_eq]
  have hundriven : x = BitVec.allOnes 168 → classify (ownCount s) x = .undriven := fun h => by
    rw [h, classify_undriven]
  have herror : x ≠ BitVec.allOnes 168 → (progCrcGood x = false ∨ 3 ≤ (progOf x).kind.toNat
      ∨ (progOf x).echo ≠ echoOf (ownCount s)) → classify (ownCount s) x = .error := classify_error
  have hgood : x ≠ BitVec.allOnes 168 → progCrcGood x = true → (progOf x).kind.toNat < 3 →
      (progOf x).echo = echoOf (ownCount s) → classify (ownCount s) x = .good := classify_good
  generalize classify (ownCount s) x = result at hundriven herror hgood ⊢
  generalize progOf x = p at herror hgood ⊢
  obtain ⟨hresult, hsamp⟩ := fieldClassed_bus result p s
  obtain ⟨hsetup, hmember, hclaims, hair, hident, hclamp⟩ := fieldClassed_frame result p s
  have hmis (h : ¬ programMismatch s result p = true) := fieldClassed_match h
  have hmiscount (h : programMismatch s result p = true) := fieldClassed_mismatch h
  have hint : interval (fieldClassed result p s) = interval s := by rw [interval, hsetup, interval]
  generalize fieldClassed result p s = u at *
  have hstep := seenKept_programStep (identProgram result p u)
  have hcounts := programCounts_iff (identProgram result p u)
  simp only [identProgram_frame, hresult, hsamp, hmember] at hcounts
  simp only [programStep_frame, identProgram_frame, hresult]
  refine ⟨hundriven, herror, hgood, fun h => ?_, fun h hk hm => ?_, fun h hk hm => ?_, fun h hk he => ?_,
    fun h hk he => ?_, fun h hm hs => ?_, fun h => ?_, fun h hk ha hn hl => ?_, fun h hs hn => hmis ?_,
    fun h hs hn hf => hmis ?_, namesSeat_iff p, fun h => hmis ?_⟩
  · rw [identProgram_of_not_good h]; exact ⟨hident, hair, hclaims⟩
  · subst h
    have := identProgram_counts (s := u) hk (by rw [hmember]; exact hm)
    rwa [hint, hident] at this
  · subst h
    rw [identProgram_voice hk, voiceReceived_of_not_member (by rw [hmember]; exact hm), hident]
  · subst h
    rw [identProgram_ident hk, if_pos he] at hstep ⊢
    exact ⟨by rw [← hident]; rfl, hstep.siteFlags _ (siteFlagSet_raiseSite .idSent _)⟩
  · subst h
    rw [identProgram_ident hk, if_neg (by rw [he]; decide), identHeard_ident, hident]
  · have := programStep_counts (hcounts.mpr ⟨h, hm, hs⟩)
    simpa [hclamp] using this
  · refine programStep_rests fun hc => ?_
    obtain ⟨h1, h2, h3⟩ := hcounts.mp hc
    rcases h with h | h | h
    · exact h h1
    · exact h h2
    · rw [h3] at h; cases h
  · obtain ⟨hcount, hflag⟩ := hmiscount ((programMismatch_iff _ _ _).mpr ⟨h, hk, ha, hn, hl⟩)
    exact ⟨hcount, hstep.siteFlags _ (siteFlagSet_identProgram_of _ _ hflag)⟩
  · intro hc
    obtain ⟨-, -, -, hno, -⟩ := (programMismatch_iff _ _ _).mp hc
    exact absurd hn (by rw [hno h hs]; decide)
  · intro hc
    obtain ⟨-, -, -, -, hlast⟩ := (programMismatch_iff _ _ _).mp hc
    exact hf (hlast h hs hn)
  · intro hc
    obtain ⟨h1, h2, h3, -, -⟩ := (programMismatch_iff _ _ _).mp hc
    rcases h with h | h | h
    · rw [h3] at h; cases h
    · exact h h1
    · exact h h2

end Sys2Proof

namespace Sys2Proof
open Machine

/-! ## The latches of a frame start (R3, R5, R141) -/

/-! ### A frame start changes the claim table in its own desks only -/

/-- From s to t the claim table changed in the own desks only: mirrors, snapshots, view digest, runs and verdict stand. -/
def onlyDesks (s t : State) : Prop := t.claims = { s.claims with desks := t.claims.desks }

theorem onlyDesks_of_eq {s t : State} (h : t.claims = s.claims) : onlyDesks s t := by
  rw [onlyDesks, h]

theorem onlyDesks.after {s t u : State} (k : onlyDesks t u) (h : onlyDesks s t) : onlyDesks s u := by
  unfold onlyDesks at *
  rw [h] at k
  exact k

theorem onlyDesks_setDesk (s : State) (d : Desk) (x : OwnDesk) : onlyDesks s (setDesk s d x) := rfl

/-- The same claims, and a step that changes own desks only. -/
theorem onlyDesks.from_eq {s t u : State} (k : onlyDesks t u) (h : t.claims = s.claims) : onlyDesks s u :=
  k.after (onlyDesks_of_eq h)

theorem onlyDesks_foldl (f : Desk → State → State) (hf : ∀ d s, onlyDesks s (f d s)) (s : State) :
    onlyDesks s (allDesks.foldl (fun s d => f d s) s) :=
  fold_preserves (P := onlyDesks s) f (fun d t ht => (hf d t).after ht) (onlyDesks_of_eq rfl)

theorem onlyDesks_raiseDesk (d : Desk) (f : DeskFlag) (s : State) : onlyDesks s (raiseDesk d f s) := rfl

theorem onlyDesks_tellEnded (d : Desk) (s : State) : onlyDesks s (tellEnded d s) := onlyDesks_of_eq (tellEnded_claims d s)

theorem onlyDesks_endHolding (d : Desk) (r : EndReason) (s : State) : onlyDesks s (endHolding d r s) := by
  unfold endHolding
  split
  · exact (onlyDesks_tellEnded d _).after ((onlyDesks_raiseDesk d .ended _).after (onlyDesks_setDesk s d _))
  · exact onlyDesks_of_eq rfl

theorem onlyDesks_testBar (d : Desk) (s : State) : onlyDesks s (testBar d s) := by
  unfold testBar
  split
  · exact (onlyDesks_raiseDesk d .barLifted _).after (onlyDesks_setDesk s d _)
  · exact onlyDesks_of_eq rfl

theorem onlyDesks_barStep (d : Desk) (s : State) : onlyDesks s (barStep d s) := by
  unfold barStep
  split
  · exact (onlyDesks_testBar d _).after (onlyDesks_setDesk s d _)
  · exact onlyDesks_of_eq rfl

theorem onlyDesks_barWork (before s : State) : onlyDesks s (barWork before s) :=
  onlyDesks_foldl (fun d s => if (getDesk before d).record.state = .barred then barStep d s else s)
    (fun d s => by
      split
      · exact onlyDesks_barStep d s
      · exact onlyDesks_of_eq rfl) s

theorem onlyDesks_publishAll (s : State) : onlyDesks s (publishAll s) := rfl

theorem onlyDesks_starveFrame (d : Desk) (s : State) : onlyDesks s (starveFrame d s) := by
  unfold starveFrame
  dsimp only
  split
  · exact (onlyDesks_endHolding d .starved _).from_eq (by simp)
  · exact onlyDesks_of_eq (by simp)

theorem onlyDesks_drainFrame (d : Desk) (s : State) : onlyDesks s (drainFrame d s) :=
  (onlyDesks_endHolding d .done _).from_eq (by simp)

theorem onlyDesks_voiceFrame (d : Desk) (s : State) : onlyDesks s (voiceFrame d s) := by
  unfold voiceFrame
  split
  · exact onlyDesks_of_eq (by simp)
  · dsimp only
    split
    · exact (onlyDesks_endHolding d .done _).from_eq (by simp)
    · exact onlyDesks_of_eq (by simp)

theorem onlyDesks_startFrame (d : Desk) (s : State) : onlyDesks s (startFrame d s) :=
  (onlyDesks_voiceFrame d _).from_eq (by simp)

theorem onlyDesks_gapFrame (d : Desk) (s : State) : onlyDesks s (gapFrame d s) :=
  (onlyDesks_startFrame d _).from_eq (by simp)

theorem onlyDesks_onDecide (d : Desk) (s : State) : onlyDesks s (onDecide d s) := by
  unfold onDecide
  cases cellChoice s d with
  | playCell => exact onlyDesks_voiceFrame d s
  | emptyQueue =>
    dsimp only
    split
    · exact onlyDesks_drainFrame d s
    · exact onlyDesks_starveFrame d s
  | startHead => exact onlyDesks_startFrame d s
  | declareGap => exact onlyDesks_gapFrame d s
  | waitForBlock => exact onlyDesks_starveFrame d s

theorem onlyDesks_primeDecide (d : Desk) (s : State) : onlyDesks s (primeDecide d s) := by
  unfold primeDecide
  split
  · exact (onlyDesks_onDecide d _).from_eq (by simp)
  · exact onlyDesks_starveFrame d s

theorem onlyDesks_leaveIdent (s : State) : onlyDesks s (leaveIdent s) := by
  unfold leaveIdent
  dsimp only
  split
  · split <;> exact onlyDesks_of_eq (by simp)
  · split
    · exact (onlyDesks_onDecide _ _).from_eq (by simp)
    · exact onlyDesks_of_eq (by simp)

theorem onlyDesks_identDecide (s : State) : onlyDesks s (identDecide s) := by
  unfold identDecide
  split
  · exact onlyDesks_of_eq (by simp)
  · exact onlyDesks_leaveIdent s

theorem onlyDesks_leadEnds (s : State) : onlyDesks s (leadEnds s) := by
  unfold leadEnds
  split
  · exact (onlyDesks_identDecide _).from_eq (by simp)
  · exact (onlyDesks_primeDecide _ _).from_eq (by simp)
  · exact onlyDesks_of_eq (by simp)

theorem onlyDesks_leadDecide (s : State) : onlyDesks s (leadDecide s) := by
  unfold leadDecide
  split
  · exact onlyDesks_of_eq (by simp)
  · exact onlyDesks_leadEnds s

theorem onlyDesks_airDecide (s : State) : onlyDesks s (airDecide s) := by
  unfold airDecide
  split
  · exact onlyDesks_of_eq (by simp)
  · exact onlyDesks_leadDecide s
  · exact onlyDesks_primeDecide _ s
  · exact onlyDesks_onDecide _ s
  · exact onlyDesks_identDecide s
  all_goals exact onlyDesks_of_eq (by simp)

theorem onlyDesks_takeInterval (s : State) : onlyDesks s (takeInterval s) := by
  unfold takeInterval
  split
  · exact (onlyDesks_identDecide _).from_eq (by simp)
  · exact (onlyDesks_airDecide _).from_eq (by simp)

theorem onlyDesks_takeTailIdent (s : State) : onlyDesks s (takeTailIdent s) := by
  unfold takeTailIdent
  split
  · exact onlyDesks_of_eq (by simp)
  · exact (onlyDesks_airDecide _).from_eq (by simp)

theorem onlyDesks_airFrame (s : State) : onlyDesks s (airFrame s) := by
  have hw : (applyWithdrawal s).claims = s.claims := by simp
  unfold airFrame
  dsimp only
  split
  · split
    · exact (onlyDesks_airDecide _).from_eq hw
    · exact onlyDesks_of_eq (by simp)
  · exact (onlyDesks_takeInterval _).from_eq hw
  · exact (onlyDesks_takeTailIdent _).from_eq hw
  · exact (onlyDesks_airDecide _).from_eq hw

theorem onlyDesks_claimsAndAir (reportFirst : Bool) (s : State) : onlyDesks s (claimsAndAir reportFirst s) := by
  cases reportFirst
  · exact (onlyDesks_airFrame _).after ((onlyDesks_publishAll _).after (onlyDesks_barWork s s))
  · exact (onlyDesks_publishAll _).after ((onlyDesks_barWork s _).after (onlyDesks_airFrame s))

/-! ### The flags of the slot -/

theorem guardFrameStart_on (s : State) : (guardFrameStart s).guard.on = s.guard.on := by
  unfold guardFrameStart
  split
  · rfl
  split
  · rfl
  split
  · rfl
  split <;> rfl

/-- Table 1-2: the order of five flags, the first in the highest place. -/
theorem five_flags : ∀ a b c d e : Bool,
    let f : BitVec 5 := BitVec.ofBool a ++ BitVec.ofBool b ++ BitVec.ofBool c ++ BitVec.ofBool d ++ BitVec.ofBool e
    f.getLsbD 4 = a ∧ f.getLsbD 3 = b ∧ f.getLsbD 2 = c ∧ f.getLsbD 1 = d ∧ f.getLsbD 0 = e := by
  decide

/-! ### The latches -/

/-- A frame start at which no wait runs out, up to the latches. -/
def beforeLatch (reportFirst : Bool) (s : State) : State :=
  claimsAndAir reportFirst (guardFrameStart (dueStep (joinRuns (newFrameBus (s.setSync (syncAdvanced s))))))

/-- What the frame's work before the latches leaves of all that they read. -/
theorem beforeLatch_spec (reportFirst : Bool) (s : State) :
    (beforeLatch reportFirst s).setup = s.setup ∧ (beforeLatch reportFirst s).sync = syncAdvanced s
    ∧ (beforeLatch reportFirst s).member.join = s.member.join
    ∧ (beforeLatch reportFirst s).claims.viewDigest = s.claims.viewDigest
    ∧ (beforeLatch reportFirst s).clamp = s.clamp ∧ (beforeLatch reportFirst s).guard.on = s.guard.on := by
  have honly := onlyDesks_claimsAndAir reportFirst
    (guardFrameStart (dueStep (joinRuns (newFrameBus (s.setSync (syncAdvanced s))))))
  refine ⟨?_, ?_, ?_, ?_, ?_, ?_⟩
  · simp [beforeLatch]
  · simp [beforeLatch]
  · simp [beforeLatch, joinRuns]
  · rw [beforeLatch, honly]; simp
  · simp [beforeLatch]
  · simp [beforeLatch, guardFrameStart_on]

theorem latchFrame_spec (s : State) :
    (latchFrame s).bus.ownSlot = some (ownSlotOf s)
    ∧ (latchFrame s).bus.syncLatch = (if s.sync.state = .timing ∧ s.member.join ≠ .fenced then
        some (syncBits (ownCount s) (ownStation s)) else none)
    ∧ (latchFrame s).clamp = { s.clamp with unclampCtr := s.clamp.unclampCtr - 1 } :=
  ⟨rfl, rfl, rfl⟩

/-- R3: nothing is published of the desks in ANNOUNCE and MISMATCH. -/
theorem slotRecords_get (s : State) (d : Desk) : (slotRecords s).get d =
    if s.member.join = .announce ∨ s.member.join = .mismatch then .absent else (getDesk s d).published := by
  unfold slotRecords
  split
  · exact Four.get_all _ d
  · exact Four.get_map _ _ d

/-- Settles O31: the latches read the state before them (`latchFrame_spec`), and that is known by `beforeLatch_spec`. -/
theorem ownSlotLatched : Obligations.OwnSlotLatched := by
  intro s b hruns hwait
  refine ⟨latchFrame (beforeLatch b s), ownSlotOf (beforeLatch b s), exec_frameStart_of_waitGoesOn hruns hwait b, ?_⟩
  obtain ⟨hslot, hlatch, hclamp'⟩ := latchFrame_spec (beforeLatch b s)
  obtain ⟨hsetup, hsync, hjoin, hdigest, hclamp, hguard⟩ := beforeLatch_spec b s
  have hair : (latchFrame (beforeLatch b s)).air = (beforeLatch b s).air := rfl
  rw [hslot, hlatch, hclamp', hair]
  generalize beforeLatch b s = w at *
  obtain ⟨hf4, hf3, hf2, hf1, hf0⟩ := five_flags w.air.identActive w.setup.clipReady (w.clamp.unclampCtr != 0) w.guard.on
    w.setup.rfSense
  refine ⟨rfl, ?_, hjoin, ?_, ?_, hdigest, ?_, hf4, ?_, ?_, ?_, ?_, fun d => ?_, ?_, ?_⟩
  · rw [← hsetup]; rfl
  · have hecho : (ownSlotOf w).echo = w.sync.count.map echoOf := rfl
    rw [hecho, hsync, syncAdvanced, Option.map_map]
    rfl
  · rw [← hsetup]; rfl
  · rw [← hclamp]; rfl
  · rw [← hsetup]; exact hf3
  · have hctr : (w.clamp.unclampCtr != 0) = decide (w.clamp.unclampCtr ≠ 0) := by
      rw [Bool.eq_iff_iff, bne_iff_ne, decide_eq_true_iff]
    rw [← hclamp, ← hctr]; exact hf2
  · rw [← hguard]; exact hf1
  · rw [← hsetup]; exact hf0
  · rw [← hjoin]; exact slotRecords_get w d
  · rw [hclamp]
  · have hcount : ownCount w = (s.sync.count.map (· + 1)).getD 0 := by rw [ownCount, hsync, syncAdvanced]
    have hstate : w.sync.state = s.sync.state := by rw [hsync, syncAdvanced]
    rw [hcount, hstate, hjoin, ownStation, hsetup]
    rfl

end Sys2Proof

namespace Sys2Proof
open Machine

/-! ## The sync fields of a frame (R24, R29) -/

theorem exec_syncFieldsReceived_of_runs {s : State} (h : sampleRuns s = true) (x : BitVec 43) :
    exec (.syncFieldsReceived x) s = .next (syncFields x s) := by
  simp [exec, execSyncFieldsReceived, whenRuns, h]

theorem syncFields_locked {s : State} (h : s.sync.state = .locked) (x : BitVec 43) : syncFields x s = syncCheck x s := by
  rw [syncFields, h]

theorem syncFields_timing {s : State} (h : s.sync.state = .timing) (x : BitVec 43) :
    syncFields x s = timingReadback x s := by
  rw [syncFields, h]

theorem syncFields_passedOver {s : State} (h : s.sync.state = .hunt ∨ s.sync.state = .holdover) (x : BitVec 43) :
    syncFields x s = s := by
  rcases h with h | h <;> rw [syncFields, h]

/-! ### The check of a LOCKED station (R24) -/

theorem syncFieldsGood_iff (s : State) (x : BitVec 43) :
    syncFieldsGood s x = true ↔ syncPatternOf x = 0xD14B ∧ s.sync.count = some (syncCountOf x) := by
  rw [syncFieldsGood, Bool.and_eq_true, beq_iff_eq, beq_iff_eq, eq_comm (a := some _)]
  rfl

theorem syncCheck_bad {s : State} {x : BitVec 43} (h : ¬ syncFieldsGood s x = true) :
    syncCheck x s = s.setBus { s.bus with syncGood := false } := by
  rw [syncCheck, if_neg h]

theorem syncCheck_sameStation {s : State} {x : BitVec 43} (h : syncFieldsGood s x = true)
    (ht : s.sync.timingStation = some (syncStationOf x)) : syncCheck x s = s.setBus { s.bus with syncGood := true } := by
  rw [syncCheck, if_pos h]
  exact if_pos ht

/-- R24: good sync fields of another timing station hand over to it. -/
theorem syncCheck_newStation {s : State} {x : BitVec 43} (h : syncFieldsGood s x = true)
    (ht : s.sync.timingStation ≠ some (syncStationOf x)) : syncCheck x s = raiseSite .syncChange
      ((s.setBus { s.bus with syncGood := true }).setSync { s.sync with timingStation := some (syncStationOf x) }) := by
  rw [syncCheck, if_pos h]
  exact if_neg ht

/-! ### The readback of a timing station (R29) -/

theorem timingReadback_notDriven {s : State} (h : s.bus.syncLatch = none) (x : BitVec 43) : timingReadback x s = s := by
  rw [timingReadback, h]

theorem timingReadback_same {s : State} {x : BitVec 43} (h : s.bus.syncLatch = some x) :
    timingReadback x s = s.setSync { s.sync with readbackRun := 0 } := by
  rw [timingReadback, h]
  exact if_pos rfl

theorem timingReadback_differs {s : State} {x y : BitVec 43} (h : s.bus.syncLatch = some y) (hne : x ≠ y) :
    timingReadback x s = readbackMiss s := by
  rw [timingReadback, h]
  exact if_neg (Ne.symm hne)

theorem readbackMiss_first {s : State} (h : s.sync.readbackRun = 0) :
    readbackMiss s = s.setSync { s.sync with readbackRun := 1 } := by
  rw [readbackMiss, if_pos (by omega), h]

theorem readbackMiss_second {s : State} (h : 1 ≤ s.sync.readbackRun) : readbackMiss s = enterHunt s := by
  rw [readbackMiss, if_neg (by omega)]

/-- Settles O33, by the sync state: the check of LOCKED, the readback of TIMING, and nothing elsewhere. -/
theorem syncFieldsByState : Obligations.SyncFieldsByState := by
  intro s x hruns
  rw [exec_syncFieldsReceived_of_runs hruns]
  refine ⟨fun hl => ?_, fun ht => ?_, fun hother => by rw [syncFields_passedOver hother]⟩
  · rw [syncFields_locked hl]
    refine ⟨fun hpat hcount => ?_, fun hbad => ?_⟩
    · have hgood := (syncFieldsGood_iff s x).mpr ⟨hpat, hcount⟩
      exact ⟨fun hst => by rw [syncCheck_sameStation hgood hst],
        fun hst => by rw [syncCheck_newStation hgood hst]; rfl⟩
    · have hnot : ¬ syncFieldsGood s x = true := by
        rw [syncFieldsGood_iff, not_and_or]
        exact hbad
      rw [syncCheck_bad hnot]
  · rw [syncFields_timing ht]
    refine ⟨fun hnone => by rw [timingReadback_notDriven hnone], fun y hy => ⟨fun hxy => ?_, fun hne hrun => ?_,
      fun hne hrun => ?_⟩⟩
    · rw [timingReadback_same (hxy ▸ hy)]
    · rw [timingReadback_differs hy hne, readbackMiss_first hrun]
    · rw [timingReadback_differs hy hne, readbackMiss_second hrun]
      exact ⟨_, rfl, huntEntered_enterHunt s⟩

end Sys2Proof

namespace Sys2Proof
open Machine

/-! ## The relock search (R21, R22, R23, R26) -/

theorem follows_iff (s : State) (pos : BitVec 11) (c : Count) (n : Station) : follows s pos c n = true ↔
    ∃ x ∈ s.sync.candidates, x.pos = pos ∧ x.count + 1 = c ∧ x.station = n := by
  simp [follows, and_assoc]

theorem patternSeen_eq (s : State) : patternSeen s = s.setSync
    { s.sync with huntRun := if s.sync.state = .hunt then 0 else s.sync.huntRun } := by
  unfold patternSeen
  split <;> rfl

theorem exec_relockCandidateDropped_of_searching {s : State} (h : searching s = true) (pos : BitVec 11) :
    exec (.relockCandidateDropped pos) s = .next (dropCandidate pos s) := by
  simp [exec, execRelockCandidateDropped, whenRuns, h]

/-- R21: a finding that continues no candidate is held. -/
theorem exec_syncPatternFound_of_not_follows {s : State} {pos : BitVec 11} {c : Count} {n : Station}
    (h : searching s = true) (hf : ¬ follows s pos c n = true) :
    exec (.syncPatternFound pos c n) s = .next (holdCandidate pos c n (patternSeen s)) := by
  simp [exec, execSyncPatternFound, whenRuns, h, patternFound, hf]

/-- R21, R23: a finding that continues a candidate passes the test, found at once or reported as passed. -/
theorem exec_relock_of_follows {s : State} {pos : BitVec 11} {c : Count} {n : Station}
    (h : searching s = true) (hf : follows s pos c n = true) :
    exec (.syncPatternFound pos c n) s = .next (relock c n (patternSeen s))
    ∧ exec (.relockTestPassed pos c n) s = .next (relock c n (patternSeen s)) := by
  simp [exec, execSyncPatternFound, execRelockTestPassed, whenRuns, h, patternFound, hf]

/-! ### The counts at a relock from HOLDOVER (R26) -/

/-- R26: the relock is from HOLDOVER and its count jumps. -/
def countJumps (c : Count) (s : State) : Prop := s.sync.state = .holdover ∧ countContinuous c (ownCount s) = false

/-- R26: s with what a count jump withdraws and raises. -/
def jumpTaken (s : State) : State := raiseSite .countJump (withdrawAll .countJump s)

theorem relock_of_jump {c : Count} {s : State} (h : countJumps c s) (n : Station) :
    relock c n s = enterLocked c n (jumpTaken s) := if_pos h

theorem relock_of_no_jump {c : Count} {s : State} (h : ¬ countJumps c s) (n : Station) :
    relock c n s = enterLocked c n s := if_neg h

theorem countJumps_patternSeen_iff (c : Count) (s : State) : countJumps c (patternSeen s) ↔ countJumps c s := by
  rw [patternSeen_eq]
  rfl

/-- R26: the difference of the counts is taken modulo 2^24, in either direction. -/
theorem countJumps_iff {c r : Count} {s : State} (hs : s.sync.state = .holdover) (hr : s.sync.count = some r) :
    countJumps c s ↔ 3 ≤ (c - r).toNat ∧ (c - r).toNat ≤ 16777213 := by
  simp only [countJumps, countContinuous, ownCount, hs, hr, Option.getD_some, decide_eq_false_iff_not, true_and]
  omega

theorem jumpTaken_sync (s : State) : (jumpTaken s).sync = s.sync := by simp [jumpTaken]

/-- R23: the relock enters LOCKED, with or without the withdrawal of R26 before it. -/
theorem lockedEntered_relock (c : Count) (n : Station) (s : State) : lockedEntered c n s (relock c n (patternSeen s)) := by
  by_cases h : countJumps c (patternSeen s)
  · rw [relock_of_jump h]
    refine lockedEntered_enterLocked c n ?_ ?_
    · apply State.eq_of_blocks <;> simp [jumpTaken]
    · rw [jumpTaken_sync, patternSeen_eq]; rfl
  · rw [relock_of_no_jump h]
    refine lockedEntered_enterLocked c n ?_ ?_
    · apply State.eq_of_blocks <;> simp
    · rw [patternSeen_eq]; rfl

theorem peersKept_joinAtActive (s : State) : PeersKept s (joinAtActive s) := by
  unfold joinAtActive
  split
  · exact (peersKept_setJoin .announce _).after (peersKept_clearAnnounce s)
  · exact .refl s

theorem siteFlagSet_enterLocked_of (c : Count) (n : Station) {s : State} {f : SiteFlag} (h : siteFlagSet s f) :
    siteFlagSet (enterLocked c n s) f :=
  siteFlagSet_raiseSite_of .syncChange ((peersKept_joinAtActive (State.setBus (State.setSync s _) _)).siteFlags f h)

/-- R50: what withdrawing every own wait does to one desk. -/
theorem waitEndedAt_withdrawAll (r : EndReason) (s : State) (d : Desk) : waitEndedAt r s (withdrawAll r s) d := by
  refine ⟨fun h => ?_, fun h => ?_⟩
  · rw [getDesk_withdrawAll, if_pos h, withdrawn_eq]
    exact ⟨rfl, deskFlagSet_withdrawAll r h⟩
  · rw [getDesk_withdrawAll, if_neg h]

/-- Only the claims before, and the claims and desk flags after, tell whether a wait was ended. -/
theorem waitEndedAt_of {r : EndReason} {s s' t t' : State} {d : Desk} (h : waitEndedAt r s t d)
    (hs : s'.claims = s.claims) (ht : t'.claims = t.claims) (hl : t'.link.deskFlags = t.link.deskFlags) :
    waitEndedAt r s' t' d := by
  simpa [waitEndedAt, hasState, getDesk, deskFlagSet, hs, ht, hl] using h

/-- R26: a relock whose count jumps raises COUNT_JUMP and withdraws the own waits. -/
theorem relock_jump_spec {c : Count} {s : State} (h : countJumps c s) (n : Station) :
    siteFlagSet (relock c n (patternSeen s)) .countJump
    ∧ ∀ d, waitEndedAt .countJump s (relock c n (patternSeen s)) d := by
  rw [relock_of_jump ((countJumps_patternSeen_iff c s).mpr h)]
  refine ⟨siteFlagSet_enterLocked_of c n (siteFlagSet_raiseSite .countJump _), fun d => ?_⟩
  refine waitEndedAt_of (waitEndedAt_withdrawAll .countJump (patternSeen s) d) (by simp) ?_ ?_
  · rw [enterLocked_claims]; simp [jumpTaken]
  · rw [enterLocked_deskFlags]; simp [jumpTaken]

theorem relock_claims_of_no_jump {c : Count} {s : State} (h : ¬ countJumps c s) (n : Station) :
    (relock c n (patternSeen s)).claims = s.claims := by
  rw [relock_of_no_jump ((countJumps_patternSeen_iff c s).not.mpr h), enterLocked_claims]
  simp

/-- Settles O44: a finding is held or passes the test by `follows`, and a relock withdraws claims by `countJumps`. -/
theorem relockEntersLocked : Obligations.RelockEntersLocked := by
  intro s pos c n hsearch
  refine ⟨exec_relockCandidateDropped_of_searching hsearch pos, fun hnone => ?_, fun hcand => ?_⟩
  · have hf : ¬ follows s pos c n = true := by
      rw [follows_iff]
      rintro ⟨x, hx, hfollow⟩
      exact hnone x hx hfollow
    rw [exec_syncPatternFound_of_not_follows hsearch hf, patternSeen_eq]
    rfl
  · obtain ⟨hfound, hpassed⟩ := exec_relock_of_follows hsearch ((follows_iff s pos c n).mpr hcand)
    refine ⟨_, hfound, hpassed, lockedEntered_relock c n s, fun hhunt => relock_claims_of_no_jump ?_ n,
      fun r hhold hr => ⟨fun hmeet => relock_claims_of_no_jump ?_ n, fun hlow hhigh => relock_jump_spec ?_ n⟩⟩
    · rintro ⟨hhold, -⟩
      rw [hhunt] at hhold
      cases hhold
    · rw [countJumps_iff hhold hr]
      omega
    · exact (countJumps_iff hhold hr).mpr ⟨hlow, hhigh⟩

end Sys2Proof

namespace Sys2Proof
open Machine

/-! ## The waits of HUNT and HOLDOVER run out (R20, R22, R27, R28) -/

theorem exec_frameStart_of_runs {s : State} (h : frameRuns s = true) (b : Bool) :
    exec (.frameStart b) s = .next (frameStarts b s) := by
  simp [exec, execFrameStart, whenRuns, h]

theorem exec_huntWaitExpired_of_reaches {s : State} (h : huntReaches s = true) :
    exec .huntWaitExpired s = .next (timingStage s) := by
  simp [exec, execHuntWaitExpired, whenRuns, h]

theorem exec_holdoverWaitExpired_of_reaches {s : State} (h : holdoverReaches s = true) :
    exec .holdoverWaitExpired s = .next (timingStage s) := by
  simp [exec, execHoldoverWaitExpired, whenRuns, h]

theorem huntReaches_iff (s : State) : huntReaches s = true ↔
    frameRuns s = true ∧ s.sync.state = .hunt ∧ s.sync.huntRun + 1 = 16 + 4 * s.setup.station.val := by
  simp [huntReaches, reaches, Config.huntLimit, ownStation, and_assoc]

theorem holdoverReaches_iff (s : State) : holdoverReaches s = true ↔
    frameRuns s = true ∧ s.sync.state = .holdover ∧ s.sync.holdoverRun + 1 = 4 + 2 * s.setup.station.val := by
  simp [holdoverReaches, reaches, Config.holdoverLimit, ownStation, and_assoc]

theorem frameWork_join (b : Bool) (s : State) : (frameWork b s).member.join = s.member.join := by
  simp [frameWork, joinRuns]

/-- A frame start leaves the sync state machine and the join state as its frame timing does. -/
theorem frameStart_keeps_timingStage {s : State} (h : frameRuns s = true) (b : Bool) :
    ∃ u, exec (.frameStart b) s = .next u ∧ u.sync = (timingStage s).sync
      ∧ u.member.join = (timingStage s).member.join :=
  ⟨_, exec_frameStart_of_runs h b, by simp [frameStarts], frameWork_join b _⟩

/-! ### The frame timing at the end of a wait -/

/-- s with the runs of the two waits as given. -/
def waitsAt (hunt holdover : Nat) (s : State) : State :=
  s.setSync { s.sync with huntRun := hunt, holdoverRun := holdover }

/-- The entry to TIMING sets both runs to 0, whatever they were. -/
theorem timingEntered_of_waits (hunt holdover : Nat) (s : State) :
    timingEntered s (enterTiming (waitsAt hunt holdover s)) :=
  timingEntered_enterTiming (waitsAt hunt holdover s)

theorem huntEntered_of_waits (hunt holdover : Nat) (s : State) : huntEntered s (enterHunt (waitsAt hunt holdover s)) :=
  huntEntered_enterHunt (waitsAt hunt holdover s)

/-- R22: the frame timing where the hunt run reaches its limit. -/
theorem timingStage_huntLimit {s : State} (hs : s.sync.state = .hunt)
    (hrun : s.sync.huntRun + 1 = 16 + 4 * s.setup.station.val) :
    timingStage s = if s.member.join = .listen then
        enterTiming (waitsAt (16 + 4 * s.setup.station.val) s.sync.holdoverRun (countAdvanced s))
      else waitsAt (16 + 4 * s.setup.station.val) s.sync.holdoverRun (countAdvanced s) := by
  have hstage : timingStage s = huntStep (countAdvanced s) := by simp [timingStage, advanceCount, countAdvanced, hs]
  have hcap : capAdd s.sync.huntRun 1 (16 + 4 * s.setup.station.val) = 16 + 4 * s.setup.station.val := by
    rw [capAdd, hrun, Nat.min_self]
  rw [hstage, huntStep]
  simp only [countAdvanced, setSync_sync, setSync_member, ownStation, setSync_setup, Config.huntLimit, hcap, hrun,
    Nat.le_refl, true_and]
  rfl

/-- R27: the frame timing where the holdover run reaches its limit. -/
theorem timingStage_holdoverLimit {s : State} (hs : s.sync.state = .holdover)
    (hrun : s.sync.holdoverRun + 1 = 4 + 2 * s.setup.station.val) :
    timingStage s = if s.member.join = .member then
        enterTiming (waitsAt s.sync.huntRun (4 + 2 * s.setup.station.val) (countAdvanced s))
      else enterHunt (waitsAt s.sync.huntRun (4 + 2 * s.setup.station.val) (countAdvanced s)) := by
  have hstage : timingStage s = holdoverStep (countAdvanced s) := by simp [timingStage, advanceCount, countAdvanced, hs]
  have hcap : capAdd s.sync.holdoverRun 1 (4 + 2 * s.setup.station.val) = 4 + 2 * s.setup.station.val := by
    rw [capAdd, hrun, Nat.min_self]
  rw [hstage, holdoverStep]
  simp only [countAdvanced, setSync_sync, setSync_member, ownStation, setSync_setup, Config.holdoverLimit, hcap, hrun,
    Nat.le_refl, if_true]
  rfl

/-- R31: the join state after an entry to TIMING. -/
theorem join_of_timingEntered {s t : State} (h : timingEntered s t) :
    t.member.join = if s.member.join = .listen then .announce else s.member.join := by
  obtain ⟨-, hmember, -⟩ := h
  rw [hmember, joinAfterEntry]
  split <;> rfl

/-- Settles O45: the row and the frame start run the same frame timing, which at the limit enters TIMING, enters HUNT, or stays
in HUNT, by the join state. -/
theorem waitsRunOut : Obligations.WaitsRunOut := by
  intro s hruns
  refine ⟨fun hs hrun => ?_, fun hs hrun => ?_⟩
  · rw [exec_huntWaitExpired_of_reaches ((huntReaches_iff s).mpr ⟨hruns, hs, hrun⟩)]
    have hstage := timingStage_huntLimit hs hrun
    refine ⟨fun hj => ?_, fun hj => by rw [hstage, if_neg hj]; rfl⟩
    have hentered : timingEntered (countAdvanced s) (timingStage s) := by
      rw [hstage, if_pos hj]
      exact timingEntered_of_waits _ _ _
    have hjoin : (timingStage s).member.join = .announce := (join_of_timingEntered hentered).trans (if_pos hj)
    refine ⟨_, rfl, hentered, fun b => ?_⟩
    rw [← hjoin]
    exact frameStart_keeps_timingStage hruns b
  · rw [exec_holdoverWaitExpired_of_reaches ((holdoverReaches_iff s).mpr ⟨hruns, hs, hrun⟩)]
    have hstage := timingStage_holdoverLimit hs hrun
    refine ⟨fun hj => ?_, fun hj => ⟨_, rfl, ?_, frameStart_keeps_timingStage hruns⟩⟩
    · have hentered : timingEntered (countAdvanced s) (timingStage s) := by
        rw [hstage, if_pos hj]
        exact timingEntered_of_waits _ _ _
      have hlisten : (countAdvanced s).member.join ≠ .listen := by
        rw [countAdvanced, setSync_member, hj]
        decide
      have hjoin : (timingStage s).member.join = .member :=
        ((join_of_timingEntered hentered).trans (if_neg hlisten)).trans hj
      refine ⟨_, rfl, hentered, fun b => ?_⟩
      rw [← hjoin]
      exact frameStart_keeps_timingStage hruns b
    · rw [hstage, if_neg hj]
      exact huntEntered_of_waits _ _ _

end Sys2Proof

namespace Sys2Proof
open Machine

/-! ## Sync is lost (R20, R24, R25, R29) -/

/-! ### Misses (R24) -/

theorem countMiss_below {s : State} (h : s.sync.missRun < 2) :
    countMiss s = s.setSync { s.sync with missRun := s.sync.missRun + 1 } := by
  rw [countMiss]
  dsimp only
  rw [if_neg (by omega), capAdd, Nat.min_eq_left (by omega)]

theorem countMiss_third {s : State} (h : s.sync.missRun = 2) :
    countMiss s = enterHoldover (s.setSync { s.sync with missRun := 3 }) := by
  rw [countMiss]
  dsimp only
  rw [if_pos (by omega), h]
  rfl

theorem missReaches_iff (s : State) :
    missReaches s = true ↔ pointsRun s = true ∧ s.sync.state = .locked ∧ s.sync.missRun = 2 := by
  simp [missReaches, reaches, and_assoc]

theorem exec_missRunLimit_of_reaches {s : State} (h : missReaches s = true) :
    exec .missRunLimit s = .next (countMiss s) := by
  simp [exec, execMissRunLimit, whenRuns, h]

theorem readbackReaches_iff (s : State) : readbackReaches s = true ↔
    sampleRuns s = true ∧ s.sync.state = .timing ∧ s.bus.syncLatch ≠ none ∧ s.sync.readbackRun = 1 := by
  simp [readbackReaches, reaches, and_assoc, Option.isSome_iff_ne_none]

theorem exec_timingReadbackLimit_of_reaches {s : State} (h : readbackReaches s = true) :
    exec .timingReadbackLimit s = .next (readbackMiss s) := by
  simp [exec, execTimingReadbackLimit, whenRuns, h]

/-- R24: bad sync fields, or no fresh peer slot, make a frame of a LOCKED station a miss. -/
theorem missStep_miss {s : State} (hl : s.sync.state = .locked) (h : s.bus.syncGood = false ∨ allPeersStale s = true) :
    missStep s = countMiss s := by
  have hc : (!s.bus.syncGood || allPeersStale s) = true := by
    rw [Bool.or_eq_true, Bool.not_eq_true']
    exact h
  rw [missStep, if_pos hl, if_pos hc]

/-- R24, R25: the third miss is the entry to HOLDOVER. -/
theorem missStep_third {s : State} (hl : s.sync.state = .locked) (h : s.bus.syncGood = false ∨ allPeersStale s = true)
    (hrun : s.sync.missRun = 2) : holdoverEntered (s.setSync { s.sync with missRun := 3 }) (missStep s) := by
  rw [missStep_miss hl h, countMiss_third hrun]
  exact holdoverEntered_enterHoldover _

theorem allPeersStale_iff (s : State) : allPeersStale s = true ↔ ∀ k, judgedFresh s k = false := by
  rw [allPeersStale, List.all_eq_true]
  refine ⟨fun h k => ?_, fun h k _ => ?_⟩
  · simpa using h k (mem_allStations k)
  · rw [h k]; rfl

/-! ### Slot received 7 -/

/-- R24: slot received 7 leaves what the miss step leaves in all but the join state, the clamp unit and the flags. -/
theorem slotSeven_spec {s : State} (hp : pointsRun s = true) (x : BitVec 208) :
    ∃ t, exec (.slotReceived 7 x) s = .next t ∧ t.sync = (missStep (slotTaken 7 x s)).sync
      ∧ t.bus = (missStep (slotTaken 7 x s)).bus ∧ t.claims = (missStep (slotTaken 7 x s)).claims
      ∧ t.air = (missStep (slotTaken 7 x s)).air ∧ t.ident = (missStep (slotTaken 7 x s)).ident := by
  obtain ⟨order, harr, -⟩ := slotArrives_eq 7 x s
  refine ⟨_, exec_slotReceived_of_runs hp 7 x, ?_⟩
  rw [harr]
  simp [lastSlotChecks]

/-- R11: what is received at an undriven position is no fresh slot. -/
theorem judgedFresh_slotTaken_undriven (k : Station) (s : State) :
    judgedFresh (slotTaken k (BitVec.allOnes 208) s) k = false := by
  rw [← Bool.not_eq_true, judgedFresh_iff, (slotLeaves_slotTaken k _ s).setup]
  rintro ⟨hk, hfresh⟩
  have hnot : ¬ slotFresh (ownCount s) k (BitVec.allOnes 208) = true := by
    rw [slotFresh_iff]
    exact fun h => h.1 rfl
  rw [slotTaken, if_neg (show k ≠ ownStation s from hk), if_neg hnot] at hfresh
  simp [staleSlot, putJudge] at hfresh

/-- R24: no peer slot is fresh where none is at the other positions and the slot itself is undriven. -/
theorem allPeersStale_slotTaken_undriven {s : State} {k : Station}
    (h : ∀ j, j ≠ k → j ≠ s.setup.station → s.bus.judge.get j ≠ .fresh) :
    allPeersStale (slotTaken k (BitVec.allOnes 208) s) = true := by
  have hslot := slotLeaves_slotTaken k (BitVec.allOnes 208) s
  rw [allPeersStale_iff]
  intro j
  by_cases hj : j = k
  · rw [hj]
    exact judgedFresh_slotTaken_undriven k s
  · rw [← Bool.not_eq_true, judgedFresh_iff, hslot.setup, hslot.judge j hj]
    rintro ⟨hown, hfresh⟩
    exact h j hj hown hfresh

/-- R25: no own desk is HOLDING after the entry to HOLDOVER. -/
theorem not_holding_of_holdoverEntered {s t : State} (h : holdoverEntered s t) (d : Desk) : ¬ hasState t d .holding := by
  obtain ⟨-, -, hdesks, -⟩ := h
  obtain ⟨hended, hkept⟩ := hdesks d
  by_cases hd : hasState s d .holding
  · rw [hasState, (hended hd).1]
    exact nofun
  · rw [hasState, hkept hd]
    exact hd

/-- Settles O46: the rows by the entries they make; slot received 7 by whether the frame is a miss, and which miss it is. -/
theorem syncIsLost : Obligations.SyncIsLost := by
  intro s
  refine ⟨fun hp hl hrun => ?_, fun hp ht hlatch hrun => ?_, fun hp hl x => ?_⟩
  · rw [exec_missRunLimit_of_reaches ((missReaches_iff s).mpr ⟨hp, hl, hrun⟩), countMiss_third hrun]
    exact ⟨_, rfl, holdoverEntered_enterHoldover _⟩
  · rw [exec_timingReadbackLimit_of_reaches ((readbackReaches_iff s).mpr ⟨hp, ht, hlatch, hrun⟩),
      readbackMiss_second (by omega)]
    exact ⟨_, rfl, huntEntered_enterHunt s⟩
  · obtain ⟨t, hexec, hsync, hbus, hclaims, hair, hident⟩ := slotSeven_spec hp x
    have hslot := slotLeaves_slotTaken 7 x s
    have hl' : (slotTaken 7 x s).sync.state = .locked := by rw [hslot.sync]; exact hl
    have hgood : (slotTaken 7 x s).bus.syncGood = s.bus.syncGood := hslot.syncGood
    have hmiss : (slotTaken 7 x s).bus.syncGood = false ∨ allPeersStale (slotTaken 7 x s) = true →
        s.sync.missRun < 2 → t.sync.state = .locked ∧ t.sync.missRun = s.sync.missRun + 1 := fun hm hrun => by
      rw [hsync, missStep_miss hl' hm, countMiss_below (by rw [hslot.sync]; exact hrun), setSync_sync, hslot.sync]
      exact ⟨hl, rfl⟩
    refine ⟨t, hexec, fun hbad => hmiss (.inl (hgood.trans hbad)), fun hbad hrun => ?_,
      fun hg k hk hown hfresh => ?_, fun hg hnone hx => ?_⟩
    · have hentered := missStep_third hl' (.inl (hgood.trans hbad)) (by rw [hslot.sync]; exact hrun)
      have hnone := not_holding_of_holdoverEntered hentered
      obtain ⟨hstate, hoff, -⟩ := hentered
      refine ⟨?_, airIsOff_of_blocks hoff hair hbus hident, fun d => ?_⟩
      · rw [hsync, hstate]
      · rw [hasState, getDesk_of_claims hclaims]
        exact hnone d
    · have hf : judgedFresh (slotTaken 7 x s) k = true := by
        rw [judgedFresh_iff, hslot.setup, hslot.judge k hk]
        exact ⟨hown, hfresh⟩
      rw [hsync, missStep_good hl' (hgood.trans hg) (allPeersStale_of_fresh hf), setSync_sync]
      exact ⟨hl', rfl⟩
    · subst hx
      exact hmiss (.inr (allPeersStale_slotTaken_undriven hnone))

end Sys2Proof

namespace Sys2Proof
open Machine

/-! ## Membership changes (R32, R33, R36, R37, R56) -/

/-! ### The end of an announcement (R32) -/

theorem exec_announceComplete_of_runs {s : State} (h : pointsRun s = true) :
    exec .announceComplete s = .next (announceCompare s) := by
  simp [exec, execAnnounceComplete, whenRuns, h]

/-- R30, R33: what a station that leaves ANNOUNCE for a join state other than FENCED changes. -/
theorem setJoin_from_announce {s : State} {j : JoinState} (h : s.member.join = .announce) (hj : j ≠ .announce)
    (hf : j ≠ .fenced) : setJoin j s = { s with
      member := { s.member with join := j, standing := 0 }
      link := { s.link with siteFlags := s.link.siteFlags ||| SiteFlag.syncChange.mask } } := by
  have hsame : ¬ s.member.join = j := by rw [h]; exact Ne.symm hj
  have hmember : ¬ s.member.join = .member := by rw [h]; decide
  rw [setJoin, if_neg hsame]
  dsimp only
  rw [if_neg hmember, if_neg hf]
  rfl

/-- R32: a LOCKED station compares its digest with that of the timing station's fresh slot. -/
theorem announceCompare_header {s : State} {h : Header} (hj : s.member.join = .announce)
    (hr : 16 ≤ s.member.announceRun) (hl : s.sync.state = .locked)
    (hh : s.sync.timingStation.bind (freshHeader s) = some h) :
    announceCompare s = setJoin (if s.setup.digest = some h.setupDigest then .member else .mismatch) s := by
  rw [announceCompare, if_pos ⟨hj, hr⟩, hl]
  dsimp only
  rw [hh]
  dsimp only
  by_cases hd : s.setup.digest = some h.setupDigest
  · rw [if_pos hd, if_pos hd.symm]
  · rw [if_neg hd, if_neg (Ne.symm hd)]

theorem announceCompare_no_header {s : State} (hj : s.member.join = .announce) (hr : 16 ≤ s.member.announceRun)
    (hl : s.sync.state = .locked) (hh : s.sync.timingStation.bind (freshHeader s) = none) : announceCompare s = s := by
  rw [announceCompare, if_pos ⟨hj, hr⟩, hl]
  dsimp only
  rw [hh]

theorem freshHeader_of_not_fresh {s : State} {k : Station} (h : ¬ judgedFresh s k = true) : freshHeader s k = none :=
  if_neg h

/-- R32: a LOCKED station without a fresh slot of its timing station keeps announcing. -/
theorem announceCompare_waits {s : State} {k : Station} (hj : s.member.join = .announce)
    (hr : 16 ≤ s.member.announceRun) (hl : s.sync.state = .locked) (hst : s.sync.timingStation = some k)
    (hf : ¬ judgedFresh s k = true) : announceCompare s = s := by
  refine announceCompare_no_header hj hr hl ?_
  rw [hst]
  exact freshHeader_of_not_fresh hf

/-! ### Peers joined and lost (R36, R37) -/

theorem joinReaches_iff (k : Station) (s : State) : joinReaches k s = true ↔
    pointsRun s = true ∧ k ≠ s.setup.station ∧ (s.member.presence.get k).freshRun = 3
      ∧ (s.member.presence.get k).state ≠ .joined := by
  simp [joinReaches, reaches, ownStation, and_assoc]

theorem exec_peerJoined_of_reaches {k : Station} {s : State} (h : joinReaches k s = true) :
    exec (.peerJoined k) s = .next (peerFresh k 2 s) := by
  simp [exec, execPeerJoined, whenRuns, h]

theorem lossReaches_iff (k : Station) (s : State) : lossReaches k s = true ↔
    pointsRun s = true ∧ k ≠ s.setup.station ∧ (s.member.presence.get k).losing = true := by
  simp [lossReaches, ownStation, and_assoc]

theorem exec_peerLost_of_reaches {k : Station} {s : State} (h : lossReaches k s = true) (driven : Bool) :
    exec (.peerLost k driven) s = .next (peerStale k driven s) := by
  simp [exec, execPeerLost, whenRuns, h]

theorem Machine.Presence.fresh_fourth {e : Presence} (h : e.freshRun = 3) : e.fresh 2 = ⟨.joined, 4, 0, e.bad⟩ := by
  rw [Presence.fresh, if_neg (by decide), if_pos rfl, h]
  rfl

theorem Machine.Presence.stale_sixteenth {e : Presence} (h : e.staleRun = 15) (hl : e.losing = true) (driven : Bool) :
    e.stale driven = ⟨.unseen, 0, 16, if driven then min (e.bad + 1) 65535 else e.bad⟩ := by
  rw [Presence.stale, if_pos hl, h]
  rfl

/-- R36, R37: an entry whose state changes raises PEER_CHANGE. -/
theorem putPresence_changed {k : Station} {x : Presence} {s : State}
    (h : (s.member.presence.get k).state ≠ x.state) : putPresence k x s = { s with
      member := { s.member with presence := s.member.presence.set k x }
      link := { s.link with siteFlags := s.link.siteFlags ||| SiteFlag.peerChange.mask } } := by
  rw [putPresence]
  dsimp only
  rw [if_neg h]
  rfl

/-- R37, R56: the loss of a JOINED peer clears its mirrors, and that of a JOINING one keeps them. -/
theorem peerStale_losing {k : Station} {s : State} (h : (s.member.presence.get k).losing = true) (driven : Bool) :
    peerStale k driven s = { s with
      member := { s.member with presence := s.member.presence.set k ((s.member.presence.get k).stale driven) }
      claims := { s.claims with
        mirrors := if (s.member.presence.get k).state = .joined then s.claims.mirrors.set k (.all .absent)
          else s.claims.mirrors }
      link := { s.link with siteFlags := s.link.siteFlags ||| SiteFlag.peerChange.mask } } := by
  have hstate : ((s.member.presence.get k).stale driven).state = .unseen := if_pos h
  have hchange : (s.member.presence.get k).state ≠ ((s.member.presence.get k).stale driven).state := by
    obtain ⟨-, hj | hj⟩ := (Presence.losing_iff _).mp h <;> rw [hstate, hj] <;> decide
  rw [peerStale]
  dsimp only
  rw [putPresence_changed hchange, h, Bool.true_and]
  by_cases hj : (s.member.presence.get k).state = .joined
  · rw [if_pos (beq_iff_eq.mpr hj), if_pos hj]
    rfl
  · rw [if_neg (mt beq_iff_eq.mp hj), if_neg hj]

/-- Settles O48: the comparison by the sync state and the timing station's slot, the peers by what their entry becomes. -/
theorem membershipChanges : Obligations.MembershipChanges := by
  intro s hp
  refine ⟨fun hj hr => ?_, fun k hk hrun hstate => ?_, fun k driven hk hrun hstate => ?_⟩
  · rw [exec_announceComplete_of_runs hp]
    refine ⟨fun ht => ?_, fun k h hl hst hk hh => ⟨fun hf => ?_, fun hf => ?_⟩, fun hl hst => ?_⟩
    · rw [announceCompare_timing hj hr ht, setJoin_from_announce hj (by decide) (by decide)]
    · have hfresh : judgedFresh s k = true := (judgedFresh_iff s k).mpr ⟨hk, hf⟩
      have hhead : s.sync.timingStation.bind (freshHeader s) = some h := by
        rw [hst]
        exact (freshHeader_of_fresh hfresh).trans hh
      rw [announceCompare_header hj hr hl hhead, setJoin_from_announce hj]
      all_goals split <;> decide
    · rw [announceCompare_waits hj hr hl hst (fun h => hf ((judgedFresh_iff s k).mp h).2)]
    · rw [announceCompare_waits hj hr hl hst (fun h => ((judgedFresh_iff s _).mp h).1 rfl)]
  · rw [exec_peerJoined_of_reaches ((joinReaches_iff k s).mpr ⟨hp, hk, hrun, hstate⟩), peerFresh,
      Presence.fresh_fourth hrun, putPresence_changed hstate]
  · have hl : (s.member.presence.get k).losing = true := (Presence.losing_iff _).mpr ⟨by omega, hstate⟩
    rw [exec_peerLost_of_reaches ((lossReaches_iff k s).mpr ⟨hp, hk, hl⟩), peerStale_losing hl,
      Presence.stale_sixteenth hrun hl]
    rfl

end Sys2Proof

namespace Sys2Proof
open Machine

/-! ## A frame start at which no wait runs out (R4, R10, R13, R19, R22, R27, R32, R33, R125, R151) -/

/-! ### What every action of the air sequencer at a frame start keeps -/

/-- A property of states that the single actions keep of which the air sequencer's work at a frame start is made. -/
structure AirStable (P : State → Prop) : Prop where
  air : ∀ s x, P s → P (s.setAir x)
  drives : ∀ s keyl latch prog, P s →
    P (s.setBus { s.bus with keylDrive := keyl, progLatch := latch, progDrive := prog })
  pool : ∀ s x, P s → P (s.setPool x)
  phase : ∀ s phase kind clip, P s →
    P (s.setIdent { s.ident with phase := phase, kind := kind, clipIndex := clip })
  flag : ∀ s d f, P s → P (raiseDesk d f s)
  ending : ∀ s d r, P s → P (endHolding d r s)

section
variable {P : State → Prop} (h : AirStable P)
include h

theorem AirStable.keeps_decideOff {s : State} (hs : P s) : P (decideOff s) := h.air _ _ (h.drives _ _ _ _ hs)

theorem AirStable.keeps_decideField {s : State} (hs : P s) (kind : BitVec 3) (last : Bool) (x : Cell) (ident : Bool) :
    P (decideField kind last x ident s) := h.air _ _ (h.drives _ _ _ _ hs)

theorem AirStable.keeps_endIdent {s : State} (hs : P s) : P (endIdent s) := h.phase _ _ _ _ hs

theorem AirStable.keeps_stopAir {s : State} (hs : P s) : P (stopAir s) := h.keeps_decideOff (h.air _ _ hs)

theorem AirStable.keeps_starveFrame {s : State} (hs : P s) (d : Desk) : P (starveFrame d s) := by
  have hfill := h.air _ { (decideFill s).air with starveRun := capAdd s.air.starveRun 1 s.setup.silenceHold }
    (h.keeps_decideField hs kindFill false silence false)
  unfold starveFrame
  dsimp only
  split
  · exact h.ending _ d .starved hfill
  · exact hfill

theorem AirStable.keeps_drainFrame {s : State} (hs : P s) (d : Desk) : P (drainFrame d s) :=
  h.ending _ _ _ (h.keeps_decideField hs _ _ _ _)

theorem AirStable.keeps_markVoice {s : State} (hs : P s) (d : Desk) : P (markVoice d s) := by
  unfold markVoice
  dsimp only
  split
  · exact h.air _ _ hs
  · exact h.flag _ _ _ (h.air _ _ hs)

theorem AirStable.keeps_voiceFrame {s : State} (hs : P s) (d : Desk) : P (voiceFrame d s) := by
  unfold voiceFrame
  split
  · exact h.keeps_decideField hs _ _ _ _
  next p _ =>
    have hvoice := h.keeps_markVoice (h.keeps_decideField (s := releaseCells d p.queue s) (h.pool _ _ hs) kindVoice false
      (scaleCell p.trim p.cell) false) d
    dsimp only
    split
    · exact h.ending _ _ _ hvoice
    · exact hvoice

theorem AirStable.keeps_startFrame {s : State} (hs : P s) (d : Desk) : P (startFrame d s) :=
  h.keeps_voiceFrame (h.pool _ _ hs) d

theorem AirStable.keeps_gapFrame {s : State} (hs : P s) (d : Desk) : P (gapFrame d s) :=
  h.keeps_startFrame (h.flag _ _ _ (h.pool _ _ hs)) d

theorem AirStable.keeps_onDecide {s : State} (hs : P s) (d : Desk) : P (onDecide d s) := by
  unfold onDecide
  cases cellChoice s d with
  | playCell => exact h.keeps_voiceFrame hs d
  | emptyQueue =>
    dsimp only
    split
    · exact h.keeps_drainFrame hs d
    · exact h.keeps_starveFrame hs d
  | startHead => exact h.keeps_startFrame hs d
  | declareGap => exact h.keeps_gapFrame hs d
  | waitForBlock => exact h.keeps_starveFrame hs d

theorem AirStable.keeps_primeDecide {s : State} (hs : P s) (d : Desk) : P (primeDecide d s) := by
  unfold primeDecide
  split
  · exact h.keeps_onDecide (h.air _ _ hs) d
  · exact h.keeps_starveFrame hs d

theorem AirStable.keeps_tailDecide {s : State} (hs : P s) : P (tailDecide s) := by
  unfold tailDecide
  split
  · exact h.keeps_decideField (h.air _ _ hs) _ _ _ _
  · exact h.keeps_stopAir hs

theorem AirStable.keeps_startTaken {s : State} (hs : P s) (d : Desk) : P (startTaken d s) :=
  h.keeps_decideField (h.keeps_endIdent (h.air _ _ hs)) _ _ _ _

theorem AirStable.keeps_leaveIdent {s : State} (hs : P s) : P (leaveIdent s) := by
  have hend := h.keeps_endIdent hs
  have htail : P (beginTail (endIdent s)) := h.keeps_tailDecide (h.air _ _ hend)
  unfold leaveIdent
  dsimp only
  split
  · split
    · exact h.keeps_startTaken hend _
    · exact htail
  · split
    · exact h.keeps_onDecide (h.air _ _ hend) _
    · exact htail

theorem AirStable.keeps_identDecide {s : State} (hs : P s) : P (identDecide s) := by
  unfold identDecide
  split
  · exact h.keeps_decideField (h.phase s s.ident.phase s.ident.kind _ hs) _ _ _ _
  · exact h.keeps_leaveIdent hs

theorem AirStable.keeps_leadDecide {s : State} (hs : P s) : P (leadDecide s) := by
  unfold leadDecide
  split
  · exact h.keeps_decideField (h.air _ _ hs) _ _ _ _
  · unfold leadEnds
    split
    · exact h.keeps_identDecide (h.phase _ _ _ _ (h.air _ _ hs))
    · exact h.keeps_primeDecide (h.air _ _ hs) _
    · exact h.keeps_stopAir hs

theorem AirStable.keeps_airDecide {s : State} (hs : P s) : P (airDecide s) := by
  unfold airDecide
  split
  · exact h.keeps_decideOff hs
  · exact h.keeps_leadDecide hs
  · exact h.keeps_primeDecide hs _
  · exact h.keeps_onDecide hs _
  · exact h.keeps_identDecide hs
  · exact h.keeps_tailDecide hs
  all_goals exact h.keeps_stopAir hs

theorem AirStable.keeps_takeInterval {s : State} (hs : P s) : P (takeInterval s) := by
  unfold takeInterval
  split
  · exact h.keeps_identDecide (h.phase _ _ _ _ (h.air _ _ hs))
  · exact h.keeps_airDecide (h.keeps_endIdent (h.air _ _ hs))

theorem AirStable.keeps_takeTailIdent {s : State} (hs : P s) : P (takeTailIdent s) := by
  unfold takeTailIdent
  split
  · exact h.keeps_decideField (h.phase (State.setAir s _) .lead (some .tail) s.ident.clipIndex (h.air _ _ hs)) _ _ _ _
  · exact h.keeps_airDecide (h.keeps_endIdent (h.air _ _ hs))

/-- R102: the air sequencer's work at a frame start keeps what its single actions keep. -/
theorem AirStable.keeps_airFrame {s : State} (hs : P s) : P (airFrame s) := by
  have hw : P (applyWithdrawal s) := by
    unfold applyWithdrawal
    split
    · exact h.air _ _ hs
    · exact hs
  unfold airFrame
  dsimp only
  split
  · split
    · exact h.keeps_airDecide hw
    · exact h.keeps_startTaken hw _
  · exact h.keeps_takeInterval hw
  · exact h.keeps_takeTailIdent hw
  · exact h.keeps_airDecide hw

end

/-! ### The bus engine and the identification unit through the frame's work -/

/-- From s to t the bus engine changed in what the air sequencer hands it only, and the identification unit in its phase, kind
and clip index only. -/
structure HandedOver (s t : State) : Prop where
  bus : t.bus = { s.bus with
    keylDrive := t.bus.keylDrive, progLatch := t.bus.progLatch, progDrive := t.bus.progDrive }
  ident : t.ident = { s.ident with phase := t.ident.phase, kind := t.ident.kind, clipIndex := t.ident.clipIndex }

theorem HandedOver.of_eq {s t u : State} (h : HandedOver s t) (hb : u.bus = t.bus) (hi : u.ident = t.ident) :
    HandedOver s u :=
  ⟨by rw [hb]; exact h.bus, by rw [hi]; exact h.ident⟩

theorem airStable_handedOver (s : State) : AirStable (HandedOver s) where
  air _ _ h := ⟨h.bus, h.ident⟩
  drives t keyl latch prog h := ⟨by rw [setBus_bus, h.bus], h.ident⟩
  pool _ _ h := ⟨h.bus, h.ident⟩
  phase t phase kind clip h := ⟨h.bus, by rw [setIdent_ident, h.ident]⟩
  flag _ _ _ h := ⟨h.bus, h.ident⟩
  ending t d r h := h.of_eq (endHolding_frame t d r).2.2.1 (endHolding_frame t d r).2.2.2.2.2.2.1

theorem handedOver_claimsAndAir (reportFirst : Bool) (s : State) : HandedOver s (claimsAndAir reportFirst s) := by
  have hs : HandedOver s s := ⟨rfl, rfl⟩
  have hstable := airStable_handedOver s
  cases reportFirst
  · have hbefore : HandedOver s (publishAll (barWork s s)) := hs.of_eq (by simp) (by simp)
    exact hstable.keeps_airFrame hbefore
  · have hafter : HandedOver s (airFrame s) := hstable.keeps_airFrame hs
    exact hafter.of_eq (by simp [claimsAndAir]) (by simp [claimsAndAir])

/-! ### The runs of the frame -/

/-- R125: the due age at a frame start. -/
theorem dueStep_ident (s : State) : (dueStep s).ident.a = s.ident.a ∧ (dueStep s).ident.due = s.ident.due
    ∧ (dueStep s).ident.dueAge = if s.ident.due then min (s.ident.dueAge + 1) 100 else s.ident.dueAge := by
  unfold dueStep
  split
  · dsimp only
    split <;> exact ⟨rfl, rfl, rfl⟩
  · exact ⟨rfl, rfl, rfl⟩

theorem guardFrameStart_off {s : State} (h : s.guard.on = false) : guardFrameStart s = s := by
  rw [guardFrameStart, h]
  rfl

/-- R151: a frame start that begins no cycle is counted. -/
theorem guardFrameStart_counts {s : State} (hon : s.guard.on = true) (hbegin : s.guard.beginDue = false)
    (h : s.guard.since + 1 < 100) : guardFrameStart s = s.setGuard { s.guard with since := s.guard.since + 1 } := by
  rw [guardFrameStart, hon, hbegin]
  exact if_pos h

theorem drivesSlot_iff (s : State) : drivesSlot s = true ↔ (s.sync.state = .locked ∨ s.sync.state = .timing)
    ∧ (s.member.join = .announce ∨ s.member.join = .member ∨ s.member.join = .mismatch) := by
  simp [drivesSlot, syncActive, or_assoc]

/-- R32, R33: the membership runs at a frame start. -/
theorem joinRuns_member (s : State) : (joinRuns s).member = { s.member with
    standing := if s.member.join = .member then min (s.member.standing + 1) 8 else s.member.standing
    announceRun := if s.member.join = .announce ∧ (s.sync.state = .locked ∨ s.sync.state = .timing) then
        min (s.member.announceRun + 1) 16 else s.member.announceRun } := by
  have hdriven : (s.member.join = .announce ∧ drivesSlot s = true)
      ↔ s.member.join = .announce ∧ (s.sync.state = .locked ∨ s.sync.state = .timing) := by
    rw [drivesSlot_iff]
    exact ⟨fun ⟨hj, hs, _⟩ => ⟨hj, hs⟩, fun ⟨hj, hs⟩ => ⟨hj, hs, .inl hj⟩⟩
  simp only [joinRuns, setMember_member, hdriven]
  rfl

/-! ### The frame's work as a whole -/

/-- The frame's work up to that of the claim table and the air sequencer. -/
def runsCounted (s : State) : State := guardFrameStart (dueStep (joinRuns (newFrameBus s)))

theorem runsCounted_bus (s : State) : (runsCounted s).bus = { s.bus with
    judge := (Eight.all Judgement.stale).set s.setup.station .own
    readback := .notDriven
    syncGood := false
    relockRest := false
    ownSlotDriven := drivesSlot s } := by
  simp [runsCounted, joinRuns, newFrameBus, ownStation, drivesSlot, syncActive]

theorem runsCounted_member (s : State) : (runsCounted s).member = (joinRuns s).member := by
  simp [runsCounted, joinRuns, drivesSlot, syncActive]

theorem runsCounted_ident (s : State) : (runsCounted s).ident.a = s.ident.a ∧ (runsCounted s).ident.due = s.ident.due
    ∧ (runsCounted s).ident.dueAge = if s.ident.due then min (s.ident.dueAge + 1) 100 else s.ident.dueAge := by
  simpa [runsCounted] using dueStep_ident (joinRuns (newFrameBus s))

theorem runsCounted_guard (s : State) : (s.guard.on = false → (runsCounted s).guard = s.guard)
    ∧ (s.guard.on = true → s.guard.beginDue = false → s.guard.since + 1 < 100 →
      (runsCounted s).guard = { s.guard with since := s.guard.since + 1 }) := by
  have hguard : (dueStep (joinRuns (newFrameBus s))).guard = s.guard := by simp
  refine ⟨fun hoff => ?_, fun hon hbegin hsince => ?_⟩
  · rw [runsCounted, guardFrameStart_off (by rw [hguard]; exact hoff), hguard]
  · rw [runsCounted, guardFrameStart_counts (by rw [hguard]; exact hon) (by rw [hguard]; exact hbegin)
      (by rw [hguard]; exact hsince), setGuard_guard, hguard]

theorem frameWork_member (b : Bool) (s : State) : (frameWork b s).member = (runsCounted s).member := by
  simp [frameWork, runsCounted]

theorem frameWork_guard (b : Bool) (s : State) : (frameWork b s).guard = (runsCounted s).guard := by
  simp [frameWork, runsCounted]

/-- After the runs are counted, the frame's work changes the bus engine in its latches and drives only. -/
theorem frameWork_bus (b : Bool) (s : State) : (frameWork b s).bus = { (runsCounted s).bus with
    ownSlot := (frameWork b s).bus.ownSlot
    syncLatch := (frameWork b s).bus.syncLatch
    keylDrive := (frameWork b s).bus.keylDrive
    progLatch := (frameWork b s).bus.progLatch
    progDrive := (frameWork b s).bus.progDrive } := by
  have hlatch : (frameWork b s).bus = { (claimsAndAir b (runsCounted s)).bus with
      ownSlot := (frameWork b s).bus.ownSlot, syncLatch := (frameWork b s).bus.syncLatch } := rfl
  rw [hlatch, (handedOver_claimsAndAir b (runsCounted s)).bus]

/-- After the runs are counted, the frame's work leaves the identification unit's counts. -/
theorem frameWork_ident (b : Bool) (s : State) : (frameWork b s).ident.a = (runsCounted s).ident.a
    ∧ (frameWork b s).ident.due = (runsCounted s).ident.due
    ∧ (frameWork b s).ident.dueAge = (runsCounted s).ident.dueAge := by
  have hident : (frameWork b s).ident = (claimsAndAir b (runsCounted s)).ident := by simp [frameWork, runsCounted]
  rw [hident, (handedOver_claimsAndAir b (runsCounted s)).ident]
  exact ⟨rfl, rfl, rfl⟩

/-- The frame's work leaves power, setup, history and the queue. -/
theorem frameWork_kept (b : Bool) (s : State) : frameWork b s = { s with
    bus := (frameWork b s).bus, sync := (frameWork b s).sync, member := (frameWork b s).member
    claims := (frameWork b s).claims, pool := (frameWork b s).pool, air := (frameWork b s).air
    ident := (frameWork b s).ident, clamp := (frameWork b s).clamp, guard := (frameWork b s).guard
    link := (frameWork b s).link } := by
  apply State.eq_of_blocks <;> simp

/-- R4, R10, R13: the bus engine after the frame's work. -/
theorem frameWork_bus_spec (b : Bool) (s : State) :
    (∀ k, (frameWork b s).bus.judge.get k = if k = s.setup.station then .own else .stale)
    ∧ (frameWork b s).bus.readback = .notDriven ∧ (frameWork b s).bus.syncGood = false
    ∧ (frameWork b s).bus.relockRest = false ∧ (frameWork b s).bus.ownSlotDriven = drivesSlot s
    ∧ (frameWork b s).bus.headers = s.bus.headers ∧ (frameWork b s).bus.sampNow = s.bus.sampNow
    ∧ (frameWork b s).bus.sampPrev = s.bus.sampPrev ∧ (frameWork b s).bus.progResult = s.bus.progResult
    ∧ (frameWork b s).bus.fenceRun = s.bus.fenceRun := by
  rw [frameWork_bus, runsCounted_bus]
  refine ⟨fun k => ?_, rfl, rfl, rfl, rfl, rfl, rfl, rfl, rfl, rfl⟩
  rw [Eight.get_set, Eight.get_all]

/-- Settles O29: the frame timing only advances the sync block, and each block after the frame's work is known by what counts
its runs, which the claim table, the air sequencer and the latches leave. -/
theorem frameStartAdvances : Obligations.FrameStartAdvances := by
  intro s b hruns hwait
  have hsync : (frameWork b (s.setSync (syncAdvanced s))).sync = syncAdvanced s := by simp
  have hmember := frameWork_member b (s.setSync (syncAdvanced s))
  obtain ⟨hjudge, hreadback, hgood, hrest, hdriven, hkept⟩ := frameWork_bus_spec b (s.setSync (syncAdvanced s))
  obtain ⟨hheaders, hnow, hprev, hresult, hfence⟩ := hkept
  obtain ⟨ha, hdue, hage⟩ := frameWork_ident b (s.setSync (syncAdvanced s))
  obtain ⟨ha', hdue', hage'⟩ := runsCounted_ident (s.setSync (syncAdvanced s))
  obtain ⟨hoff, hcounts⟩ := runsCounted_guard (s.setSync (syncAdvanced s))
  rw [runsCounted_member, joinRuns_member] at hmember
  rw [← frameWork_guard b] at hoff hcounts
  refine ⟨_, exec_frameStart_of_waitGoesOn hruns hwait b, hsync, hjudge, hreadback, hgood, hrest, ?_, hmember, hheaders,
    hnow, hprev, hresult, hfence, hage.trans hage', ha.trans ha', hdue.trans hdue', hoff, hcounts, frameWork_kept b _⟩
  rw [hdriven]
  exact drivesSlot_iff (s.setSync (syncAdvanced s))

end Sys2Proof

namespace Sys2Proof
open Machine

/-! ## The laws of claim records and of the site (R39, R52, R120)

Both laws read the own desks, the sync state, the own join state and the air sequencer only. A law that the single actions on
these keep is kept by every command: that is proved once, and each law is then shown to be such a law. -/

/-! ### Single actions -/

/-- From s to t the own desks, the sync state, the own join state and the air sequencer stand. -/
structure FloorKept (s t : State) : Prop where
  desks : t.claims.desks = s.claims.desks
  sync : t.sync.state = s.sync.state
  join : t.member.join = s.member.join
  air : t.air = s.air

theorem FloorKept.refl (s : State) : FloorKept s s := ⟨rfl, rfl, rfl, rfl⟩

/-- The records of an own desk, local, published or waiting to be published, have a shape of Table 3-1. -/
def deskShape (o : OwnDesk) : Prop :=
  recordShape o.record ∧ recordShape o.published ∧ ∀ r, o.endPub = some r → recordShape r

/-- x can follow o as an own desk other than by a grant: records of a shape stay so, no holding begins, and a wait begins
only where the station has joined. -/
structure DeskStep (joined : Prop) (o x : OwnDesk) : Prop where
  shape : deskShape o → deskShape x
  holding : x.record.state = .holding → o.record.state = .holding
  waiting : x.record.state = .waiting → o.record.state = .waiting ∨ joined

/-- The air sequencer is OFF with nothing pending. -/
def airQuiet (a : Air) : Prop := a.state = .off ∧ a.pendingStart = none ∧ a.pendingIdent = none

/-- A law that the single actions on desks, air sequencer, sync state and join state keep. -/
structure FloorLaw (P : State → Prop) : Prop where
  kept : ∀ {s t}, FloorKept s t → P s → P t
  reset : ∀ cause s, P (resetTo cause s)
  desk : ∀ {s} d x, DeskStep (s.member.join = .member) (getDesk s d) x → P s → P (setDesk s d x)
  publish : ∀ {s}, P s → P (publishAll s)
  grant : ∀ {s} d, memberActive s = true → P s → P (grantDesk d s)
  air : ∀ {s} x, memberActive s = true ∨ (airQuiet s.air → airQuiet x) → P s → P (s.setAir x)
  airFrame : ∀ {s}, P s → P (airFrame s)
  airDecide : ∀ {s}, P s → P (airDecide s)
  hunt : ∀ {s}, P s → P (enterHunt s)
  holdover : ∀ {s}, P s → P (enterHoldover s)
  timing : ∀ {s}, P s → P (enterTiming s)
  locked : ∀ {s} c n, P s → P (enterLocked c n s)
  fenced : ∀ {s}, canFence s = true → P s → P (enterFenced s)
  compare : ∀ {s}, P s → P (announceCompare s)

/-! ### Desk steps -/

theorem recordShape_idle {r : Record} (h : r.state = .idle) (hs : r.stamp = 0) : recordShape r := by
  simp [recordShape, h, hs]

theorem recordShape_claim {r : Record} (h : r.state = .waiting ∨ r.state = .holding) :
    recordShape r ↔ r.reason = .noReason := by
  rcases h with h | h <;> simp [recordShape, h]

theorem recordShape_absent : recordShape .absent := ⟨rfl, rfl, rfl⟩

/-- R47: the record of an ended holding is IDLE, or BARRED with TIMEOUT or STARVED. -/
theorem recordShape_stateAfter (c : Cls) (r : EndReason) : recordShape ⟨stateAfter r, c, r, 0⟩ := by
  cases r <;> simp [stateAfter, recordShape]

theorem stateAfter_closed (r : EndReason) : stateAfter r ≠ .holding ∧ stateAfter r ≠ .waiting := by
  cases r <;> simp [stateAfter]

theorem recordShape_fillEnd {o : OwnDesk} {r x : Record} (ho : deskShape o) (hr : recordShape r)
    (h : fillEnd o r = some x) : recordShape x := by
  unfold fillEnd at h
  split at h
  next y hy => cases h; exact ho.2.2 _ hy
  next => cases h; exact hr

section
variable {joined : Prop} (o : OwnDesk)

theorem deskStep_ended (r : EndReason) : DeskStep joined o (o.ended r) where
  shape ho := ⟨recordShape_stateAfter _ r, ho.2.1, fun _ hx => recordShape_fillEnd ho (recordShape_stateAfter _ r) hx⟩
  holding h := absurd h (stateAfter_closed r).1
  waiting h := absurd h (stateAfter_closed r).2

theorem deskStep_withdrawn (r : EndReason) : DeskStep joined o (o.withdrawn r) where
  shape ho := ⟨recordShape_idle rfl rfl, ho.2.1, fun _ hx => recordShape_fillEnd ho (recordShape_idle rfl rfl) hx⟩
  holding h := nomatch h
  waiting h := nomatch h

/-- A step that leaves the records of a desk: its marks, its bar run, its acknowledgment. -/
theorem deskStep_of_records {o x : OwnDesk} (hrec : x.record = o.record) (hpub : x.published = o.published)
    (hend : x.endPub = o.endPub) : DeskStep joined o x where
  shape ho := by rw [deskShape, hrec, hpub, hend]; exact ho
  holding h := by rw [hrec] at h; exact h
  waiting h := by rw [hrec] at h; exact .inl h

/-- R54: a bar is lifted. -/
theorem deskStep_lifted {o : OwnDesk} (h : o.record.state = .barred) :
    DeskStep joined o { o with record := { o.record with state := .idle } } where
  shape ho := by
    have hbarred := ho.1
    simp only [recordShape, h] at hbarred
    exact ⟨recordShape_idle rfl hbarred.1, ho.2⟩
  holding h := nomatch h
  waiting h := nomatch h

theorem deskStep_opened (c : Cls) : DeskStep joined o (o.opened c) where
  shape ho := ⟨recordShape_idle rfl rfl, ho.2⟩
  holding h := nomatch h
  waiting h := nomatch h

theorem deskStep_closed : DeskStep joined o o.closed where
  shape ho := ⟨recordShape_absent, ho.2⟩
  holding h := nomatch h
  waiting h := nomatch h

theorem deskStep_claimed (h : joined) : DeskStep joined o o.claimed where
  shape ho := ⟨(recordShape_claim (.inl rfl)).mpr rfl, ho.2⟩
  holding h := nomatch h
  waiting _ := .inr h

end

/-! ### Work that such a law is kept by -/

theorem onlyDesks_endHoldings (r : EndReason) (s : State) : onlyDesks s (endHoldings r s) :=
  onlyDesks_foldl (fun d s => endHolding d r s) (fun d s => onlyDesks_endHolding d r s) s

theorem onlyDesks_applyTimeLimit (s : State) : onlyDesks s (applyTimeLimit s) :=
  onlyDesks_foldl
    (fun d s => if ageAtLeast (deskAge s (getDesk s d)) s.setup.totLimit then endHolding d .timeout s else s)
    (fun d s => by
      split
      · exact onlyDesks_endHolding d .timeout s
      · exact onlyDesks_of_eq rfl) s

theorem onlyDesks_releaseSplit (s : State) : onlyDesks s (releaseSplit s) := by
  unfold releaseSplit
  split
  · exact onlyDesks_endHoldings .split s
  · exact onlyDesks_of_eq rfl

theorem onlyDesks_preempt (s : State) : onlyDesks s (preempt s) := by
  unfold preempt
  split
  · exact onlyDesks_endHolding _ .preempted s
  · exact onlyDesks_of_eq rfl

/-- The floor decisions up to the pre-emption, that is all but the grant (R65). -/
def endingsDecided (fenceNow : Bool) (s : State) : State :=
  preempt (releaseSplit (enforceTot fenceNow (applyTimeLimit (setVerdict s))))

theorem floorDecisions_eq (fenceNow : Bool) (s : State) :
    floorDecisions fenceNow s = grantStep (endingsDecided fenceNow s) := rfl

@[simp] theorem memberActive_endingsDecided (fenceNow : Bool) (s : State) :
    memberActive (endingsDecided fenceNow s) = memberActive s := by
  simp [endingsDecided, memberActive, syncActive]

theorem onlyDesks_endingsDecided (fenceNow : Bool) (s : State) :
    onlyDesks (setVerdict s) (endingsDecided fenceNow s) :=
  (onlyDesks_preempt _).after ((onlyDesks_releaseSplit _).after
    ((onlyDesks_of_eq (by simp)).after (onlyDesks_applyTimeLimit _)))

/-- R72: out of an active MEMBER there is no grantee. -/
theorem grantee_setVerdict {s : State} (h : memberActive s = false) : (setVerdict s).claims.grantee = none := by
  simp [setVerdict, verdictOf, testConds, h]

theorem grantee_endingsDecided (fenceNow : Bool) (s : State) :
    (endingsDecided fenceNow s).claims.grantee = (setVerdict s).claims.grantee := by
  rw [onlyDesks_endingsDecided fenceNow s]

theorem tellEnded_eq_setAir (d : Desk) (s : State) : tellEnded d s = s.setAir (tellEnded d s).air := by
  unfold tellEnded
  dsimp only
  split <;> rfl

/-- R115: told of an ending, a sequencer that is OFF with nothing pending stays so. -/
theorem airQuiet_tellEnded (d : Desk) {s : State} (h : airQuiet s.air) : airQuiet (tellEnded d s).air := by
  obtain ⟨hoff, hstart, hident⟩ := h
  simp [tellEnded, hoff, hstart, hident, airQuiet]

theorem orderInterval_of_not_memberActive {s : State} (h : memberActive s = false) : orderInterval s = s := by
  simp [orderInterval, intervalConds, orderConds, h]

theorem desks_peerStale (k : Station) (driven : Bool) (s : State) :
    (peerStale k driven s).claims.desks = s.claims.desks := by
  unfold peerStale
  dsimp only
  split <;> simp [clearMirrors]

/-- A slot received leaves the own desks and the air sequencer. -/
theorem slotTaken_floor (k : Station) (x : BitVec 208) (s : State) :
    (slotTaken k x s).claims.desks = s.claims.desks ∧ (slotTaken k x s).air = s.air := by
  unfold slotTaken
  split
  · exact ⟨rfl, rfl⟩
  split
  · exact ⟨by simp [freshSlot, putMirrors], by simp⟩
  · exact ⟨desks_peerStale k _ _, by simp⟩

theorem forDesk_keeps {P : State → Prop} {s : State} (hs : P s) (sel : Byte) {act : Desk → State → Answer}
    (hact : ∀ d, P (act d s).state) : P (forDesk sel act s).state := by
  unfold forDesk
  split
  · exact hact _
  · exact hs

theorem whenRuns_keeps {P : State → Prop} {s : State} (hs : P s) (runs : Bool) {work : State → State}
    (hwork : runs = true → P (work s)) : P (whenRuns runs work s) := by
  unfold whenRuns
  split
  next hruns => exact hwork hruns
  next => exact hs

/-! Requests that leave the floor as it is. -/

theorem floorKept_setRequest (f v : Nat) (s : State) : FloorKept s (setRequest f v s).state := by
  unfold setRequest putField setPoolSize putQuota
  (repeat' split) <;> exact ⟨rfl, rfl, rfl, rfl⟩

theorem floorKept_loadClipRequest (n : Nat) (cells : List Cell) (s : State) :
    FloorKept s (loadClipRequest n cells s).state := by
  unfold loadClipRequest
  (repeat' split) <;> exact ⟨rfl, rfl, rfl, rfl⟩

theorem floorKept_guardOnRequest (s : State) : FloorKept s (guardOnRequest s).state := by
  unfold guardOnRequest startGuard
  (repeat' split) <;> exact ⟨rfl, rfl, rfl, rfl⟩

theorem floorKept_pushRequest (n : Seq) (r : Bool) (cells : List Cell) (d : Desk) (s : State) :
    FloorKept s (pushRequest n r cells d s).state := by
  unfold pushRequest
  dsimp only
  (repeat' split) <;> exact ⟨rfl, rfl, rfl, rfl⟩

theorem floorKept_flushRequest (d : Desk) (s : State) : FloorKept s (flushRequest d s).state := by
  unfold flushRequest
  (repeat' split) <;> exact ⟨rfl, rfl, rfl, rfl⟩

theorem floorKept_trimRequest (v : Byte) (d : Desk) (s : State) : FloorKept s (trimRequest v d s).state := by
  unfold trimRequest
  (repeat' split) <;> exact ⟨rfl, rfl, rfl, rfl⟩

theorem floorKept_deskStatusRequest (d : Desk) (s : State) : FloorKept s (deskStatusRequest d s).state := by
  unfold deskStatusRequest
  dsimp only
  split <;> exact ⟨rfl, rfl, rfl, rfl⟩

theorem floorKept_setCause (c : Cause) (s : State) : FloorKept s (setCause c s) :=
  ⟨by simp, by simp, by simp, by simp⟩

theorem floorKept_clampRequest (d : Desk) (s : State) : FloorKept s (clampRequest d s).state := by
  unfold clampRequest
  split
  · exact .refl s
  split
  · exact .refl s
  · exact floorKept_setCause .operator s

theorem floorKept_unclampRequest (d : Desk) (s : State) : FloorKept s (unclampRequest d s).state := by
  unfold unclampRequest
  (repeat' split) <;> exact ⟨rfl, rfl, rfl, rfl⟩

theorem floorKept_maskRequest (sel : Byte) (word : Word16) (s : State) : FloorKept s (maskRequest sel word s).state := by
  unfold maskRequest siteMaskRequest forDesk deskMaskRequest
  (repeat' split) <;> exact ⟨rfl, rfl, rfl, rfl⟩

/-! Rows of supervision and guard that leave the floor as it is. -/

theorem FloorKept.of_frames {s t : State} (hc : t.claims = s.claims) (hs : t.sync = s.sync) (hm : t.member = s.member)
    (ha : t.air = s.air) : FloorKept s t :=
  ⟨by rw [hc], by rw [hs], by rw [hm], ha⟩

theorem floorKept_peerFresh (k : Station) (join : BitVec 3) (s : State) : FloorKept s (peerFresh k join s) :=
  ⟨by simp, by simp, by rw [peerFresh, putPresence_member], by simp⟩

theorem floorKept_peerStale (k : Station) (driven : Bool) (s : State) : FloorKept s (peerStale k driven s) :=
  ⟨desks_peerStale k driven s, by simp, by rw [peerStale_member], by simp⟩

theorem floorKept_heatEvent (s : State) : FloorKept s (heatEvent s) := by
  unfold heatEvent
  split
  · exact .of_frames (by simp) (by simp) (by simp) (by simp)
  · exact .refl s

theorem floorKept_tick (s : State) : FloorKept s (tick s) := by
  unfold tick guardTick settleTick
  (repeat' split) <;> exact ⟨rfl, rfl, rfl, rfl⟩

theorem desks_digestTest (s : State) : (digestTest s).claims.desks = s.claims.desks := by
  unfold digestTest
  dsimp only
  (repeat' split) <;> simp

section
variable {P : State → Prop} (h : FloorLaw P)
include h

/-- What leaves the four blocks that a law reads. -/
theorem FloorLaw.keeps_of_blocks {s t : State} (hs : P s) (hd : t.claims.desks = s.claims.desks)
    (hsync : t.sync.state = s.sync.state) (hj : t.member.join = s.member.join) (ha : t.air = s.air) : P t :=
  h.kept ⟨hd, hsync, hj, ha⟩ hs

theorem FloorLaw.keeps_raiseDesk {s : State} (hs : P s) (d : Desk) (f : DeskFlag) : P (raiseDesk d f s) :=
  h.keeps_of_blocks hs rfl rfl rfl rfl

theorem FloorLaw.keeps_raiseSite {s : State} (hs : P s) (f : SiteFlag) : P (raiseSite f s) :=
  h.keeps_of_blocks hs rfl rfl rfl rfl

theorem FloorLaw.keeps_setClaims {s : State} (hs : P s) {x : Claims} (hx : x.desks = s.claims.desks) :
    P (s.setClaims x) :=
  h.keeps_of_blocks hs hx rfl rfl rfl

theorem FloorLaw.keeps_endHolding {s : State} (hs : P s) (d : Desk) (r : EndReason) : P (endHolding d r s) := by
  unfold endHolding
  split
  · have hended := h.keeps_raiseDesk (h.desk d _ (deskStep_ended _ r) hs) d .ended
    rw [tellEnded_eq_setAir]
    exact h.air _ (.inr fun hq => airQuiet_tellEnded d hq) hended
  · exact hs

theorem FloorLaw.keeps_withdraw {s : State} (hs : P s) (d : Desk) (r : EndReason) : P (withdraw d r s) := by
  unfold withdraw
  split
  · exact h.keeps_raiseDesk (h.desk d _ (deskStep_withdrawn _ r) hs) d .waitEnd
  · exact hs

theorem FloorLaw.keeps_endHoldings {s : State} (hs : P s) (r : EndReason) : P (endHoldings r s) :=
  fold_preserves (P := P) (fun d s => endHolding d r s) (fun d _ ht => h.keeps_endHolding ht d r) hs

theorem FloorLaw.keeps_withdrawAll {s : State} (hs : P s) (r : EndReason) : P (withdrawAll r s) :=
  fold_preserves (P := P) (fun d s => withdraw d r s) (fun d _ ht => h.keeps_withdraw ht d r) hs

theorem FloorLaw.keeps_deskOf_records {s : State} (hs : P s) (d : Desk) {x : OwnDesk}
    (hrec : x.record = (getDesk s d).record) (hpub : x.published = (getDesk s d).published)
    (hend : x.endPub = (getDesk s d).endPub) : P (setDesk s d x) :=
  h.desk d x (deskStep_of_records hrec hpub hend) hs

theorem FloorLaw.keeps_testBar {s : State} (hs : P s) (d : Desk) : P (testBar d s) := by
  unfold testBar
  split
  next hdone =>
    have hbarred : (getDesk s d).record.state = .barred := by
      simp only [barDone, Bool.and_eq_true, beq_iff_eq] at hdone
      exact hdone.1.1
    exact h.keeps_raiseDesk (h.desk d _ (deskStep_lifted hbarred) hs) d .barLifted
  next => exact hs

theorem FloorLaw.keeps_barStep {s : State} (hs : P s) (d : Desk) : P (barStep d s) := by
  unfold barStep
  split
  · refine h.keeps_testBar (h.keeps_deskOf_records hs d ?_ ?_ ?_) d <;> rfl
  · exact hs

theorem FloorLaw.keeps_acknowledge {s : State} (hs : P s) (d : Desk) : P (acknowledge d s) := by
  unfold acknowledge
  split
  · refine h.keeps_testBar (h.keeps_deskOf_records hs d ?_ ?_ ?_) d <;> rfl
  · exact hs

theorem FloorLaw.keeps_barWork {s : State} (hs : P s) (before : State) : P (barWork before s) :=
  fold_preserves (P := P) (fun d s => if (getDesk before d).record.state = .barred then barStep d s else s)
    (fun d t ht => by
      split
      · exact h.keeps_barStep ht d
      · exact ht) hs

theorem FloorLaw.keeps_expireWaits {s : State} (hs : P s) : P (expireWaits s) :=
  fold_preserves (P := P)
    (fun d s => if ageAtLeast (deskAge s (getDesk s d)) s.setup.maxWait then withdraw d .waitExpired s else s)
    (fun d t ht => by
      split
      · exact h.keeps_withdraw ht d _
      · exact ht) hs

theorem FloorLaw.keeps_applyTimeLimit {s : State} (hs : P s) : P (applyTimeLimit s) :=
  fold_preserves (P := P)
    (fun d s => if ageAtLeast (deskAge s (getDesk s d)) s.setup.totLimit then endHolding d .timeout s else s)
    (fun d t ht => by
      split
      · exact h.keeps_endHolding ht d _
      · exact ht) hs

theorem FloorLaw.keeps_endReplaced {s : State} (hs : P s) (formed kept : Records) : P (endReplaced formed kept s) :=
  fold_preserves (P := P) (fun d s => if replacedAt formed kept (ownStation s) d then endHolding d .split s else s)
    (fun d t ht => by
      split
      · exact h.keeps_endHolding ht d _
      · exact ht) hs

theorem FloorLaw.keeps_airOff {s : State} (hs : P s) : P (airOff s) :=
  h.keeps_of_blocks (h.air (airOff s).air (.inr fun _ => ⟨rfl, rfl, rfl⟩) hs) (by simp) (by simp) (by simp) rfl

theorem FloorLaw.keeps_orderInterval {s : State} (hs : P s) : P (orderInterval s) := by
  cases hm : memberActive s with
  | true => exact h.keeps_of_blocks (h.air (orderInterval s).air (.inl hm) hs) (by simp) (by simp) (by simp) rfl
  | false => rw [orderInterval_of_not_memberActive hm]; exact hs

theorem FloorLaw.keeps_orderTail {s : State} (hs : P s) : P (orderTail s) := by
  cases hm : memberActive s with
  | true => exact h.keeps_of_blocks (h.air (orderTail s).air (.inl hm) hs) (by simp) (by simp) (by simp) rfl
  | false => rw [orderTail_of_not_memberActive hm]; exact hs

/-! The points of a frame. -/

theorem FloorLaw.keeps_claimsAndAir {s : State} (hs : P s) (reportFirst : Bool) : P (claimsAndAir reportFirst s) := by
  cases reportFirst
  · exact h.airFrame (h.publish (h.keeps_barWork hs s))
  · exact h.publish (h.keeps_barWork (h.airFrame hs) s)

theorem FloorLaw.keeps_frameWork {s : State} (hs : P s) (reportFirst : Bool) : P (frameWork reportFirst s) := by
  have hruns : P (guardFrameStart (dueStep (joinRuns (newFrameBus s)))) :=
    h.keeps_of_blocks hs (by simp) (by simp) (by simp; rfl) (by simp)
  exact h.keeps_of_blocks (h.keeps_claimsAndAir hruns reportFirst) (by simp [frameWork]) (by simp [frameWork])
    (by simp [frameWork]) (by simp [frameWork])

theorem FloorLaw.keeps_setSync {s : State} (hs : P s) {x : Sync} (hx : x.state = s.sync.state) : P (s.setSync x) :=
  h.keeps_of_blocks hs rfl hx rfl rfl

theorem FloorLaw.keeps_timingStage {s : State} (hs : P s) : P (timingStage s) := by
  have hadv : P (advanceCount s) := h.keeps_setSync hs rfl
  have hstate : (advanceCount s).sync.state = s.sync.state := rfl
  unfold timingStage
  dsimp only
  split
  · unfold huntStep
    dsimp only
    split
    · exact h.timing (h.keeps_setSync hadv rfl)
    · exact h.keeps_setSync hadv rfl
  · unfold holdoverStep
    dsimp only
    split
    · split
      · exact h.timing (h.keeps_setSync hadv rfl)
      · exact h.hunt (h.keeps_setSync hadv rfl)
    · exact h.keeps_setSync hadv rfl
  all_goals exact hadv

theorem FloorLaw.keeps_readbackMiss {s : State} (hs : P s) : P (readbackMiss s) := by
  unfold readbackMiss
  split
  · exact h.keeps_setSync hs rfl
  · exact h.hunt hs

theorem FloorLaw.keeps_syncFields {s : State} (hs : P s) (bits : BitVec 43) : P (syncFields bits s) := by
  unfold syncFields
  split
  · unfold syncCheck
    dsimp only
    split
    · split
      · exact h.keeps_of_blocks hs rfl rfl rfl rfl
      · exact h.keeps_of_blocks hs rfl rfl rfl rfl
    · exact h.keeps_of_blocks hs rfl rfl rfl rfl
  · unfold timingReadback
    split
    · exact hs
    · split
      · exact h.keeps_setSync hs rfl
      · exact h.keeps_readbackMiss hs
  all_goals exact hs

theorem FloorLaw.keeps_countMiss {s : State} (hs : P s) : P (countMiss s) := by
  unfold countMiss
  dsimp only
  split
  · exact h.holdover (h.keeps_setSync hs rfl)
  · exact h.keeps_setSync hs rfl

theorem FloorLaw.keeps_lastSlotChecks {s : State} (hs : P s) (k : Station) : P (lastSlotChecks k s) := by
  unfold lastSlotChecks
  split
  · apply h.compare
    unfold missStep
    split
    · split
      · exact h.keeps_countMiss hs
      · exact h.keeps_setSync hs rfl
    · exact hs
  · exact hs

theorem FloorLaw.keeps_slotArrives {s : State} (hs : P s) (k : Station) (x : BitVec 208) : P (slotArrives k x s) := by
  obtain ⟨order, heq, -⟩ := slotArrives_eq k x s
  have hleaves := slotLeaves_slotTaken k x s
  have htaken : P (slotTaken k x s) := by
    obtain ⟨hdesks, hair⟩ := slotTaken_floor k x s
    exact h.keeps_of_blocks hs hdesks (by rw [hleaves.sync]) hleaves.join hair
  rw [heq]
  exact h.keeps_of_blocks (h.keeps_lastSlotChecks htaken k) (by simp) (by simp) (by simp) (by simp)

theorem FloorLaw.keeps_keySampleWork {s : State} (hs : P s) (x : Lines) : P (keySampleWork x s) := by
  have hsample : P (keepSample x s) := h.keeps_of_blocks hs (by simp) (by simp) (by simp) (by simp)
  have hclamped : P (clampedSample (keepSample x s)) := by
    unfold clampedSample
    split
    · exact h.keeps_endHoldings (h.keeps_airOff hsample) _
    · exact hsample
  exact h.keeps_of_blocks hclamped (by simp [keySampleWork]) (by simp [keySampleWork]) (by simp [keySampleWork])
    (by simp [keySampleWork])

theorem FloorLaw.keeps_formSnapshot {s : State} (hs : P s) (formed kept : Records) : P (formSnapshot formed kept s) := by
  unfold formSnapshot
  apply h.keeps_endReplaced
  apply h.keeps_setClaims hs
  rfl

theorem FloorLaw.keeps_handOff {s : State} (hs : P s) (formed kept : Records) : P (handOff formed kept s) :=
  h.keeps_of_blocks hs (by simp) (by simp) (by simp) (by simp)

theorem FloorLaw.keeps_computeDigest {s : State} (hs : P s) : P (computeDigest s) := h.keeps_of_blocks hs rfl rfl rfl rfl

theorem FloorLaw.keeps_orphanStep {s : State} (hs : P s) : P (orphanStep s) :=
  h.keeps_of_blocks hs (by simp) (by simp) (by simp) (by simp)

theorem FloorLaw.keeps_programStep {s : State} (hs : P s) : P (programStep s) :=
  h.keeps_of_blocks hs (by simp) (by simp) (by simp) (by simp)

theorem FloorLaw.keeps_snapshotStages {s : State} (hs : P s) : P (snapshotStages s) := by
  have htest : P (digestTest s) := h.keeps_of_blocks hs (by rw [desks_digestTest]) (by simp) (by simp) (by simp)
  exact h.keeps_expireWaits (h.keeps_computeDigest (h.keeps_handOff (h.keeps_formSnapshot htest _ _) _ _))

theorem FloorLaw.keeps_releaseSplit {s : State} (hs : P s) : P (releaseSplit s) := by
  unfold releaseSplit
  split
  · exact h.keeps_endHoldings hs _
  · exact hs

theorem FloorLaw.keeps_splitEvent {s : State} (hs : P s) : P (splitEvent s) := by
  apply h.keeps_releaseSplit
  apply h.keeps_raiseSite
  apply h.keeps_setClaims hs
  rfl

theorem FloorLaw.keeps_endingsDecided {s : State} (hs : P s) (fenceNow : Bool) : P (endingsDecided fenceNow s) := by
  have hlimit : P (enforceTot fenceNow (applyTimeLimit (setVerdict s))) :=
    h.keeps_of_blocks (h.keeps_applyTimeLimit (h.keeps_of_blocks (t := setVerdict s) hs rfl rfl rfl rfl))
      (by simp) (by simp) (by simp) (by simp)
  have hsplit := h.keeps_releaseSplit hlimit
  unfold endingsDecided preempt
  split
  · exact h.keeps_endHolding hsplit _ _
  · exact hsplit

theorem FloorLaw.keeps_floorDecisions {s : State} (hs : P s) (fenceNow : Bool) : P (floorDecisions fenceNow s) := by
  have hu := h.keeps_endingsDecided hs fenceNow
  rw [floorDecisions_eq]
  unfold grantStep
  split
  next k d hg =>
    have hm : memberActive (endingsDecided fenceNow s) = true := by
      by_contra hm
      rw [Bool.not_eq_true, memberActive_endingsDecided] at hm
      rw [grantee_endingsDecided, grantee_setVerdict hm] at hg
      cases hg
    split
    · exact h.grant d hm hu
    · exact hu
  next => exact hu

theorem FloorLaw.keeps_considerTail {s : State} (hs : P s) : P (considerTail (tailWaitStep s)) := by
  have hwait : P (tailWaitStep s) := h.keeps_of_blocks hs (by simp) (by simp) (by simp) (by simp)
  unfold considerTail
  dsimp only
  split
  · have hchoice := h.keeps_of_blocks
      (t := (tailWaitStep s).setIdent { (tailWaitStep s).ident with choice := chooseStation (tailWaitStep s) })
      hwait rfl rfl rfl rfl
    split
    · exact h.keeps_orderTail hchoice
    · exact hchoice
  · exact hwait

theorem FloorLaw.keeps_identWork {s : State} (hs : P s) : P (identWork s) := by
  have htail := h.keeps_considerTail hs
  unfold identWork withdrawTail
  split
  · split
    · exact h.keeps_of_blocks (h.air { (considerTail (tailWaitStep s)).air with pendingIdent := none }
        (.inr fun hq => ⟨hq.1, hq.2.1, rfl⟩) htail) rfl rfl rfl rfl
    · exact h.keeps_of_blocks (h.air { (considerTail (tailWaitStep s)).air with withdrawDue := true }
        (.inr fun hq => hq) htail) rfl rfl rfl rfl
    all_goals exact htail
  · exact htail

theorem FloorLaw.keeps_snapshotAndIdent {s : State} (hs : P s) (fenceNow identFirst : Bool) :
    P (snapshotAndIdent fenceNow identFirst s) := by
  have hstages := h.keeps_snapshotStages hs
  unfold snapshotAndIdent
  dsimp only
  split
  · exact h.keeps_floorDecisions (h.keeps_identWork hstages) _
  · exact h.keeps_identWork (h.keeps_floorDecisions hstages _)

theorem FloorLaw.keeps_snapshotWork {s : State} (hs : P s) (order : FenceOrder) (identFirst : Bool) :
    P (snapshotWork order identFirst s) := by
  have hrun : P (putFenceRun (fenceRunNext s) s) := h.keeps_of_blocks hs rfl rfl rfl rfl
  unfold snapshotWork
  dsimp only
  apply h.keeps_orphanStep
  split
  next hreport =>
    have hcan : canFence s = true := by
      simp only [fenceReported, Bool.and_eq_true] at hreport
      exact hreport.1.1.1
    have hcan' (u : State) (hu : u.member = s.member) : canFence u = true := by rw [← hcan, canFence, canFence, hu]
    cases order with
    | first =>
      have hfenced := h.fenced (hcan' _ (by simp)) hrun
      unfold snapshotWithFence afterFence
      dsimp only
      split
      · exact hfenced
      · exact h.keeps_snapshotAndIdent hfenced _ _
    | beforeIdent =>
      unfold snapshotWithFence
      dsimp only
      split
      · exact h.fenced (hcan' _ (by simp)) (h.keeps_snapshotAndIdent hrun _ _)
      · exact h.keeps_identWork (h.fenced (hcan' _ (by simp)) (h.keeps_floorDecisions (h.keeps_snapshotStages hrun) _))
    | last => exact h.fenced (hcan' _ (by simp)) (h.keeps_snapshotAndIdent hrun _ _)
  next => exact h.keeps_snapshotAndIdent hrun _ _

theorem FloorLaw.keeps_actOnDue {s : State} (hs : P s) : P (actOnDue s) := by
  unfold actOnDue
  split
  · exact hs
  split
  · split
    · split
      · exact hs
      · exact h.keeps_endHolding hs _ _
    · exact hs
  split
  · exact h.keeps_orderInterval hs
  · exact hs

theorem FloorLaw.keeps_voiceReceived {s : State} (hs : P s) (holder : BitVec 3) : P (voiceReceived holder s) := by
  have hcount : P (countVoice s) := h.keeps_of_blocks hs (by simp) (by simp) (by simp) (by simp)
  unfold voiceReceived
  dsimp only
  split
  · split
    · exact h.keeps_actOnDue hcount
    · exact hcount
  · exact hs

theorem FloorLaw.keeps_programWork {s : State} (hs : P s) (bits : BitVec 168) : P (programWork bits s) := by
  rw [programWork_eq]
  have hfield : P (fieldClassed (classify (ownCount s) bits) (progOf bits) s) :=
    h.keeps_of_blocks hs (by simp) (by simp [fieldClassed]) (by simp) (by simp)
  apply h.keeps_programStep
  unfold identProgram
  split
  · split
    · exact h.keeps_voiceReceived hfield _
    split
    · split
      · exact h.keeps_of_blocks hfield (by simp) (by simp) (by simp) (by simp)
      · exact h.keeps_of_blocks hfield (by simp) (by simp) (by simp) (by simp)
    · exact hfield
  all_goals exact hfield

theorem FloorLaw.keeps_relock {s : State} (hs : P s) (c : Count) (n : Station) : P (relock c n (patternSeen s)) := by
  have hseen : P (patternSeen s) := by rw [patternSeen_eq]; exact h.keeps_setSync hs rfl
  by_cases hj : countJumps c (patternSeen s)
  · rw [relock_of_jump hj]
    exact h.locked c n (h.keeps_raiseSite (h.keeps_withdrawAll hseen .countJump) .countJump)
  · rw [relock_of_no_jump hj]
    exact h.locked c n hseen

/-! The requests on the link. -/

theorem FloorLaw.keeps_takeRequest {s : State} (hs : P s) (w : Bool) (n : Nat) {act : State → Answer}
    (hact : P (act s).state) : P (takeRequest w n act s) := by
  unfold takeRequest
  split
  · exact h.keeps_of_blocks hact rfl rfl rfl rfl
  · exact hs

theorem FloorLaw.keeps_closeWork {s : State} (hs : P s) : P (closeWork s) := by
  have hbus : P (closeBus (closePool (closeRecord s))) := h.keeps_of_blocks hs rfl rfl rfl rfl
  have hseen : P (putSeen .settling 0 (enterHunt (closeBus (closePool (closeRecord s))))) :=
    h.keeps_of_blocks (h.hunt hbus) (by simp) (by simp) (by simp) (by simp)
  unfold closeWork
  dsimp only
  split
  · exact h.keeps_frameWork (h.keeps_of_blocks hseen (by simp) (by simp) (by simp) (by simp)) false
  · exact h.keeps_frameWork hseen false

theorem FloorLaw.keeps_closeRequest {s : State} (hs : P s) : P (closeRequest s).state := by
  unfold closeRequest
  split
  · exact hs
  split
  · exact hs
  · exact h.keeps_closeWork hs

theorem FloorLaw.keeps_openRequest {s : State} (hs : P s) (cls : Byte) (d : Desk) : P (openRequest cls d s).state := by
  unfold openRequest
  split
  · exact hs
  split
  · exact hs
  split
  · exact hs
  split
  · exact hs
  · exact h.keeps_of_blocks (h.desk d _ (deskStep_opened _ _) hs) rfl rfl rfl rfl

theorem FloorLaw.keeps_closeDeskWork {s : State} (hs : P s) (d : Desk) : P (closeDeskWork d s) := by
  have hend : P (endForClose d s) := h.keeps_withdraw (h.keeps_endHolding hs d .closed) d .closed
  exact h.keeps_of_blocks (h.desk d _ (deskStep_closed _) hend) rfl rfl rfl rfl

theorem FloorLaw.keeps_closeDeskRequest {s : State} (hs : P s) (d : Desk) : P (closeDeskRequest d s).state := by
  unfold closeDeskRequest
  split
  · exact hs
  split
  · exact hs
  · exact h.keeps_closeDeskWork hs d

theorem FloorLaw.keeps_claimRequest {s : State} (hs : P s) (d : Desk) : P (claimRequest d s).state := by
  unfold claimRequest
  dsimp only
  split
  · exact hs
  split
  · exact hs
  split
  · exact hs
  split
  · exact hs
  split
  · exact hs
  split
  next hjoined => exact h.desk d _ (deskStep_claimed _ hjoined.1) hs
  next => exact hs

theorem FloorLaw.keeps_releaseRequest {s : State} (hs : P s) (mode : Byte) (d : Desk) :
    P (releaseRequest mode d s).state := by
  unfold releaseRequest
  split
  · exact hs
  split
  · exact hs
  unfold releaseDesk
  split
  · exact hs
  · exact hs
  · exact hs
  · exact h.keeps_withdraw hs d _
  split
  · refine h.keeps_deskOf_records hs d ?_ ?_ ?_ <;> rfl
  · exact h.keeps_endHolding hs d _

/-! Every command. -/

theorem FloorLaw.keeps_requestKept {s : State} (hs : P s) (w : Bool) (n : Nat) {act : State → Answer}
    (hact : FloorKept s (act s).state) : P (takeRequest w n act s) :=
  h.keeps_takeRequest hs w n (h.kept hact hs)

theorem FloorLaw.keeps_deskRequestKept {s : State} (hs : P s) (w : Bool) (n : Nat) (sel : Byte)
    {act : Desk → State → Answer} (hact : ∀ d, FloorKept s (act d s).state) : P (takeRequest w n (forDesk sel act) s) :=
  h.keeps_takeRequest hs w n (forDesk_keeps hs sel fun d => h.kept (hact d) hs)

theorem FloorLaw.keeps_deskRequest {s : State} (hs : P s) (w : Bool) (n : Nat) (sel : Byte)
    {act : Desk → State → Answer} (hact : ∀ d, P (act d s).state) : P (takeRequest w n (forDesk sel act) s) :=
  h.keeps_takeRequest hs w n (forDesk_keeps hs sel hact)

theorem FloorLaw.keeps_rowKept {s : State} (hs : P s) (runs : Bool) {work : State → State}
    (hwork : FloorKept s (work s)) : P (whenRuns runs work s) :=
  whenRuns_keeps hs runs fun _ => h.kept hwork hs

/-- Such a law is kept by every command. -/
theorem FloorLaw.keeps_exec {s : State} (hs : P s) (i : Instr) : ∃ t, exec i s = .next t ∧ P t := by
  cases i with
  | powerOnReset | brownOutReset | pinReset => exact ⟨_, rfl, h.reset _ s⟩
  | resetEnd stn settle =>
    refine ⟨_, rfl, ?_⟩
    unfold endReset
    split
    · exact h.keeps_of_blocks hs rfl rfl rfl rfl
    · exact hs
  | settleEnd =>
    refine ⟨_, rfl, ?_⟩
    unfold endSettle
    split
    · exact h.keeps_of_blocks hs rfl rfl rfl rfl
    · exact hs
  | emptyTransaction => exact ⟨_, rfl, hs⟩
  | readTransaction n w =>
    refine ⟨_, rfl, ?_⟩
    unfold readWork
    split
    · exact h.keeps_of_blocks hs rfl rfl rfl rfl
    · exact hs
  | badRequest bytes w =>
    refine ⟨_, rfl, ?_⟩
    unfold badRequestWork
    split
    · exact h.keeps_of_blocks hs rfl rfl rfl rfl
    · exact hs
  | setField f v w => exact ⟨_, rfl, h.keeps_requestKept hs w _ (floorKept_setRequest _ _ s)⟩
  | closeSetup w => exact ⟨_, rfl, h.keeps_takeRequest hs w _ (h.keeps_closeRequest hs)⟩
  | loadClip n cells w => exact ⟨_, rfl, h.keeps_requestKept hs w _ (floorKept_loadClipRequest _ cells s)⟩
  | guardOn w => exact ⟨_, rfl, h.keeps_requestKept hs w _ (floorKept_guardOnRequest s)⟩
  | openDesk sel cls w => exact ⟨_, rfl, h.keeps_deskRequest hs w _ sel (h.keeps_openRequest hs cls)⟩
  | closeDesk sel w => exact ⟨_, rfl, h.keeps_deskRequest hs w _ sel (h.keeps_closeDeskRequest hs)⟩
  | claim sel w => exact ⟨_, rfl, h.keeps_deskRequest hs w _ sel (h.keeps_claimRequest hs)⟩
  | release sel mode w => exact ⟨_, rfl, h.keeps_deskRequest hs w _ sel (h.keeps_releaseRequest hs mode)⟩
  | push sel n flags cells w =>
    exact ⟨_, rfl, h.keeps_deskRequestKept hs w _ sel fun d => floorKept_pushRequest n _ cells d s⟩
  | flush sel w => exact ⟨_, rfl, h.keeps_deskRequestKept hs w _ sel fun d => floorKept_flushRequest d s⟩
  | trim sel v w => exact ⟨_, rfl, h.keeps_deskRequestKept hs w _ sel fun d => floorKept_trimRequest v d s⟩
  | deskEvents sel w =>
    exact ⟨_, rfl, h.keeps_deskRequest hs w _ sel fun d =>
      h.keeps_acknowledge (s := clearDeskFlags d s) (h.keeps_of_blocks hs rfl rfl rfl rfl) d⟩
  | deskStatus sel w => exact ⟨_, rfl, h.keeps_deskRequestKept hs w _ sel fun d => floorKept_deskStatusRequest d s⟩
  | siteEvents w => exact ⟨_, rfl, h.keeps_requestKept hs w _ ⟨rfl, rfl, rfl, rfl⟩⟩
  | siteStatus w | floorView w | history w | guardRead w => exact ⟨_, rfl, h.keeps_requestKept hs w _ (.refl s)⟩
  | clamp sel w => exact ⟨_, rfl, h.keeps_deskRequestKept hs w _ sel fun d => floorKept_clampRequest d s⟩
  | unclamp sel w => exact ⟨_, rfl, h.keeps_deskRequestKept hs w _ sel fun d => floorKept_unclampRequest d s⟩
  | mask sel word w => exact ⟨_, rfl, h.keeps_requestKept hs w _ (floorKept_maskRequest sel word s)⟩
  | frameStart b => exact ⟨_, rfl, whenRuns_keeps hs _ fun _ => h.keeps_frameWork (h.keeps_timingStage hs) b⟩
  | syncFieldsReceived x => exact ⟨_, rfl, whenRuns_keeps hs _ fun _ => h.keeps_syncFields hs x⟩
  | slotReceived k x => exact ⟨_, rfl, whenRuns_keeps hs _ fun _ => h.keeps_slotArrives hs k x⟩
  | keySample a b c d => exact ⟨_, rfl, whenRuns_keeps hs _ fun _ => h.keeps_keySampleWork hs _⟩
  | snapshotComplete o b => exact ⟨_, rfl, whenRuns_keeps hs _ fun _ => h.keeps_snapshotWork hs o b⟩
  | programReceived x => exact ⟨_, rfl, whenRuns_keeps hs _ fun _ => h.keeps_programWork hs x⟩
  | syncPatternFound pos c n =>
    refine ⟨_, rfl, whenRuns_keeps hs _ fun _ => ?_⟩
    unfold patternFound
    split
    · exact h.keeps_relock hs c n
    · rw [patternSeen_eq]
      exact h.keeps_of_blocks hs rfl rfl rfl rfl
  | relockCandidateDropped pos => exact ⟨_, rfl, h.keeps_rowKept hs _ ⟨rfl, rfl, rfl, rfl⟩⟩
  | relockTestPassed pos c n => exact ⟨_, rfl, whenRuns_keeps hs _ fun _ => h.keeps_relock hs c n⟩
  | huntWaitExpired | holdoverWaitExpired => exact ⟨_, rfl, whenRuns_keeps hs _ fun _ => h.keeps_timingStage hs⟩
  | missRunLimit => exact ⟨_, rfl, whenRuns_keeps hs _ fun _ => h.keeps_countMiss hs⟩
  | timingReadbackLimit => exact ⟨_, rfl, whenRuns_keeps hs _ fun _ => h.keeps_readbackMiss hs⟩
  | fence =>
    refine ⟨_, rfl, whenRuns_keeps hs _ fun hruns => h.keeps_orphanStep (h.fenced ?_ (s := putFenceRun 3 s) ?_)⟩
    · simp only [fenceReaches, Bool.and_eq_true] at hruns
      exact hruns.1.2
    · exact h.keeps_of_blocks hs rfl rfl rfl rfl
  | announceComplete => exact ⟨_, rfl, whenRuns_keeps hs _ fun _ => h.compare hs⟩
  | peerJoined k => exact ⟨_, rfl, h.keeps_rowKept hs _ (floorKept_peerFresh k 2 s)⟩
  | peerLost k driven => exact ⟨_, rfl, h.keeps_rowKept hs _ (floorKept_peerStale k driven s)⟩
  | waitExpiry => exact ⟨_, rfl, whenRuns_keeps hs _ fun _ => h.keeps_expireWaits hs⟩
  | timeLimit => exact ⟨_, rfl, whenRuns_keeps hs _ fun _ => h.keeps_applyTimeLimit hs⟩
  | totenf => exact ⟨_, rfl, h.keeps_rowKept hs _ (.of_frames (by simp) (by simp) (by simp) (by simp))⟩
  | splitRelease => exact ⟨_, rfl, whenRuns_keeps hs _ fun _ => h.keeps_splitEvent hs⟩
  | barLifted d => exact ⟨_, rfl, whenRuns_keeps hs _ fun _ => h.keeps_barStep hs d⟩
  | leadEnd | primeToOn | gapDeclared | releaseAfterDone | drainComplete | starvation | tailEnd | identEnd =>
    exact ⟨_, rfl, whenRuns_keeps hs _ fun _ => h.airDecide hs⟩
  | idDue holder => exact ⟨_, rfl, whenRuns_keeps hs _ fun _ => h.keeps_voiceReceived hs _⟩
  | idOverdue => exact ⟨_, rfl, h.keeps_rowKept hs _ (.of_frames (by simp) (by simp) (by simp) (by simp))⟩
  | tailWaitComplete => exact ⟨_, rfl, whenRuns_keeps hs _ fun _ => h.keeps_considerTail hs⟩
  | orphan => exact ⟨_, rfl, whenRuns_keeps hs _ fun _ => h.keeps_orphanStep hs⟩
  | programRunLimit => exact ⟨_, rfl, whenRuns_keeps hs _ fun _ => h.keeps_programStep hs⟩
  | stuck | noRf | reflectSet | reflectClear | settleComplete | guardCycleBegin =>
    exact ⟨_, rfl, h.keeps_rowKept hs _ (.of_frames (by simp) (by simp) (by simp) (by simp))⟩
  | chargePhaseEnd _ | dischargeEnd _ | dischargeOverflow =>
    exact ⟨_, rfl, h.kept (.of_frames (by simp) (by simp) (by simp) (by simp)) hs⟩
  | heatSet => exact ⟨_, rfl, h.kept (floorKept_heatEvent s) hs⟩

/-- Such a law is kept by every step. -/
theorem FloorLaw.keeps_step {s t : State} (hs : P s) (hstep : step s = .next t) : P t := by
  unfold step at hstep
  split at hstep
  · cases hstep
    exact h.kept (floorKept_tick s) hs
  next c rest _ =>
    obtain ⟨u, hu, hP⟩ := h.keeps_exec (s := s.setPending rest) (h.keeps_of_blocks hs rfl rfl rfl rfl) c
    rw [hu] at hstep
    cases hstep
    exact hP

end

/-! ### The shapes of claim records are such a law (R39) -/

theorem getDesk_publishAll (s : State) (d : Desk) : getDesk (publishAll s) d = (getDesk s d).publish (ownCount s) := by
  simp [getDesk, publishAll]

theorem deskShape_publish {o : OwnDesk} (h : deskShape o) (now : Count) : deskShape (o.publish now) := by
  obtain ⟨hrec, hpub, hend⟩ := h
  unfold OwnDesk.publish
  split
  next r hr => exact ⟨hrec, hend r hr, fun _ hx => nomatch hx⟩
  next hr =>
    have hnone (x : Record) (hx : o.endPub = some x) : recordShape x := by rw [hr] at hx; cases hx
    split
    next hclaim =>
      have hstamped : recordShape { o.record with stamp := now } :=
        (recordShape_claim (r := { o.record with stamp := now }) hclaim.1).mpr ((recordShape_claim hclaim.1).mp hrec)
      exact ⟨hstamped, hstamped, hnone⟩
    next => exact ⟨hrec, hrec, hnone⟩

theorem deskShape_granted (o : OwnDesk) (h : deskShape o) : deskShape o.granted :=
  ⟨(recordShape_claim (r := o.granted.record) (.inr rfl)).mpr rfl, h.2⟩

theorem recordLaw_of_desks {s t : State} (hd : t.claims.desks = s.claims.desks) (h : recordLaw s) : recordLaw t := by
  intro d
  have e : getDesk t d = getDesk s d := by simp [getDesk, hd]
  rw [e]
  exact h d

theorem recordLaw_setDesk {s : State} (d : Desk) {x : OwnDesk} (hx : deskShape (getDesk s d) → deskShape x)
    (h : recordLaw s) : recordLaw (setDesk s d x) := by
  intro e
  rw [getDesk_setDesk]
  split
  · exact hx (h d)
  · exact h e

theorem recordLaw_endHolding {s : State} (d : Desk) (r : EndReason) (h : recordLaw s) : recordLaw (endHolding d r s) := by
  intro e
  rw [getDesk_endHolding]
  split
  · exact (deskStep_ended (joined := True) _ r).shape (h d)
  · exact h e

theorem recordLaw_endHoldings {s : State} (r : EndReason) (h : recordLaw s) : recordLaw (endHoldings r s) :=
  fold_preserves (P := recordLaw) (fun d s => endHolding d r s) (fun d _ ht => recordLaw_endHolding d r ht) h

theorem recordLaw_loseSync {s : State} (h : recordLaw s) : recordLaw (loseSync s) := by
  intro d
  rw [getDesk_loseSync]
  split
  · exact (deskStep_ended (joined := True) _ _).shape (h d)
  split
  · exact (deskStep_withdrawn (joined := True) _ _).shape (h d)
  · exact h d

theorem airStable_recordLaw : AirStable recordLaw where
  air _ _ h := h
  drives _ _ _ _ h := h
  pool _ _ h := h
  phase _ _ _ _ h := h
  flag _ _ _ h := h
  ending _ d r h := recordLaw_endHolding d r h

theorem desks_enterHunt (s : State) : (enterHunt s).claims.desks = (loseSync s).claims.desks := by
  simp [enterHunt, huntClaims]

theorem recordLaw_enterHunt {s : State} (h : recordLaw s) : recordLaw (enterHunt s) :=
  recordLaw_of_desks (desks_enterHunt s) (recordLaw_loseSync h)

theorem floorLaw_recordLaw : FloorLaw recordLaw where
  kept hk h := recordLaw_of_desks hk.desks h
  reset cause s d := by
    have e : getDesk (resetTo cause s) d = .reset := Four.get_all _ d
    rw [e]
    exact ⟨recordShape_absent, recordShape_absent, fun _ hx => nomatch hx⟩
  desk d x hx h := recordLaw_setDesk d hx.shape h
  publish h d := by
    rw [getDesk_publishAll]
    exact deskShape_publish (h d) _
  grant d _ h := by
    unfold grantDesk
    split
    · exact recordLaw_of_desks (s := setDesk _ d (getDesk _ d).granted) rfl
        (recordLaw_setDesk d (deskShape_granted _) h)
    · exact h
  air _ _ h := h
  airFrame h := airStable_recordLaw.keeps_airFrame h
  airDecide h := airStable_recordLaw.keeps_airDecide h
  hunt h := recordLaw_enterHunt h
  holdover {s} h := recordLaw_of_desks (s := endHoldings .syncLost (airOff s)) (by simp [enterHoldover])
    (recordLaw_endHoldings _ (recordLaw_of_desks (by simp) h))
  timing h := recordLaw_of_desks (by simp) h
  locked c n h := recordLaw_of_desks (by simp) h
  fenced {s} _ h := by
    have hstop : recordLaw (fencedStop s) := recordLaw_of_desks (by simp [fencedStop]) (recordLaw_loseSync h)
    unfold enterFenced
    dsimp only
    split
    · exact recordLaw_enterHunt hstop
    · exact hstop
  compare h := recordLaw_of_desks (by simp) h

/-! ### What stands out of MEMBER and out of LOCKED and TIMING is such a law (R52, R120) -/

theorem memberActive_eq_false_iff (s : State) :
    memberActive s = false ↔ syncActive s = false ∨ s.member.join ≠ .member := by
  rw [memberActive, Bool.and_eq_false_iff, beq_eq_false_iff_ne]

/-- The law of R52 and R120, read for a station that is an active MEMBER and for one that is not. -/
theorem siteLaw_iff (s : State) : siteLaw s ↔
    (memberActive s = false → airQuiet s.air ∧ (∀ d, ¬ hasState s d .holding)
      ∧ (s.member.join ≠ .member → ∀ d, ¬ hasState s d .waiting))
    ∧ (s.sync.state = .hunt ∨ s.sync.state = .notRunning → s.member.join ≠ .member) := by
  constructor
  · rintro ⟨hidle, hhold, hair, hjoin⟩
    refine ⟨fun hm => ⟨hair hm, ?_, fun hj d => (hidle hj d).1⟩, hjoin⟩
    rcases (memberActive_eq_false_iff s).mp hm with hs | hj
    · exact hhold hs
    · exact fun d => (hidle hj d).2
  · rintro ⟨hquiet, hjoin⟩
    refine ⟨fun hj d => ?_, fun hs => (hquiet ((memberActive_eq_false_iff s).mpr (.inl hs))).2.1,
      fun hm => (hquiet hm).1, hjoin⟩
    obtain ⟨-, hhold, hwait⟩ := hquiet ((memberActive_eq_false_iff s).mpr (.inr hj))
    exact ⟨hwait hj d, hhold d⟩

/-- An active MEMBER meets the law. -/
theorem siteLaw_of_active {s : State} (h : memberActive s = true) : siteLaw s := by
  refine (siteLaw_iff s).mpr ⟨fun hm => ?_, fun hs => ?_⟩
  · rw [h] at hm; cases hm
  · simp only [memberActive, syncActive, Bool.and_eq_true, Bool.or_eq_true, beq_iff_eq] at h
    rcases h.1 with h | h <;> rcases hs with hs | hs <;> rw [h] at hs <;> cases hs

/-- A station that is no MEMBER meets the law with its floor idle and its air sequencer OFF. -/
theorem siteLaw_of_idle {s : State} (hj : s.member.join ≠ .member) (ha : airQuiet s.air) (hd : floorIdle s) :
    siteLaw s :=
  (siteLaw_iff s).mpr ⟨fun _ => ⟨ha, fun d => (hd d).2, fun _ d => (hd d).1⟩, fun _ => hj⟩

theorem floorIdle_of_siteLaw {s : State} (h : siteLaw s) (hj : s.member.join ≠ .member) : floorIdle s := h.1 hj

theorem airQuiet_of_siteLaw {s : State} (h : siteLaw s) (hm : memberActive s = false) : airQuiet s.air := h.2.2.1 hm

/-- From s to t sync and join state stand, and for a station that is no active MEMBER no holding begins, no wait begins out of
MEMBER, and a quiet air sequencer stays so. -/
structure Quieter (s t : State) : Prop where
  sync : t.sync.state = s.sync.state
  join : t.member.join = s.member.join
  holding : memberActive s = false → ∀ d, hasState t d .holding → hasState s d .holding
  waiting : memberActive s = false → ∀ d, hasState t d .waiting → hasState s d .waiting ∨ s.member.join = .member
  air : memberActive s = false → airQuiet s.air → airQuiet t.air

theorem siteLaw_of_quieter {s t : State} (k : Quieter s t) (h : siteLaw s) : siteLaw t := by
  obtain ⟨hquiet, hjoin⟩ := (siteLaw_iff s).mp h
  have hactive : memberActive t = memberActive s := by simp [memberActive, syncActive, k.sync, k.join]
  refine (siteLaw_iff t).mpr ⟨fun hm => ?_, by rw [k.sync, k.join]; exact hjoin⟩
  rw [hactive] at hm
  obtain ⟨hair, hhold, hwait⟩ := hquiet hm
  refine ⟨k.air hm hair, fun d hd => hhold d (k.holding hm d hd), fun hj d hd => ?_⟩
  rw [k.join] at hj
  exact (k.waiting hm d hd).elim (hwait hj d) hj

theorem publish_state (o : OwnDesk) (now : Count) : (o.publish now).record.state = o.record.state := by
  unfold OwnDesk.publish
  split
  · rfl
  · split <;> rfl

/-- An air sequencer that is OFF with nothing pending stays so at a frame start. -/
theorem airQuiet_airFrame {s : State} (h : airQuiet s.air) : airQuiet (airFrame s).air := by
  obtain ⟨hoff, hstart, hident⟩ := h
  have hw : airQuiet (applyWithdrawal s).air := by
    unfold applyWithdrawal
    split
    · exact ⟨rfl, hstart, hident⟩
    · exact ⟨hoff, hstart, hident⟩
  obtain ⟨hoff', hstart', hident'⟩ := hw
  simp [airFrame, hstart', hident', airDecide, hoff', decideOff, airQuiet]

/-- At a frame start a desk changes only by the ending of its holding. -/
theorem airStable_endedDesks (s : State) : AirStable fun t =>
    ∀ d, getDesk t d = getDesk s d ∨ hasState s d .holding ∧ ∃ r, getDesk t d = (getDesk s d).ended r where
  air _ _ h := h
  drives _ _ _ _ h := h
  pool _ _ h := h
  phase _ _ _ _ h := h
  flag _ _ _ h := h
  ending t d r h e := by
    rw [getDesk_endHolding]
    split
    next he =>
      obtain ⟨rfl, hhold⟩ := he
      rcases h e with hsame | ⟨_, r', hended⟩
      · simp only [hasState, hsame] at hhold
        exact .inr ⟨hhold, r, by rw [hsame]⟩
      · simp only [hasState, hended] at hhold
        exact absurd hhold (stateAfter_closed r').1
    next => exact h e

theorem quieter_of_desks {s t : State} (hsync : t.sync.state = s.sync.state) (hj : t.member.join = s.member.join)
    (hd : ∀ d, getDesk t d = getDesk s d ∨ hasState s d .holding ∧ ∃ r, getDesk t d = (getDesk s d).ended r)
    (ha : airQuiet s.air → airQuiet t.air) : Quieter s t where
  sync := hsync
  join := hj
  holding _ d h := by
    rcases hd d with e | ⟨_, r, e⟩
    · rwa [hasState, e] at h
    · rw [hasState, e] at h; exact absurd h (stateAfter_closed r).1
  waiting _ d h := by
    rcases hd d with e | ⟨_, r, e⟩
    · rw [hasState, e] at h; exact .inl h
    · rw [hasState, e] at h; exact absurd h (stateAfter_closed r).2
  air _ := ha

theorem quieter_airFrame (s : State) : Quieter s (airFrame s) :=
  quieter_of_desks (by simp) (by simp) ((airStable_endedDesks s).keeps_airFrame fun _ => .inl rfl) airQuiet_airFrame

theorem quieter_airDecide (s : State) : Quieter s (airDecide s) :=
  quieter_of_desks (by simp) (by simp) ((airStable_endedDesks s).keeps_airDecide fun _ => .inl rfl)
    fun hq => by obtain ⟨hoff, hstart, hident⟩ := hq; simp [airDecide, hoff, decideOff, airQuiet, hstart, hident]

theorem airQuiet_of_airIsOff {s : State} (h : airIsOff s) : airQuiet s.air := ⟨h.1, h.2.2.2.1, h.2.2.2.2.1⟩

theorem siteLaw_enterHunt (s : State) : siteLaw (enterHunt s) := by
  obtain ⟨-, hoff, hlost, -, hjoin, -⟩ := huntEntered_enterHunt s
  refine siteLaw_of_idle ?_ (airQuiet_of_airIsOff hoff) (floorIdle_of_syncLostAt hlost)
  rw [hjoin]
  split
  next h => rcases h with h | h <;> rw [h] <;> decide
  next => decide

theorem siteLaw_enterHoldover {s : State} (h : siteLaw s) : siteLaw (enterHoldover s) := by
  have hentered := holdoverEntered_enterHoldover s
  obtain ⟨hsync, hoff, hended, hjoin, -⟩ := hentered
  refine (siteLaw_iff _).mpr ⟨fun _ => ⟨airQuiet_of_airIsOff hoff,
    not_holding_of_holdoverEntered (holdoverEntered_enterHoldover s), fun hj d hd => ?_⟩, fun hs => ?_⟩
  · have hj' : s.member.join ≠ .member := by
      intro hm
      rw [hjoin, hm] at hj
      exact hj rfl
    obtain ⟨hwait, hhold⟩ := floorIdle_of_siteLaw h hj' d
    rw [hasState, (hended d).2 hhold] at hd
    exact hwait hd
  · rw [hsync] at hs
    rcases hs with hs | hs <;> cases hs

/-- The entry to LOCKED or TIMING: an active MEMBER, or a station with its floor idle as before. -/
theorem siteLaw_of_activeEntry {s t : State} (h : siteLaw s) (hs : t.sync.state = .locked ∨ t.sync.state = .timing)
    (hm : t.member = joinAfterEntry s.member) (hquiet : s.member.join ≠ .member → airQuiet s.air) (ha : t.air = s.air)
    (hd : t.claims.desks = s.claims.desks) : siteLaw t := by
  by_cases hj : s.member.join = .member
  · apply siteLaw_of_active
    rcases hs with hs | hs <;> simp [memberActive, syncActive, hs, hm, joinAfterEntry, hj]
  · refine siteLaw_of_idle ?_ (by rw [ha]; exact hquiet hj) (floorIdle_of_desks (floorIdle_of_siteLaw h hj) hd)
    rw [hm, joinAfterEntry]
    split
    · exact (nomatch ·)
    · exact hj

theorem airQuiet_of_not_member {s : State} (h : siteLaw s) (hj : s.member.join ≠ .member) : airQuiet s.air :=
  airQuiet_of_siteLaw h ((memberActive_eq_false_iff s).mpr (.inr hj))

theorem siteLaw_announceCompare {s : State} (h : siteLaw s) : siteLaw (announceCompare s) := by
  unfold announceCompare
  split
  next hann =>
    have hj : s.member.join ≠ .member := by rw [hann.1]; decide
    split
    next ht => exact siteLaw_of_active (by simp [memberActive, syncActive, setJoin_join, ht])
    next hl =>
      split
      · split
        · exact siteLaw_of_active (by simp [memberActive, syncActive, setJoin_join, hl])
        · exact siteLaw_of_idle (by simp [setJoin_join]) (by simpa using airQuiet_of_not_member h hj)
            (floorIdle_of_desks (floorIdle_of_siteLaw h hj) (by simp))
      · exact h
    all_goals exact h
  next => exact h

theorem floorLaw_siteLaw : FloorLaw siteLaw where
  kept hk h := siteLaw_of_quieter (quieter_of_desks hk.sync hk.join
    (fun d => .inl (by simp [getDesk, hk.desks])) (by rw [hk.air]; exact id)) h
  reset cause s := siteLaw_of_idle (nomatch ·) ⟨rfl, rfl, rfl⟩ fun d => by
    have e : getDesk (resetTo cause s) d = .reset := Four.get_all _ d
    rw [hasState, hasState, e]
    exact ⟨(nomatch ·), (nomatch ·)⟩
  desk {s} d x hx h := by
    refine siteLaw_of_quieter ⟨by simp, by simp, fun _ e he => ?_, fun _ e he => ?_, by simp⟩ h
    · rw [hasState, getDesk_setDesk] at he
      split at he
      next hed => rw [hed]; exact hx.holding he
      next => exact he
    · rw [hasState, getDesk_setDesk] at he
      split at he
      next hed => rw [hed]; exact hx.waiting he
      next => exact .inl he
  publish {s} h := by
    have e (d : Desk) (x : RecState) (hx : hasState (publishAll s) d x) : hasState s d x := by
      rwa [hasState, getDesk_publishAll, publish_state] at hx
    exact siteLaw_of_quieter ⟨by simp, by simp, fun _ d => e d _, fun _ d hd => .inl (e d _ hd), by simp⟩ h
  grant d hm _ := siteLaw_of_active (by rw [← hm]; simp [memberActive, syncActive])
  air {s} x hx h := by
    rcases hx with hm | hq
    · exact siteLaw_of_active hm
    · exact siteLaw_of_quieter (quieter_of_desks (s := s) (t := s.setAir x) rfl rfl (fun _ => .inl rfl) hq) h
  airFrame h := siteLaw_of_quieter (quieter_airFrame _) h
  airDecide h := siteLaw_of_quieter (quieter_airDecide _) h
  hunt _ := siteLaw_enterHunt _
  holdover h := siteLaw_enterHoldover h
  timing {s} h := by
    obtain ⟨hsync, hmember, -, -⟩ := timingEntered_enterTiming s
    exact siteLaw_of_activeEntry h (.inr (by rw [hsync])) hmember (airQuiet_of_not_member h) (by simp) (by simp)
  locked {s} c n h := by
    obtain ⟨hsync, -, hmember, -, -⟩ := lockedEntered_enterLocked (s := s) (u := s) c n rfl rfl
    exact siteLaw_of_activeEntry h (.inl (by rw [hsync])) hmember (airQuiet_of_not_member h) (by simp) (by simp)
  fenced {s} hcan _ := by
    have hne : s.member.join ≠ .fenced := by
      rcases (canFence_iff s).mp hcan with hj | hj | hj <;> rw [hj] <;> decide
    have hf := fencedOut_enterFenced hne
    exact siteLaw_of_idle (by rw [hf.join]; decide) (airQuiet_of_airIsOff hf.off) hf.idle
  compare h := siteLaw_announceCompare h

/-- Settles O59: each law is kept by the single actions of which every command is made. -/
theorem claimLawsKept : Obligations.ClaimLawsKept := by
  intro s t hstep
  exact ⟨fun h => floorLaw_recordLaw.keeps_step h hstep, fun h => floorLaw_siteLaw.keeps_step h hstep⟩

end Sys2Proof

namespace Sys2Proof
open Machine

/-! ## The desk requests of the claim table: OPEN_DESK, CLAIM, RELEASE, CLOSE_DESK (R42 to R45) -/

/-- R165, R167, R169: a desk request whose answer is a given state and status without a body. -/
theorem exec_of_answer {i : Instr} {s t : State} {d : Desk} {sel : Byte} {w : Bool} {n : Nat} {st : Status}
    {act : Desk → State → Answer} (hi : exec i s = .next (takeRequest w n (forDesk sel act) s)) (hup : linkUp s = true)
    (hsel : sel.toNat = d.val) (hact : act d s = ⟨t, st, []⟩) : exec i s = .next (replied w s t n st []) := by
  rw [hi, takeRequest_up hup, forDesk_of hsel, hact]

/-! ### OPEN_DESK (R42) -/

theorem classOf_unknown {b : Byte} (h : 1 < b.toNat) : classOf b = none := by
  have h0 : b ≠ 0 := by rintro rfl; exact absurd h (by decide)
  have h1 : b ≠ 1 := by rintro rfl; exact absurd h (by decide)
  rw [classOf, if_neg h0, if_neg h1]

theorem classOf_known {b : Byte} (h : b.toNat ≤ 1) : classOf b = some (if b = 0 then .normal else .control) := by
  by_cases h0 : b = 0
  · rw [classOf, if_pos h0, if_pos h0]
  · have h1 : b = 1 := by
      have hne : b.toNat ≠ 0 := fun hc => h0 (BitVec.eq_of_toNat_eq hc)
      exact BitVec.eq_of_toNat_eq (show b.toNat = 1 by omega)
    rw [classOf, if_neg h0, if_pos h1, if_neg h0]

/-- R87: the queue of a desk at OPEN_DESK, its cells on the free list. -/
theorem resetQueue_eq (d : Desk) (s : State) : resetQueue d s = s.setPool { s.pool with
    desks := s.pool.desks.set d ⟨[], none, none, 0, 0, 0, 0, 0, 0, 0⟩
    free := s.pool.free + (getQueue s d).cells } := by
  simp only [resetQueue, releaseCells, cells_reset, Nat.sub_zero]
  rfl

theorem getQueue_setDesk (d e : Desk) (x : OwnDesk) (s : State) : getQueue (setDesk s d x) e = getQueue s e := rfl

/-- Settles O14: each check of R42 in its order, then the desk it opens. -/
theorem openDeskMakesItIdle : Obligations.OpenDeskMakesItIdle := by
  intro s d sel cls w hup hsel
  have answer {t : State} {st : Status} (hact : openRequest cls d s = ⟨t, st, []⟩) :=
    exec_of_answer (i := .openDesk sel cls w) rfl hup hsel hact
  refine ⟨fun hc => answer ?_, fun hc => ⟨fun he => answer ?_, fun he => ⟨fun hcls => answer ?_, fun hcls =>
    ⟨fun hst => answer ?_, fun hst => ?_⟩⟩⟩⟩
  · simp [openRequest, hc, Answer.refuse]
  · simp [openRequest, hc, he, Answer.refuse]
  · simp [openRequest, hc, he, classOf_unknown hcls, Answer.refuse]
  · simp [openRequest, hc, he, classOf_known hcls, hst, Answer.refuse]
  · have hopen := answer (t := resetQueue d (setDesk s d ((getDesk s d).opened (if cls = 0 then .normal else .control))))
      (st := .ok) (by simp [openRequest, hc, he, classOf_known hcls, hst, Answer.ok])
    rw [hopen, resetQueue_eq, getQueue_setDesk]
    rfl

/-! ### CLAIM (R43) -/

/-- Settles O15: each check of R43 in its order, then the desk that waits. -/
theorem claimMakesTheDeskWait : Obligations.ClaimMakesTheDeskWait := by
  intro s d sel w hup hsel
  simp only [hasState]
  have answer {t : State} {st : Status} (hact : claimRequest d s = ⟨t, st, []⟩) :=
    exec_of_answer (i := .claim sel w) rfl hup hsel hact
  refine ⟨fun hc => answer ?_, fun hc => ⟨fun hf => answer ?_, fun hf =>
    ⟨fun hst => answer ?_, fun hst => answer ?_, fun hst => answer ?_, fun hst hj => answer ?_,
      fun hst hj h8 => answer ?_⟩⟩⟩
  · simp [claimRequest, hc, Answer.refuse]
  · simp [claimRequest, hc, hf, Answer.refuse]
  · simp [claimRequest, hc, hf, hst, Answer.refuse]
  · rcases hst with hst | hst <;> simp [claimRequest, hc, hf, hst, Answer.refuse]
  · simp [claimRequest, hc, hf, hst, Answer.refuse]
  · simp [claimRequest, hc, hf, hst, hj, Answer.refuse]
  · simp [claimRequest, hc, hst, hj, h8, Answer.ok, OwnDesk.claimed]

/-! ### What an ending and a withdrawal leave (R47, R50, R115) -/

/-- R115: what the air sequencer does when it is told of an ending. -/
theorem tellEnded_spec (d : Desk) (s : State) : servedEnding s (tellEnded d s) d ∧ otherEnding s (tellEnded d s) d := by
  have hpending : (if s.air.pendingStart = some d then { s.air with pendingStart := none } else s.air)
      = { s.air with pendingStart := if s.air.pendingStart = some d then none else s.air.pendingStart } := by
    split
    · rfl
    · rfl
  unfold servedEnding otherEnding tellEnded
  rw [hpending]
  by_cases hserve : s.air.serving = some d <;> cases hstate : s.air.state <;> simp [hserve, hstate]

theorem endings_of_air {s s' t t' : State} {d : Desk} (h : servedEnding s t d ∧ otherEnding s t d)
    (hs : s'.air = s.air) (ht : t'.air = t.air) : servedEnding s' t' d ∧ otherEnding s' t' d := by
  simpa [servedEnding, otherEnding, hs, ht] using h

theorem ended_eq (o : OwnDesk) {r : EndReason} (h : r ≠ .timeout) (h' : r ≠ .starved) :
    o.ended r = { o with record := idleRecord o r, drain := false, endPub := pubAfter o (idleRecord o r) } := by
  have e : stateAfter r = .idle := by cases r <;> simp_all [stateAfter]
  cases ho : o.endPub <;> simp [OwnDesk.ended, fillEnd, pubAfter, idleRecord, e, ho]

theorem endHolding_of_holding {d : Desk} {s : State} (h : hasState s d .holding) (r : EndReason) :
    endHolding d r s = tellEnded d (raiseDesk d .ended (setDesk s d ((getDesk s d).ended r))) := if_pos h

theorem withdraw_of_waiting {d : Desk} {s : State} (h : hasState s d .waiting) (r : EndReason) :
    withdraw d r s = raiseDesk d .waitEnd (setDesk s d ((getDesk s d).withdrawn r)) := if_pos h

/-- R47, R115: a holding that ends, block by block. -/
theorem endHolding_spec {d : Desk} {s : State} (h : hasState s d .holding) (r : EndReason) :
    endHolding d r s = { s with
      claims := (endHolding d r s).claims, link := (endHolding d r s).link, air := (endHolding d r s).air }
    ∧ (endHolding d r s).claims = (setDesk s d ((getDesk s d).ended r)).claims
    ∧ (endHolding d r s).link = (raiseDesk d .ended s).link
    ∧ servedEnding s (endHolding d r s) d ∧ otherEnding s (endHolding d r s) d := by
  refine ⟨by apply State.eq_of_blocks <;> simp, ?_, ?_, ?_⟩
  · rw [endHolding_of_holding h, tellEnded_claims, (raiseDesk_frame _ _ _).2.2.2.2.2.1]
  · rw [endHolding_of_holding h, tellEnded_link]
    rfl
  · rw [endHolding_of_holding h]
    exact endings_of_air (tellEnded_spec d (raiseDesk d .ended (setDesk s d ((getDesk s d).ended r)))) rfl rfl

/-- R50: a wait that is withdrawn, block by block. -/
theorem withdraw_spec {d : Desk} {s : State} (h : hasState s d .waiting) (r : EndReason) :
    withdraw d r s = { s with claims := (withdraw d r s).claims, link := (withdraw d r s).link }
    ∧ (withdraw d r s).claims = (setDesk s d ((getDesk s d).withdrawn r)).claims
    ∧ (withdraw d r s).link = (raiseDesk d .waitEnd s).link := by
  refine ⟨by apply State.eq_of_blocks <;> simp, ?_, ?_⟩ <;> rw [withdraw_of_waiting h] <;> rfl

/-! ### RELEASE (R44) -/

theorem release_mode_iff (mode : Byte) : (mode ≠ 0 ∧ mode ≠ 1) ↔ 1 < mode.toNat := by
  constructor
  · rintro ⟨h0, h1⟩
    have hne0 : mode.toNat ≠ 0 := fun hc => h0 (BitVec.eq_of_toNat_eq hc)
    have hne1 : mode.toNat ≠ 1 := fun hc => h1 (BitVec.eq_of_toNat_eq hc)
    omega
  · intro h
    constructor <;> rintro rfl <;> exact absurd h (by decide)

theorem releaseRequest_known {mode : Byte} {s : State} (hmode : mode.toNat ≤ 1) (hc : s.setup.closed = true) (d : Desk) :
    releaseRequest mode d s = releaseDesk (mode == 1) d s := by
  have hknown : ¬ (mode ≠ 0 ∧ mode ≠ 1) := by rw [release_mode_iff]; omega
  rw [releaseRequest, if_neg hknown, hc]
  rfl

/-- Settles O16: the two first answers of R44, then the release by the state of the desk. -/
theorem releaseEndsHoldingOrWait : Obligations.ReleaseEndsHoldingOrWait := by
  intro s d sel mode w hup hsel
  have answer {t : State} {st : Status} (hact : releaseRequest mode d s = ⟨t, st, []⟩) :=
    exec_of_answer (i := .release sel mode w) rfl hup hsel hact
  refine ⟨fun hmode => answer ?_, fun hmode => ⟨fun hc => answer ?_, fun hc => ?_⟩⟩
  · rw [releaseRequest, if_pos ((release_mode_iff mode).mpr hmode)]
    rfl
  · have hknown : ¬ (mode ≠ 0 ∧ mode ≠ 1) := by rw [release_mode_iff]; omega
    rw [releaseRequest, if_neg hknown, hc]
    rfl
  have released {t : State} {st : Status} (hact : releaseDesk (mode == 1) d s = ⟨t, st, []⟩) :=
    answer ((releaseRequest_known hmode hc d).trans hact)
  refine ⟨fun hst => released ?_, fun hst => released ?_, fun hst => ⟨_, released (t := withdraw d .released s) ?_, ?_⟩,
    fun hst h1 => released ?_, fun hst h0 => ⟨_, released (t := endHolding d .released s) ?_, ?_⟩⟩
  · simp only [hasState] at hst
    simp [releaseDesk, hst, Answer.refuse]
  · simp only [hasState] at hst
    rcases hst with hst | hst <;> simp [releaseDesk, hst, Answer.refuse]
  · simp only [hasState] at hst
    simp [releaseDesk, hst, Answer.ok]
  · obtain ⟨hframe, hclaims, -⟩ := withdraw_spec hst .released
    exact ⟨hframe, by rw [hclaims, withdrawn_eq]; rfl, deskFlagSet_withdraw .released hst⟩
  · have hm : mode = 1 := BitVec.eq_of_toNat_eq h1
    simp only [hasState] at hst
    simp [releaseDesk, hst, hm, Answer.ok]
  · have hm : mode = 0 := BitVec.eq_of_toNat_eq h0
    simp only [hasState] at hst
    simp [releaseDesk, hst, hm, Answer.ok]
  · obtain ⟨hframe, hclaims, -, hserved, hother⟩ := endHolding_spec hst .released
    refine ⟨hframe, ?_, deskFlagSet_endHolding .released hst, hserved, hother⟩
    rw [hclaims, ended_eq _ (by decide) (by decide)]
    rfl

/-! ### CLOSE_DESK (R45) -/

theorem not_holding_of_waiting {s : State} {d : Desk} (h : hasState s d .waiting) : ¬ hasState s d .holding := by
  rw [hasState] at h ⊢
  rw [h]
  decide

theorem endForClose_of_holding {d : Desk} {s : State} (h : hasState s d .holding) :
    endForClose d s = endHolding d .closed s := by
  apply withdraw_of_not
  rw [hasState, getDesk_endHolding, if_pos ⟨rfl, h⟩]
  exact (stateAfter_closed .closed).2

theorem endForClose_of_waiting {d : Desk} {s : State} (h : hasState s d .waiting) :
    endForClose d s = withdraw d .closed s := by
  rw [endForClose, endHolding_of_not (not_holding_of_waiting h)]

theorem endForClose_of_not {d : Desk} {s : State} (hh : ¬ hasState s d .holding) (hw : ¬ hasState s d .waiting) :
    endForClose d s = s := by
  rw [endForClose, endHolding_of_not hh, withdraw_of_not hw]

/-- R45 steps 1 to 3: the own desks change at desk d only, and the flags of desk d only. -/
theorem endForClose_claims (d : Desk) (s : State) :
    (endForClose d s).claims = (setDesk s d (getDesk (endForClose d s) d)).claims
    ∧ ∃ f, (endForClose d s).link = { s.link with deskFlags := s.link.deskFlags.set d f } := by
  have hdesk := endForClose_getDesk d d s
  simp only [true_and] at hdesk
  by_cases hh : hasState s d .holding
  · obtain ⟨-, hclaims, hlink, -⟩ := endHolding_spec hh .closed
    rw [if_pos hh] at hdesk
    rw [hdesk, endForClose_of_holding hh]
    exact ⟨hclaims, _, hlink⟩
  · rw [if_neg hh] at hdesk
    by_cases hw : hasState s d .waiting
    · obtain ⟨-, hclaims, hlink⟩ := withdraw_spec hw .closed
      rw [if_pos hw] at hdesk
      rw [hdesk, endForClose_of_waiting hw]
      exact ⟨hclaims, _, hlink⟩
    · rw [if_neg hw] at hdesk
      rw [hdesk, endForClose_of_not hh hw]
      refine ⟨?_, s.link.deskFlags.get d, ?_⟩
      · simp [setDesk, getDesk]
      · simp

/-- R45: the record is ABSENT, and an ended record waits for publication where the desk held or waited. -/
theorem endForClose_closed (d : Desk) (s : State) : (getDesk (endForClose d s) d).closed =
    { getDesk s d with
      record := ⟨.absent, .normal, .noReason, 0⟩, drain := false, barRun := 0, ack := false
      endPub := if hasState s d .holding ∨ hasState s d .waiting then
          pubAfter (getDesk s d) ⟨.idle, (getDesk s d).record.cls, .closed, 0⟩ else (getDesk s d).endPub } := by
  have hdesk := endForClose_getDesk d d s
  simp only [true_and] at hdesk
  by_cases hh : hasState s d .holding
  · rw [if_pos hh, ended_eq _ (by decide) (by decide)] at hdesk
    rw [hdesk, if_pos (.inl hh)]
    rfl
  · rw [if_neg hh] at hdesk
    by_cases hw : hasState s d .waiting
    · rw [if_pos hw, withdrawn_eq] at hdesk
      rw [hdesk, if_pos (.inr hw)]
      rfl
    · rw [if_neg hw] at hdesk
      rw [hdesk, if_neg (not_or.mpr ⟨hh, hw⟩)]
      rfl

theorem endForClose_air_of_not {d : Desk} {s : State} (h : ¬ hasState s d .holding) : (endForClose d s).air = s.air := by
  rw [endForClose, endHolding_of_not h]
  simp

/-- R97: the queue of a desk emptied, its cells on the free list. -/
theorem flushDesk_pool (d : Desk) (s : State) : (flushDesk d s).pool = { s.pool with
    desks := s.pool.desks.set d { getQueue s d with queue := [], current := none, cursor := none }
    free := s.pool.free + (getQueue s d).cells } := by
  simp only [flushDesk, releaseCells, setPool_pool, cells_flushed, Nat.sub_zero]
  rfl

theorem closeDeskWork_blocks (d : Desk) (s : State) : closeDeskWork d s = { s with
    claims := (closeDeskWork d s).claims, link := (closeDeskWork d s).link, air := (closeDeskWork d s).air
    pool := (closeDeskWork d s).pool } := by
  apply State.eq_of_blocks <;> simp [closeDeskWork]

theorem closeDeskWork_claims (d : Desk) (s : State) :
    (closeDeskWork d s).claims = (setDesk s d (getDesk (endForClose d s) d).closed).claims := by
  have hclaims := (endForClose_claims d s).1
  simp only [closeDeskWork, clearDeskFlags_frame, flushDesk_frame, setDesk, setClaims_claims] at hclaims ⊢
  rw [hclaims]
  simp

theorem closeDeskWork_link (d : Desk) (s : State) :
    (closeDeskWork d s).link = { s.link with deskFlags := s.link.deskFlags.set d 0 } := by
  obtain ⟨f, hlink⟩ := (endForClose_claims d s).2
  simp only [closeDeskWork, clearDeskFlags, setLink_link, flushDesk_frame, setDesk_frame, hlink, Four.set_set]

theorem closeDeskWork_pool (d : Desk) (s : State) : (closeDeskWork d s).pool = { s.pool with
    desks := s.pool.desks.set d { getQueue s d with queue := [], current := none, cursor := none }
    free := s.pool.free + (getQueue s d).cells } := by
  have hqueue (x : OwnDesk) : getQueue (setDesk (endForClose d s) d x) d = getQueue s d := by simp [getQueue]
  simp only [closeDeskWork, clearDeskFlags_frame, flushDesk_pool, hqueue, setDesk_frame, endForClose_frame]

theorem closeDeskWork_air (d : Desk) (s : State) : (closeDeskWork d s).air = (endForClose d s).air := by
  simp [closeDeskWork]

/-- Settles O17: the checks of R45, then the desk that is closed, block by block. -/
theorem closeDeskMakesItAbsent : Obligations.CloseDeskMakesItAbsent := by
  intro s d sel w hup hsel
  have answer {t : State} {st : Status} (hact : closeDeskRequest d s = ⟨t, st, []⟩) :=
    exec_of_answer (i := .closeDesk sel w) rfl hup hsel hact
  refine ⟨fun hc => answer ?_, fun hc => ⟨fun hst => answer ?_, fun hst => ⟨_, answer (t := closeDeskWork d s) ?_,
    closeDeskWork_blocks d s, ?_, closeDeskWork_pool d s, closeDeskWork_link d s, fun hh => ?_, fun hh => ?_⟩⟩⟩
  · simp [closeDeskRequest, hc, Answer.refuse]
  · simp only [hasState] at hst
    simp [closeDeskRequest, hc, hst, Answer.refuse]
  · simp only [hasState] at hst
    simp [closeDeskRequest, hc, hst, Answer.ok]
  · rw [closeDeskWork_claims, endForClose_closed]
  · obtain ⟨-, -, -, hending⟩ := endHolding_spec hh .closed
    exact endings_of_air hending rfl (by rw [closeDeskWork_air, endForClose_of_holding hh])
  · rw [closeDeskWork_air, endForClose_air_of_not hh]

end Sys2Proof

namespace Sys2Proof
open Machine

/-! ## The rows of the claim table's limits (R51, R53, R54, R61, R77 to R79, R144) -/

/-! ### The wait limit and the time limit, over the four desks -/

theorem ageAtLeast_deskAge (s : State) (o : OwnDesk) (limit : Nat) :
    ageAtLeast (deskAge s o) limit = true ↔ (o.record.state = .waiting ∨ o.record.state = .holding)
      ∧ o.stampSet = true ∧ limit ≤ age (s.sync.count.getD 0) o.record.stamp := by
  unfold deskAge
  split
  next h =>
    simp only [ageAtLeast, h.1, h.2, true_and, decide_eq_true_iff]
    rfl
  next h =>
    simp only [ageAtLeast, Bool.false_eq_true, false_iff]
    exact fun hc => h ⟨hc.1, hc.2.1⟩

/-- The ending or withdrawal that a limit makes of each desk in a state whose age has reached it. -/
structure LimitAct (act : Desk → State → State) (x : RecState) (after : OwnDesk → OwnDesk) (f : DeskFlag) : Prop where
  desk : ∀ d e s, getDesk (act d s) e = if e = d ∧ hasState s d x then after (getDesk s d) else getDesk s e
  kept : ∀ d s, (act d s).sync = s.sync ∧ (act d s).setup = s.setup
  flag : ∀ d s, hasState s d x → deskFlagSet (act d s) d f
  flags : ∀ d s e, deskFlagSet s e f → deskFlagSet (act d s) e f

theorem limitAct_withdraw (r : EndReason) :
    LimitAct (fun d s => withdraw d r s) .waiting (fun o => o.withdrawn r) .waitEnd where
  desk d e s := getDesk_withdraw d e r s
  kept d s := ⟨by simp, by simp⟩
  flag d s h := deskFlagSet_withdraw r h
  flags d s e h := deskFlagSet_withdraw_of d r h

theorem limitAct_endHolding (r : EndReason) :
    LimitAct (fun d s => endHolding d r s) .holding (fun o => o.ended r) .ended where
  desk d e s := getDesk_endHolding d e r s
  kept d s := ⟨by simp, by simp⟩
  flag d s h := deskFlagSet_endHolding r h
  flags d s e h := deskFlagSet_endHolding_of d r h

/-- The work of a limit over the desks: each desk whose age has reached it is acted on. -/
def limitWork (act : Desk → State → State) (limit : Setup → Nat) (s : State) : State :=
  allDesks.foldl (fun s d => if ageAtLeast (deskAge s (getDesk s d)) (limit s.setup) then act d s else s) s

theorem expireWaits_eq (s : State) : expireWaits s = limitWork (fun d s => withdraw d .waitExpired s) Setup.maxWait s := rfl

theorem applyTimeLimit_eq (s : State) : applyTimeLimit s = limitWork (fun d s => endHolding d .timeout s) Setup.totLimit s := rfl

section
variable {act : Desk → State → State} {x : RecState} {after : OwnDesk → OwnDesk} {f : DeskFlag}

/-- A fold over the desks, each step of which changes one desk alone in the states of an invariant. -/
theorem getDesk_fold_of {I : State → Prop} (f : Desk → State → State) (g : Desk → OwnDesk → OwnDesk)
    (hI : ∀ d s, I s → I (f d s))
    (hf : ∀ d e s, I s → getDesk (f d s) e = if e = d then g d (getDesk s d) else getDesk s e) {s : State} (hs : I s)
    (e : Desk) : getDesk (allDesks.foldl (fun s d => f d s) s) e = g e (getDesk s e) := by
  have h0 := hI 0 _ hs
  have h1 := hI 1 _ h0
  have h2 := hI 2 _ h1
  simp only [allDesks, List.foldl]
  fin_cases e <;> simp [hf, hs, h0, h1, h2]

theorem getDesk_limitWork (h : LimitAct act x after f) (limit : Setup → Nat) (s : State) (e : Desk) :
    getDesk (limitWork act limit s) e =
      if hasState s e x ∧ ageAtLeast (deskAge s (getDesk s e)) (limit s.setup) = true then after (getDesk s e)
      else getDesk s e := by
  refine getDesk_fold_of (I := fun t => t.sync = s.sync ∧ t.setup = s.setup)
    (fun d s => if ageAtLeast (deskAge s (getDesk s d)) (limit s.setup) then act d s else s)
    (fun _ o => if o.record.state = x ∧ ageAtLeast (deskAge s o) (limit s.setup) = true then after o else o)
    (fun d t ht => ?_) (fun d e t ht => ?_) ⟨rfl, rfl⟩ e
  · split
    · exact ⟨(h.kept d t).1.trans ht.1, (h.kept d t).2.trans ht.2⟩
    · exact ht
  · have hage (o : OwnDesk) : deskAge t o = deskAge s o := by simp [deskAge, ownCount, ht.1]
    simp only [hage, ht.2]
    by_cases hed : e = d
    · subst hed
      by_cases hold : ageAtLeast (deskAge s (getDesk t e)) (limit s.setup) = true
      · simp [hold, h.desk, hasState]
      · simp [hold]
    · simp only [if_neg hed]
      split
      · rw [h.desk, if_neg fun hc => hed hc.1]
      · rfl

theorem deskFlagSet_limitWork (h : LimitAct act x after f) (limit : Setup → Nat) {s : State} {e : Desk}
    (hst : hasState s e x) (hage : ageAtLeast (deskAge s (getDesk s e)) (limit s.setup) = true) :
    deskFlagSet (limitWork act limit s) e f := by
  refine fold_reaches (P := fun t => deskFlagSet t e f)
    (Q := fun e t => hasState t e x ∧ ageAtLeast (deskAge t (getDesk t e)) (limit t.setup) = true)
    (fun d s => if ageAtLeast (deskAge s (getDesk s d)) (limit s.setup) then act d s else s) e
    (fun d t hde ht => ?_) (fun t ht => ?_) (fun d t ht => ?_) ⟨hst, hage⟩
  · split
    · have hdesk : getDesk (act d t) e = getDesk t e := by rw [h.desk, if_neg fun hc => hde hc.1.symm]
      obtain ⟨hsync, hsetup⟩ := h.kept d t
      have hage (o : OwnDesk) : deskAge (act d t) o = deskAge t o := by simp [deskAge, ownCount, hsync]
      rw [hasState, hdesk, hage, hsetup]
      exact ht
    · exact ht
  · rw [if_pos ht.2]
    exact h.flag e t ht.1
  · split
    · exact h.flags d t e ht
    · exact ht

end

theorem ended_timeout (o : OwnDesk) : o.ended .timeout = { o with
    record := ⟨.barred, o.record.cls, .timeout, 0⟩, drain := false, barRun := 0, ack := false
    endPub := pubAfter o ⟨.barred, o.record.cls, .timeout, 0⟩ } := by
  cases ho : o.endPub <;> simp [OwnDesk.ended, fillEnd, pubAfter, stateAfter, ho]

/-- A desk that a limit leaves: in another state, with no stamp, or not old enough. -/
theorem not_reached {s : State} {d : Desk} {x : RecState} {limit : Nat}
    (h : ¬ hasState s d x ∨ (getDesk s d).stampSet = false
      ∨ age (s.sync.count.getD 0) (getDesk s d).record.stamp < limit) :
    ¬ (hasState s d x ∧ ageAtLeast (deskAge s (getDesk s d)) limit = true) := by
  rintro ⟨hst, hage⟩
  obtain ⟨-, hset, hle⟩ := (ageAtLeast_deskAge _ _ _).mp hage
  rcases h with h | h | h
  · exact h hst
  · rw [h] at hset; cases hset
  · omega

/-! ### TOTENF, the eighth split frame, a bar lifted -/

theorem holdingEndedAt_endHoldings_self {r : EndReason} (h : r ≠ .timeout) (h' : r ≠ .starved) (s : State) (d : Desk) :
    holdingEndedAt r s (endHoldings r s) d := by
  refine ⟨fun hh => ?_, fun hh => ?_⟩
  · obtain ⟨hrec, hdrain, hpub⟩ := ended_record (getDesk s d) r h h'
    rw [getDesk_endHoldings, if_pos hh]
    exact ⟨hrec, hdrain, hpub, deskFlagSet_endHoldings r hh⟩
  · rw [getDesk_endHoldings, if_neg hh]

theorem holdingEndedAt_from {r : EndReason} {s s' t : State} {d : Desk} (h : holdingEndedAt r s t d)
    (hs : s'.claims.desks = s.claims.desks) : holdingEndedAt r s' t d := by
  have e : getDesk s' d = getDesk s d := by rw [getDesk, hs]; rfl
  rw [holdingEndedAt, hasState, e]
  exact h

theorem totReport_iff (s : State) : totReport s = true ↔ s.member.join = .member
    ∧ ∃ h, snapHolder s = some h ∧ s.setup.totLimit + 20 ≤ age (s.sync.count.getD 0) h.record.stamp := by
  unfold totReport
  cases hs : snapHolder s with
  | none => simp
  | some h =>
    simp only [Bool.and_eq_true, beq_iff_eq, decide_eq_true_iff, Option.some.injEq, exists_eq_left']
    rfl

theorem exec_of_runs {i : Instr} {s : State} {runs : Bool} {work : State → State}
    (hi : exec i s = .next (whenRuns runs work s)) (h : runs = true) : exec i s = .next (work s) := by
  rw [hi, whenRuns, if_pos h]

/-- R61, R79: what the eighth split frame does. -/
theorem splitEvent_eq (s : State) : splitEvent s
    = endHoldings .split (raiseSite .split (s.setClaims { s.claims with splitRun := 8 })) := by
  unfold splitEvent releaseSplit
  exact if_pos rfl

/-- R53, R54: a frame start that completes a bar. -/
theorem barStep_lifts {s : State} {d : Desk} (hst : hasState s d .barred)
    (hrun : s.setup.coolOff ≤ (getDesk s d).barRun + 1)
    (hack : (getDesk s d).record.reason ≠ .starved ∨ (getDesk s d).ack = true) :
    barStep d s = raiseDesk d .barLifted (setDesk s d { getDesk s d with
      record := { (getDesk s d).record with state := .idle }
      barRun := min ((getDesk s d).barRun + 1) s.setup.coolOff }) := by
  have hget (x : OwnDesk) : getDesk (setDesk s d x) d = x := by rw [getDesk_setDesk, if_pos rfl]
  have htwice (x y : OwnDesk) : setDesk (setDesk s d x) d y = setDesk s d y := by simp [setDesk]
  have hdone : barDone (setDesk s d { getDesk s d with barRun := capAdd (getDesk s d).barRun 1 s.setup.coolOff })
      { getDesk s d with barRun := capAdd (getDesk s d).barRun 1 s.setup.coolOff } = true := by
    simp only [hasState] at hst
    simp [barDone, hst, capAdd, hrun, hack]
  rw [barStep, if_pos hst, testBar, hget, if_pos hdone, htwice]
  rfl

/-- Settles O49: each row runs the limit's own work, by the lemma about that work. -/
theorem claimTableLimitsAct : Obligations.ClaimTableLimitsAct := by
  intro s
  refine ⟨fun hp => ⟨⟨expireWaits s, exec_of_runs rfl hp, by apply State.eq_of_blocks <;> simp, fun d => ⟨?_, ?_⟩⟩,
    applyTimeLimit s, exec_of_runs rfl hp, by apply State.eq_of_blocks <;> simp, fun d => ⟨?_, ?_⟩⟩, fun hp =>
    ⟨?_, ?_, ?_⟩, ?_⟩
  · intro hst hset hle
    have hage := (ageAtLeast_deskAge s _ _).mpr ⟨.inl hst, hset, hle⟩
    rw [expireWaits_eq, getDesk_limitWork (limitAct_withdraw _), if_pos ⟨hst, hage⟩, withdrawn_eq]
    exact ⟨rfl, rfl, deskFlagSet_limitWork (limitAct_withdraw _) _ hst hage⟩
  · intro h
    rw [expireWaits_eq, getDesk_limitWork (limitAct_withdraw _), if_neg (not_reached h)]
  · intro hst hset hle
    have hage := (ageAtLeast_deskAge s _ _).mpr ⟨.inr hst, hset, hle⟩
    rw [applyTimeLimit_eq, getDesk_limitWork (limitAct_endHolding _), if_pos ⟨hst, hage⟩, ended_timeout]
    exact ⟨rfl, rfl, rfl, rfl, rfl, deskFlagSet_limitWork (limitAct_endHolding _) _ hst hage⟩
  · intro h
    rw [applyTimeLimit_eq, getDesk_limitWork (limitAct_endHolding _), if_neg (not_reached h)]
  · intro h hj hholder hle
    have htot := (totReport_iff s).mpr ⟨hj, h, hholder, hle⟩
    have he : enforceTot false s = causesBecome (s.clamp.causes ||| 0x10) s := by
      simp only [enforceTot, htot, Bool.not_false, Bool.and_self, if_true]
      exact setCause_eq .totenf s
    exact (exec_of_runs (i := .totenf) rfl hp).trans (congrArg _ he)
  · intro h
    have htot : totReport s = false := by
      rw [← Bool.not_eq_true, totReport_iff]
      rintro ⟨hj, x, hx, -⟩
      rcases h with h | h
      · exact h hj
      · rw [h] at hx; cases hx
    have he : enforceTot false s = s := by simp [enforceTot, htot]
    exact (exec_of_runs (i := .totenf) rfl hp).trans (congrArg _ he)
  · intro hm hrun
    refine ⟨splitEvent s, exec_of_runs rfl (by simp [splitReaches, hp, hm, hrun, reaches]), ?_⟩
    rw [splitEvent_eq]
    refine ⟨?_, ?_, fun d =>
      holdingEndedAt_from (holdingEndedAt_endHoldings_self (by decide) (by decide) _ d) rfl⟩
    · rw [onlyDesks_endHoldings .split]
      rfl
    · rw [siteFlagSet, siteFlags_endHoldings]
      exact siteFlagSet_raiseSite .split _
  · intro d hr hst hrun hack
    have hlifts : barLifts d s = true := by
      simp only [hasState] at hst
      simp [barLifts, hr, barDone, hst, capAdd, hrun, hack]
    have he := barStep_lifts hst hrun hack
    exact (exec_of_runs (i := .barLifted d) rfl hlifts).trans (congrArg _ he)

end Sys2Proof

namespace Sys2Proof
open Machine

/-! ## What a frame start publishes for a desk (R40, R48, R53, R54) -/

/-! ### At a frame start the air sequencer ends no holding but that of the desk it serves -/

theorem endHolding_otherDesk {d e : Desk} (h : e ≠ d) (r : EndReason) (s : State) :
    getDesk (endHolding d r s) e = getDesk s e := by
  rw [getDesk_endHolding, if_neg fun hc => h hc.1]

section
variable {d e : Desk} (h : e ≠ d) (s : State)
include h

theorem starveFrame_otherDesk : getDesk (starveFrame d s) e = getDesk s e := by
  unfold starveFrame
  dsimp only
  split
  · exact endHolding_otherDesk h _ _
  · rfl

theorem drainFrame_otherDesk : getDesk (drainFrame d s) e = getDesk s e := endHolding_otherDesk h _ _

theorem voiceFrame_otherDesk : getDesk (voiceFrame d s) e = getDesk s e := by
  unfold voiceFrame
  split
  · rfl
  next p _ =>
    have hvoice : getDesk (markVoice d (decideField kindVoice false (scaleCell p.trim p.cell) false
        (releaseCells d p.queue s))) e = getDesk s e := getDesk_of_claims (by simp) e
    dsimp only
    split
    · exact (endHolding_otherDesk h _ _).trans hvoice
    · exact hvoice

theorem startFrame_otherDesk : getDesk (startFrame d s) e = getDesk s e := voiceFrame_otherDesk h _

theorem gapFrame_otherDesk : getDesk (gapFrame d s) e = getDesk s e := startFrame_otherDesk h _

theorem onDecide_otherDesk : getDesk (onDecide d s) e = getDesk s e := by
  unfold onDecide
  cases cellChoice s d with
  | playCell => exact voiceFrame_otherDesk h s
  | emptyQueue =>
    dsimp only
    split
    · exact drainFrame_otherDesk h s
    · exact starveFrame_otherDesk h s
  | startHead => exact startFrame_otherDesk h s
  | declareGap => exact gapFrame_otherDesk h s
  | waitForBlock => exact starveFrame_otherDesk h s

theorem primeDecide_otherDesk : getDesk (primeDecide d s) e = getDesk s e := by
  unfold primeDecide
  split
  · exact onDecide_otherDesk h _
  · exact starveFrame_otherDesk h s

end

theorem ne_of_serving {s : State} {d e : Desk} (h : s.air.serving ≠ some e) (hd : s.air.serving = some d) : e ≠ d := by
  rintro rfl
  exact h hd

section
variable {s : State} {e : Desk} (h : s.air.serving ≠ some e)
include h

theorem leaveIdent_otherDesk : getDesk (leaveIdent s) e = getDesk s e := by
  unfold leaveIdent
  dsimp only
  split
  · split
    · exact getDesk_of_claims (by simp) e
    · exact getDesk_of_claims (by simp) e
  · split
    next d hd => exact onDecide_otherDesk (ne_of_serving h hd) _
    next => exact getDesk_of_claims (by simp) e

theorem identDecide_otherDesk : getDesk (identDecide s) e = getDesk s e := by
  unfold identDecide
  split
  · exact getDesk_of_claims (by simp) e
  · exact leaveIdent_otherDesk h

theorem leadDecide_otherDesk : getDesk (leadDecide s) e = getDesk s e := by
  unfold leadDecide
  split
  · exact getDesk_of_claims (by simp) e
  · unfold leadEnds
    split
    · exact identDecide_otherDesk (s := (goState .ident s).setIdent _) h
    next d hd _ => exact primeDecide_otherDesk (ne_of_serving h hd) _
    · exact getDesk_of_claims (by simp) e

theorem airDecide_otherDesk : getDesk (airDecide s) e = getDesk s e := by
  unfold airDecide
  split
  · exact getDesk_of_claims (by simp) e
  · exact leadDecide_otherDesk h
  next d _ hd => exact primeDecide_otherDesk (ne_of_serving h hd) _
  next d _ hd => exact onDecide_otherDesk (ne_of_serving h hd) _
  · exact identDecide_otherDesk h
  all_goals exact getDesk_of_claims (by simp) e

theorem applyWithdrawal_serving : (applyWithdrawal s).air.serving ≠ some e := by
  unfold applyWithdrawal
  split
  · exact (nomatch ·)
  · exact h

theorem airFrame_otherDesk : getDesk (airFrame s) e = getDesk s e := by
  have hw := applyWithdrawal_serving h
  have hsame : getDesk (applyWithdrawal s) e = getDesk s e := getDesk_of_claims (by simp) e
  rw [← hsame]
  unfold airFrame
  dsimp only
  split
  · split
    · exact airDecide_otherDesk hw
    · exact getDesk_of_claims (by simp) e
  · unfold takeInterval
    split
    · exact identDecide_otherDesk (s := State.setIdent _ _) hw
    · exact airDecide_otherDesk (s := dropPendingIdent _) hw
  · unfold takeTailIdent
    split
    · exact getDesk_of_claims (by simp) e
    · exact airDecide_otherDesk (s := dropPendingIdent _) hw
  · exact airDecide_otherDesk hw

end

/-- OFF with nothing pending, the sequencer's frame start decides OFF and does nothing else. -/
theorem airFrame_off {s : State} (hoff : s.air.state = .off) (h : nothingPending s) : airFrame s = decideOff s := by
  obtain ⟨hstart, hident, hdue⟩ := h
  simp [airFrame, applyWithdrawal, hdue, hstart, hident, airDecide, hoff]

/-- What the air sequencer's frame start does to a desk: nothing, or it ends the holding of the desk it serves. -/
theorem getDesk_airFrame (s : State) (d : Desk) : getDesk (airFrame s) d = getDesk s d
    ∨ s.air.serving = some d ∧ hasState s d .holding ∧ ¬ (s.air.state = .off ∧ nothingPending s)
      ∧ ∃ r, getDesk (airFrame s) d = (getDesk s d).ended r := by
  by_cases hserve : s.air.serving = some d
  · by_cases hoff : s.air.state = .off ∧ nothingPending s
    · rw [airFrame_off hoff.1 hoff.2]
      exact .inl (getDesk_of_claims (by simp) d)
    · rcases (airStable_endedDesks s).keeps_airFrame (fun _ => .inl rfl) d with hsame | ⟨hhold, hended⟩
      · exact .inl hsame
      · exact .inr ⟨hserve, hhold, hoff, hended⟩
  · exact .inl (airFrame_otherDesk hserve)

theorem airStable_deskFlagSet (d : Desk) (f : DeskFlag) : AirStable fun t => deskFlagSet t d f where
  air _ _ h := h
  drives _ _ _ _ h := h
  pool _ _ h := h
  phase _ _ _ _ h := h
  flag _ e g h := deskFlagSet_raiseDesk_of e g h
  ending _ e r h := deskFlagSet_endHolding_of e r h

/-! ### The bar work, desk by desk -/

/-- R53, R54: what the bar work of a frame start makes of a desk. -/
def barDesk (coolOff : Nat) (o : OwnDesk) : OwnDesk :=
  if o.record.state = .barred then
    if coolOff ≤ o.barRun + 1 ∧ (o.record.reason ≠ .starved ∨ o.ack = true) then
      { o with record := { o.record with state := .idle }, barRun := min (o.barRun + 1) coolOff }
    else { o with barRun := min (o.barRun + 1) coolOff }
  else o

theorem barDesk_of_not {o : OwnDesk} (h : o.record.state ≠ .barred) (coolOff : Nat) : barDesk coolOff o = o := if_neg h

theorem barDesk_endPub (coolOff : Nat) (o : OwnDesk) : (barDesk coolOff o).endPub = o.endPub := by
  unfold barDesk
  split
  · split <;> rfl
  · rfl

theorem barDesk_goesOn {o : OwnDesk} (h : o.record.state = .barred) {coolOff : Nat}
    (hc : ¬ (coolOff ≤ o.barRun + 1 ∧ (o.record.reason ≠ .starved ∨ o.ack = true))) :
    barDesk coolOff o = { o with barRun := min (o.barRun + 1) coolOff } := by
  rw [barDesk, if_pos h, if_neg hc]

theorem barStep_goesOn {s : State} {d : Desk} (hst : hasState s d .barred)
    (hc : ¬ (s.setup.coolOff ≤ (getDesk s d).barRun + 1
      ∧ ((getDesk s d).record.reason ≠ .starved ∨ (getDesk s d).ack = true))) :
    barStep d s = setDesk s d { getDesk s d with barRun := min ((getDesk s d).barRun + 1) s.setup.coolOff } := by
  have hget (x : OwnDesk) : getDesk (setDesk s d x) d = x := by rw [getDesk_setDesk, if_pos rfl]
  have hdone : ¬ barDone (setDesk s d { getDesk s d with barRun := capAdd (getDesk s d).barRun 1 s.setup.coolOff })
      { getDesk s d with barRun := capAdd (getDesk s d).barRun 1 s.setup.coolOff } = true := by
    intro hdone
    simp only [barDone, capAdd, setDesk_frame, Bool.and_eq_true, Bool.or_eq_true, decide_eq_true_eq, bne_iff_ne] at hdone
    exact hc ⟨le_trans hdone.1.2 (min_le_left _ _), hdone.2⟩
  rw [barStep, if_pos hst, testBar, hget, if_neg hdone]
  rfl

theorem getDesk_raiseDesk (d e : Desk) (f : DeskFlag) (s : State) : getDesk (raiseDesk d f s) e = getDesk s e := rfl

theorem getDesk_barStep (d e : Desk) (s : State) :
    getDesk (barStep d s) e = if e = d then barDesk s.setup.coolOff (getDesk s d) else getDesk s e := by
  by_cases hst : hasState s d .barred
  · by_cases hc : s.setup.coolOff ≤ (getDesk s d).barRun + 1
      ∧ ((getDesk s d).record.reason ≠ .starved ∨ (getDesk s d).ack = true)
    · rw [barStep_lifts hst hc.1 hc.2, getDesk_raiseDesk, getDesk_setDesk, barDesk, if_pos hst, if_pos hc]
    · rw [barStep_goesOn hst hc, getDesk_setDesk, barDesk_goesOn hst hc]
  · rw [barDesk_of_not hst, barStep, if_neg hst]
    split
    next he => rw [he]
    next => rfl

theorem getDesk_barWork (before s : State) (d : Desk) : getDesk (barWork before s) d =
    if hasState before d .barred then barDesk s.setup.coolOff (getDesk s d) else getDesk s d := by
  refine getDesk_fold_of (I := fun t => t.setup = s.setup)
    (fun d s => if (getDesk before d).record.state = .barred then barStep d s else s)
    (fun d o => if hasState before d .barred then barDesk s.setup.coolOff o else o)
    (fun d t ht => ?_) (fun d e t ht => ?_) rfl d
  · split
    · exact (barStep_frame t d).2.1.trans ht
    · exact ht
  · by_cases hb : hasState before d .barred
    · rw [if_pos hb, if_pos hb, getDesk_barStep, ht]
    · rw [if_neg hb, if_neg hb]
      split
      next he => rw [he]
      next => rfl

theorem deskFlagSet_barWork {before s : State} {d : Desk} (hb : hasState before d .barred) (hst : hasState s d .barred)
    (hrun : s.setup.coolOff ≤ (getDesk s d).barRun + 1)
    (hack : (getDesk s d).record.reason ≠ .starved ∨ (getDesk s d).ack = true) :
    deskFlagSet (barWork before s) d .barLifted := by
  refine fold_reaches (P := fun t => deskFlagSet t d .barLifted)
    (Q := fun e t => getDesk t e = getDesk s e ∧ t.setup = s.setup ∧ e = d)
    (fun d s => if (getDesk before d).record.state = .barred then barStep d s else s) d
    (fun c t hcd ht => ?_) (fun t ht => ?_) (fun c t ht => ?_) ⟨rfl, rfl, rfl⟩
  · split
    · refine ⟨?_, (barStep_frame t c).2.1.trans ht.2.1, rfl⟩
      rw [getDesk_barStep, if_neg (Ne.symm hcd)]
      exact ht.1
    · exact ht
  · obtain ⟨hdesk, hsetup, -⟩ := ht
    rw [if_pos hb, barStep_lifts (by rw [hasState, hdesk]; exact hst) (by rw [hdesk, hsetup]; exact hrun)
      (by rw [hdesk]; exact hack)]
    exact deskFlagSet_raiseDesk d .barLifted _
  · split
    · unfold barStep testBar
      split
      · split
        · exact deskFlagSet_raiseDesk_of c .barLifted ht
        · exact ht
      · exact ht
    · exact ht

/-! ### Publication -/

theorem publish_pending {o : OwnDesk} {r : Record} (h : o.endPub = some r) (now : Count) :
    o.publish now = { o with published := r, endPub := none } := by
  rw [OwnDesk.publish, h]

theorem publish_unstamped {o : OwnDesk} (h : o.endPub = none) (hst : o.record.state = .waiting ∨ o.record.state = .holding)
    (hset : o.stampSet = false) (now : Count) : o.publish now = { o with
      record := { o.record with stamp := now }, stampSet := true, published := { o.record with stamp := now } } := by
  simp only [OwnDesk.publish, h, if_pos (And.intro hst hset)]

theorem publish_record {o : OwnDesk} (h : o.endPub = none)
    (hst : ¬ ((o.record.state = .waiting ∨ o.record.state = .holding) ∧ o.stampSet = false)) (now : Count) :
    o.publish now = { o with published := o.record } := by
  simp only [OwnDesk.publish, h, if_neg hst]

theorem publish_endPub (o : OwnDesk) (now : Count) : (o.publish now).endPub = none := by
  cases h : o.endPub with
  | some r => rw [publish_pending h]
  | none =>
    by_cases hst : (o.record.state = .waiting ∨ o.record.state = .holding) ∧ o.stampSet = false
    · rw [publish_unstamped h hst.1 hst.2]; exact h
    · rw [publish_record h hst]; exact h

/-- A holding or wait with no ended record waiting is published with its stamp, which stands then. -/
theorem publish_claim {o : OwnDesk} (h : o.endPub = none) (hst : o.record.state = .waiting ∨ o.record.state = .holding)
    (now : Count) : (o.publish now).published = (o.publish now).record ∧ (o.publish now).stampSet = true
      ∧ (o.publish now).record.state = o.record.state := by
  cases hset : o.stampSet with
  | false => rw [publish_unstamped h hst hset]; exact ⟨rfl, rfl, rfl⟩
  | true => rw [publish_record h (by simp [hset])]; exact ⟨rfl, hset, rfl⟩

/-! ### The frame start -/

/-- The frame timing's part of a frame start that does not enter HUNT. -/
theorem timingStage_kept {s : State} (h : ¬ (s.sync.state = .holdover
    ∧ 4 + 2 * s.setup.station.val ≤ s.sync.holdoverRun + 1 ∧ s.member.join ≠ .member)) :
    (timingStage s).claims = s.claims ∧ (timingStage s).air = s.air ∧ ownCount (timingStage s) = nextCount s := by
  have hcount (u : State) (hu : ownCount u = nextCount s) : ownCount (enterTiming u) = nextCount s := by
    rw [ownCount, (timingEntered_enterTiming u).1]
    exact hu
  unfold timingStage
  dsimp only
  split
  · unfold huntStep
    dsimp only
    split
    · exact ⟨by simp, by simp, hcount _ rfl⟩
    · exact ⟨rfl, rfl, rfl⟩
  next hhold =>
    unfold holdoverStep
    dsimp only
    split
    next hlimit =>
      split
      · exact ⟨by simp, by simp, hcount _ rfl⟩
      next hm => exact absurd ⟨hhold, hlimit, hm⟩ h
    next => exact ⟨rfl, rfl, rfl⟩
  all_goals exact ⟨rfl, rfl, rfl⟩

/-- R48: the desk after a frame start at which its holding ends, in the order taken. -/
def endedAtFrameStart (reportFirst : Bool) (now : Count) (r : EndReason) (o : OwnDesk) : OwnDesk :=
  if reportFirst then (o.ended r).publish now else (o.publish now).ended r

/-- R40, R48, R53: a desk after the claim table's and the air sequencer's work. -/
theorem getDesk_claimsAndAir (b : Bool) (s : State) (d : Desk) :
    getDesk (claimsAndAir b s) d = (barDesk s.setup.coolOff (getDesk s d)).publish (ownCount s)
    ∨ s.air.serving = some d ∧ hasState s d .holding ∧ ¬ (s.air.state = .off ∧ nothingPending s)
      ∧ ∃ r, getDesk (claimsAndAir b s) d = endedAtFrameStart b (ownCount s) r (getDesk s d) := by
  have hbar (o : OwnDesk) : (if hasState s d .barred then barDesk s.setup.coolOff (getDesk s d) else getDesk s d)
      = barDesk s.setup.coolOff (getDesk s d) := by
    split
    · rfl
    next h => rw [barDesk_of_not h]
  cases b with
  | false =>
    have hpub : getDesk (publishAll (barWork s s)) d = (barDesk s.setup.coolOff (getDesk s d)).publish (ownCount s) := by
      rw [getDesk_publishAll, getDesk_barWork, hbar (getDesk s d)]
      simp [ownCount]
    have hair : (publishAll (barWork s s)).air = s.air := by simp
    rcases getDesk_airFrame (publishAll (barWork s s)) d with hsame | ⟨hserve, hhold, hoff, r, hended⟩
    · exact .inl (hsame.trans hpub)
    · rw [hasState, hpub, publish_state] at hhold
      have hst : hasState s d .holding := by
        by_contra hne
        unfold barDesk at hhold
        split at hhold
        next hb => split at hhold <;> simp [hb] at hhold
        next => exact hne hhold
      have hnot : barDesk s.setup.coolOff (getDesk s d) = getDesk s d := barDesk_of_not (by rw [hst]; decide) _
      refine .inr ⟨by rw [← hair]; exact hserve, hst, ?_, r, ?_⟩
      · rw [nothingPending, hair] at hoff; exact hoff
      · exact hended.trans (by rw [hpub, hnot]; rfl)
  | true =>
    have hpub : getDesk (claimsAndAir true s) d = (if hasState s d .barred then
        barDesk s.setup.coolOff (getDesk (airFrame s) d) else getDesk (airFrame s) d).publish (ownCount s) := by
      have e : claimsAndAir true s = publishAll (barWork s (airFrame s)) := rfl
      rw [e, getDesk_publishAll, getDesk_barWork]
      simp [ownCount]
    rcases getDesk_airFrame s d with hsame | ⟨hserve, hhold, hoff, r, hended⟩
    · rw [hsame, hbar (getDesk s d)] at hpub
      exact .inl hpub
    · have hnot : ¬ hasState s d .barred := by rw [hasState, hhold]; decide
      rw [if_neg hnot, hended] at hpub
      exact .inr ⟨hserve, hhold, hoff, r, hpub⟩

theorem deskFlagSet_claimsAndAir (b : Bool) {s : State} {d : Desk} (hst : hasState s d .barred)
    (hrun : s.setup.coolOff ≤ (getDesk s d).barRun + 1)
    (hack : (getDesk s d).record.reason ≠ .starved ∨ (getDesk s d).ack = true) :
    deskFlagSet (claimsAndAir b s) d .barLifted := by
  cases b with
  | false => exact (airStable_deskFlagSet d .barLifted).keeps_airFrame (deskFlagSet_barWork hst hst hrun hack)
  | true =>
    have hsame : getDesk (airFrame s) d = getDesk s d := by
      rcases getDesk_airFrame s d with hsame | ⟨-, hhold, -⟩
      · exact hsame
      · rw [hasState, hst] at hhold; cases hhold
    exact deskFlagSet_barWork (s := airFrame s) hst (by rw [hasState, hsame]; exact hst)
      (by rw [hsame, (airFrame_frame s).2.1]; exact hrun) (by rw [hsame]; exact hack)

/-- Up to the latches, which leave the claim table and the link, a frame start is the work of `claimsAndAir` on the runs of the
frame, on the desks and the air sequencer as they stood, at the next count. -/
theorem frameStarts_eq {s : State} (h : ¬ (s.sync.state = .holdover
    ∧ 4 + 2 * s.setup.station.val ≤ s.sync.holdoverRun + 1 ∧ s.member.join ≠ .member)) (b : Bool) :
    ∃ u, frameStarts b s = latchFrame (claimsAndAir b u) ∧ u.claims = s.claims ∧ u.air = s.air ∧ u.setup = s.setup
      ∧ ownCount u = nextCount s := by
  obtain ⟨hclaims, hair, hcount⟩ := timingStage_kept h
  refine ⟨runsCounted (timingStage s), rfl, ?_, ?_, ?_, ?_⟩
  · rw [← hclaims]; simp [runsCounted]
  · rw [← hair]; simp [runsCounted]
  · simp [runsCounted]
  · rw [← hcount]; simp [runsCounted, ownCount]

/-- A frame start, as the desk d sees it. -/
theorem frameStart_desk {s : State} (h : ¬ (s.sync.state = .holdover
    ∧ 4 + 2 * s.setup.station.val ≤ s.sync.holdoverRun + 1 ∧ s.member.join ≠ .member)) (b : Bool) (d : Desk) :
    (getDesk (frameStarts b s) d = (barDesk s.setup.coolOff (getDesk s d)).publish (nextCount s)
      ∨ s.air.serving = some d ∧ hasState s d .holding ∧ ¬ (s.air.state = .off ∧ nothingPending s)
        ∧ ∃ r, getDesk (frameStarts b s) d = endedAtFrameStart b (nextCount s) r (getDesk s d))
    ∧ (hasState s d .barred → s.setup.coolOff ≤ (getDesk s d).barRun + 1 →
      ((getDesk s d).record.reason ≠ .starved ∨ (getDesk s d).ack = true) →
      deskFlagSet (frameStarts b s) d .barLifted) := by
  obtain ⟨u, hu, hclaims, hair, hsetup, hcount⟩ := frameStarts_eq h b
  have hdesk : getDesk u d = getDesk s d := getDesk_of_claims hclaims d
  rw [hu]
  refine ⟨?_, fun hst hrun hack => ?_⟩
  · have hlatch : getDesk (latchFrame (claimsAndAir b u)) d = getDesk (claimsAndAir b u) d := getDesk_of_claims (by simp) d
    have hwork := getDesk_claimsAndAir b u d
    rw [hasState, nothingPending, hdesk, hair, hsetup, hcount] at hwork
    rw [hlatch]
    exact hwork
  · exact deskFlagSet_claimsAndAir b (s := u) (by rw [hasState, hdesk]; exact hst)
      (by rw [hdesk, hsetup]; exact hrun) (by rw [hdesk]; exact hack)

/-! ### The published record, case by case -/

section
variable {o x : OwnDesk} {now : Count} {coolOff : Nat} {r : EndReason}

theorem endedAtFrameStart_pending {p : Record} (h : o.endPub = some p) (b : Bool) :
    (endedAtFrameStart b now r o).published = p := by
  cases b with
  | false => exact congrArg OwnDesk.published (publish_pending h now)
  | true =>
    have hend : (o.ended r).endPub = some p := by simp [OwnDesk.ended, fillEnd, h]
    exact congrArg OwnDesk.published (publish_pending hend now)

/-- A desk that neither waits nor holds is published as it stands. -/
theorem publish_resting (h : o.endPub = none) (hw : o.record.state ≠ .waiting) (hh : o.record.state ≠ .holding) :
    o.publish now = { o with published := o.record } :=
  publish_record h (fun hc => hc.1.elim hw hh) now

/-- R53: a bar that goes on. -/
theorem publish_barDesk_goesOn (h : o.endPub = none) (hst : o.record.state = .barred)
    (hc : ¬ (coolOff ≤ o.barRun + 1 ∧ (o.record.reason ≠ .starved ∨ o.ack = true))) :
    (barDesk coolOff o).publish now = { o with barRun := min (o.barRun + 1) coolOff, published := o.record } := by
  rw [barDesk_goesOn hst hc]
  exact publish_resting (o := { o with barRun := min (o.barRun + 1) coolOff }) h (by simp [hst]) (by simp [hst])

/-- R54: a bar that is lifted. -/
theorem publish_barDesk_lifted (h : o.endPub = none) (hst : o.record.state = .barred)
    (hc : coolOff ≤ o.barRun + 1 ∧ (o.record.reason ≠ .starved ∨ o.ack = true)) :
    (barDesk coolOff o).publish now = { o with
      record := { o.record with state := .idle }, barRun := min (o.barRun + 1) coolOff
      published := { o.record with state := .idle } } := by
  rw [barDesk, if_pos hst, if_pos hc]
  exact publish_resting (o := { o with
    record := { o.record with state := .idle }, barRun := min (o.barRun + 1) coolOff }) h (nomatch ·) (nomatch ·)

/-- R48: with the report first the ended record is published at once. -/
theorem endedAtFrameStart_first (h : o.endPub = none) :
    (endedAtFrameStart true now r o).published = (endedAtFrameStart true now r o).record
    ∧ (endedAtFrameStart true now r o).endPub = none
    ∧ (endedAtFrameStart true now r o).record.state ≠ .holding := by
  have hend : (o.ended r).endPub = some (o.ended r).record := by simp [OwnDesk.ended, fillEnd, h]
  have e : endedAtFrameStart true now r o = { o.ended r with published := (o.ended r).record, endPub := none } :=
    publish_pending hend now
  rw [e]
  exact ⟨rfl, rfl, (stateAfter_closed r).1⟩

/-- R48: with the publication first the desk is published as HOLDING, and the ended record waits. -/
theorem endedAtFrameStart_last (h : o.endPub = none) (hst : o.record.state = .holding) :
    (endedAtFrameStart false now r o).published.state = .holding
    ∧ (endedAtFrameStart false now r o).endPub = some (endedAtFrameStart false now r o).record := by
  obtain ⟨hpub, -, hstate⟩ := publish_claim h (.inr hst) now
  refine ⟨?_, ?_⟩
  · have e : (endedAtFrameStart false now r o).published = (o.publish now).published := rfl
    rw [e, hpub, hstate, hst]
  · simp [endedAtFrameStart, OwnDesk.ended, fillEnd, publish_endPub]

end

/-- Settles O30: the desk after the frame start is the published desk of the bar work, or the served desk ended in one of the two
orders, and each case of the statement reads it off. -/
theorem frameStartPublishesRecords : Obligations.FrameStartPublishesRecords := by
  intro s b d hruns hwait
  obtain ⟨hdesk, hlifted⟩ := frameStart_desk hwait b d
  refine ⟨frameStarts b s, exec_frameStart_of_runs hruns b, fun p hp => ?_, fun hb hnone => ?_, fun hst hnone =>
    ⟨fun hb hh => ?_, fun hb hh => ?_, fun hb hh => ?_⟩, fun hoff hnothing => ?_⟩
  · rcases hdesk with e | ⟨-, -, -, r, e⟩ <;> rw [e]
    · rw [publish_pending (by rw [barDesk_endPub]; exact hp)]
    · exact endedAtFrameStart_pending hp b
  · have hpub : (getDesk (frameStarts b s) d).published
        = ((barDesk s.setup.coolOff (getDesk s d)).publish (nextCount s)).published
        ∧ (getDesk (frameStarts b s) d).stampSet
        = ((barDesk s.setup.coolOff (getDesk s d)).publish (nextCount s)).stampSet
        ∧ (¬ hasState s d .holding →
          getDesk (frameStarts b s) d = (barDesk s.setup.coolOff (getDesk s d)).publish (nextCount s)) := by
      rcases hdesk with e | ⟨hserve, hhold, -, r, e⟩
      · exact ⟨by rw [e], by rw [e], fun _ => e⟩
      · have hbar : barDesk s.setup.coolOff (getDesk s d) = getDesk s d := barDesk_of_not (by rw [hhold]; decide) _
        obtain rfl : b = false := hb.resolve_right fun hc => hc hserve
        rw [hbar, e]
        exact ⟨rfl, rfl, fun hc => absurd hhold hc⟩
    obtain ⟨hpub, hset, hwhole⟩ := hpub
    have hbar (hst : (getDesk s d).record.state ≠ .barred) : barDesk s.setup.coolOff (getDesk s d) = getDesk s d :=
      barDesk_of_not hst _
    have hrest (hst : hasState s d .barred) := hwhole (by rw [hasState, hst]; decide)
    refine ⟨fun hst hstamp => ?_, fun hst hstamp => ?_, fun hst => ?_, fun hst hrun => ?_, fun hst _ hreason hack => ?_,
      fun hst hrun hack => ?_⟩
    · rw [hpub, hset, hbar (by rcases hst with hst | hst <;> rw [hst] <;> decide), publish_unstamped hnone hst hstamp]
      exact ⟨rfl, rfl⟩
    · rw [hpub, hbar (by rcases hst with hst | hst <;> rw [hst] <;> decide), publish_record hnone (by simp [hstamp])]
    · rw [hpub, hbar (by rcases hst with hst | hst <;> rw [hst] <;> decide),
        publish_resting hnone (by rcases hst with hst | hst <;> rw [hst] <;> decide)
          (by rcases hst with hst | hst <;> rw [hst] <;> decide)]
    · rw [hrest hst, publish_barDesk_goesOn hnone hst fun hc => by omega]
      exact ⟨rfl, by simp only; omega⟩
    · rw [hrest hst, publish_barDesk_goesOn hnone hst fun hc => by simp [hreason, hack] at hc]
    · rw [hrest hst, publish_barDesk_lifted hnone hst ⟨hrun, hack⟩]
      exact ⟨rfl, rfl, hlifted hst hrun hack⟩
  · subst hb
    rcases hdesk with e | ⟨-, -, -, r, e⟩
    · rw [e, barDesk_of_not (by rw [hst]; decide)]
      obtain ⟨hpub, hset, -⟩ := publish_claim hnone (.inr hst) (nextCount s)
      exact ⟨hpub, hset⟩
    · rw [hasState, e] at hh
      exact absurd hh (endedAtFrameStart_first hnone).2.2
  · subst hb
    rcases hdesk with e | ⟨-, -, -, r, e⟩
    · rw [hasState, e, barDesk_of_not (by rw [hst]; decide), publish_state] at hh
      exact absurd hst hh
    · rw [e]
      obtain ⟨hpub, hend, -⟩ := endedAtFrameStart_first (now := nextCount s) (r := r) hnone
      exact ⟨hpub, hend⟩
  · subst hb
    rcases hdesk with e | ⟨-, -, -, r, e⟩
    · rw [hasState, e, barDesk_of_not (by rw [hst]; decide), publish_state] at hh
      exact absurd hst hh
    · rw [e]
      exact endedAtFrameStart_last hnone hst
  · rcases hdesk with e | ⟨-, -, hair, -⟩
    · rw [e, publish_endPub]
    · exact absurd ⟨hoff, hnothing⟩ hair

end Sys2Proof

namespace Sys2Proof
open Machine

/-! ## Floor order, the holder and the waiting list (R58, R63, R64) -/

/-! ### Floor order is a strict order, total on desks -/

/-- R63: the four keys, in their order. -/
theorem floorBefore_iff (now : Count) (a b : Seat) : floorBefore now a b = true ↔
    a.record.cls = .control ∧ b.record.cls = .normal
    ∨ a.record.cls = b.record.cls ∧ (age now b.record.stamp < age now a.record.stamp
      ∨ age now a.record.stamp = age now b.record.stamp
        ∧ (a.station < b.station ∨ a.station = b.station ∧ a.desk < b.desk)) := by
  unfold floorBefore
  split
  next hcls => cases ha : a.record.cls <;> cases hb : b.record.cls <;> simp_all
  next hcls =>
    have hcls := not_not.mp hcls
    have hnot : ¬ (a.record.cls = .control ∧ b.record.cls = .normal) := by
      rintro ⟨ha, hb⟩
      rw [ha, hb] at hcls
      cases hcls
    rw [or_iff_right hnot]
    split
    next hage => simp [hcls, hage]
    next hage =>
      have hage := not_not.mp hage
      split
      next hst => simp [hcls, hage, hst]
      next hst => simp [hcls, hage, not_not.mp hst]

theorem floorBefore_trans {now : Count} {a b c : Seat} (hab : floorBefore now a b = true)
    (hbc : floorBefore now b c = true) : floorBefore now a c = true := by
  rw [floorBefore_iff] at *
  rcases hab with ⟨ha, hb⟩ | ⟨hab, h1⟩ <;> rcases hbc with ⟨hb', hc⟩ | ⟨hbc, h2⟩
  · exact .inl ⟨ha, hc⟩
  · exact .inl ⟨ha, hbc ▸ hb⟩
  · exact .inl ⟨hab.trans hb', hc⟩
  · refine .inr ⟨hab.trans hbc, ?_⟩
    simp only [Fin.lt_def, Fin.ext_iff] at *
    omega

theorem floorBefore_total {now : Count} {a b : Seat} (h : seatName a ≠ seatName b) :
    floorBefore now a b = true ∨ floorBefore now b a = true := by
  have hne : ¬ (a.station = b.station ∧ a.desk = b.desk) := fun hc => h (Prod.ext hc.1 hc.2)
  rw [floorBefore_iff, floorBefore_iff]
  by_cases hcls : a.record.cls = b.record.cls
  · have hkeys : age now b.record.stamp < age now a.record.stamp
          ∨ age now a.record.stamp = age now b.record.stamp
            ∧ (a.station < b.station ∨ a.station = b.station ∧ a.desk < b.desk)
        ∨ age now a.record.stamp < age now b.record.stamp
          ∨ age now b.record.stamp = age now a.record.stamp
            ∧ (b.station < a.station ∨ b.station = a.station ∧ b.desk < a.desk) := by
      simp only [Fin.lt_def, Fin.ext_iff] at *
      omega
    rcases hkeys with h | h | h | h
    · exact .inl (.inr ⟨hcls, .inl h⟩)
    · exact .inl (.inr ⟨hcls, .inr h⟩)
    · exact .inr (.inr ⟨hcls.symm, .inl h⟩)
    · exact .inr (.inr ⟨hcls.symm, .inr h⟩)
  · cases ha : a.record.cls <;> cases hb : b.record.cls <;> simp_all

/-! ### Sorting in floor order -/

theorem mem_insertSeat (now : Count) (x y : Seat) (ys : List Seat) : y ∈ insertSeat now x ys ↔ y = x ∨ y ∈ ys := by
  induction ys with
  | nil => simp [insertSeat]
  | cons z zs ih =>
    unfold insertSeat
    split
    · simp
    · rw [List.mem_cons, ih, List.mem_cons]
      exact or_left_comm

theorem mem_floorSort (now : Count) (y : Seat) (xs : List Seat) : y ∈ floorSort now xs ↔ y ∈ xs := by
  induction xs with
  | nil => rfl
  | cons x xs ih => rw [floorSort, List.foldr_cons, mem_insertSeat, List.mem_cons, ← ih]; rfl

theorem pairwise_insertSeat {now : Count} {x : Seat} {ys : List Seat} (hx : ∀ y ∈ ys, seatName x ≠ seatName y)
    (h : ys.Pairwise fun a b => floorBefore now a b = true) :
    (insertSeat now x ys).Pairwise fun a b => floorBefore now a b = true := by
  induction ys with
  | nil => exact List.pairwise_singleton _ _
  | cons y ys ih =>
    obtain ⟨hy, hys⟩ := List.pairwise_cons.mp h
    unfold insertSeat
    split
    next hb =>
      refine List.pairwise_cons.mpr ⟨fun z hz => ?_, h⟩
      rcases List.mem_cons.mp hz with rfl | hz
      · exact hb
      · exact floorBefore_trans hb (hy z hz)
    next hb =>
      refine List.pairwise_cons.mpr ⟨fun z hz => ?_, ih (fun z hz => hx z (List.mem_cons_of_mem _ hz)) hys⟩
      rcases (mem_insertSeat now x z ys).mp hz with rfl | hz
      · exact (floorBefore_total (hx y List.mem_cons_self)).resolve_left hb
      · exact hy z hz

/-- Seats of different desks are sorted in floor order. -/
theorem pairwise_floorSort {now : Count} {xs : List Seat} (h : xs.Pairwise fun a b => seatName a ≠ seatName b) :
    (floorSort now xs).Pairwise fun a b => floorBefore now a b = true := by
  induction xs with
  | nil => exact .nil
  | cons x xs ih =>
    obtain ⟨hx, hxs⟩ := List.pairwise_cons.mp h
    exact pairwise_insertSeat (fun y hy => hx y ((mem_floorSort now y xs).mp hy)) (ih hxs)

/-! ### The seats of a set of records -/

/-- The 32 desks of a site, in ascending order of station and desk. -/
def allSeats : List (Station × Desk) := allStations.flatMap fun k => allDesks.map fun d => (k, d)

/-- The seat of a desk in a set of records. -/
def seatOf (r : Records) (x : Station × Desk) : Seat := ⟨x.1, x.2, (r.get x.1).get x.2⟩

theorem mem_allSeats (x : Station × Desk) : x ∈ allSeats :=
  List.mem_flatMap.mpr ⟨x.1, mem_allStations _, List.mem_map.mpr ⟨x.2, mem_allDesks _, rfl⟩⟩

theorem seats_eq (r : Records) : seats r = allSeats.map (seatOf r) := by
  simp only [seats, rowSeats, allSeats, List.map_flatMap, List.map_map]
  rfl

theorem mem_seats (r : Records) (x : Seat) : x ∈ seats r ↔ x.record = (r.get x.station).get x.desk := by
  rw [seats_eq, List.mem_map]
  constructor
  · rintro ⟨y, -, rfl⟩
    rfl
  · intro h
    exact ⟨(x.station, x.desk), mem_allSeats _, by rw [seatOf, ← h]⟩

theorem pairwise_seats (r : Records) : (seats r).Pairwise fun a b => seatName a ≠ seatName b := by
  rw [seats_eq, List.pairwise_map]
  have hnodup : allSeats.Nodup := by decide
  exact hnodup

theorem mem_inState (now : Count) (st : RecState) (r : Records) (x : Seat) :
    x ∈ inState now st r ↔ x.record = (r.get x.station).get x.desk ∧ x.record.state = st := by
  rw [inState, mem_floorSort, List.mem_filter, mem_seats, beq_iff_eq]

theorem pairwise_inState (now : Count) (st : RecState) (r : Records) :
    (inState now st r).Pairwise fun a b => floorBefore now a b = true :=
  pairwise_floorSort ((pairwise_seats r).filter _)

/-! ### The holder (R58, R64) -/

theorem holderOf_none {now : Count} {r : Records} (h : holderOf now r = none) (k : Station) (d : Desk) :
    ¬ holdsFloor r k d := by
  intro hd
  have hmem : seatOf r (k, d) ∈ inState now .holding r := (mem_inState ..).mpr ⟨rfl, hd⟩
  rw [List.head?_eq_none_iff.mp h] at hmem
  cases hmem

/-- R64: the holder is HOLDING, and first in floor order of those that are. -/
theorem holderOf_some {now : Count} {r : Records} {w : Seat} (h : holderOf now r = some w) :
    w = seatOf r (seatName w) ∧ holdsFloor r w.station w.desk ∧ ∀ k d, holdsFloor r k d →
      (w.station, w.desk) = (k, d) ∨ floorBefore now w (seatOf r (k, d)) = true := by
  obtain ⟨rest, hlist⟩ := List.head?_eq_some_iff.mp h
  have hsorted := pairwise_inState now .holding r
  have hmem := fun x => mem_inState now .holding r x
  rw [hlist] at hsorted hmem
  obtain ⟨hrec, hst⟩ := (hmem w).mp List.mem_cons_self
  refine ⟨?_, ?_, fun k d hd => ?_⟩
  · rw [seatOf, seatName, ← hrec]
  · rw [holdsFloor, ← hrec, hst]
  · rcases List.mem_cons.mp ((hmem (seatOf r (k, d))).mpr ⟨rfl, hd⟩) with hw | hrest
    · exact .inl (by rw [← hw]; rfl)
    · exact .inr ((List.pairwise_cons.mp hsorted).1 _ hrest)

/-! ### Double holdings (R58) -/

/-- R58: a record HOLDING that is not the holder's is replaced. -/
theorem get_resolve (now : Count) (r : Records) (k : Station) (d : Desk) : ((resolve now r).get k).get d =
    if ((r.get k).get d).state = .holding ∧ (holderOf now r).map seatName ≠ some (k, d) then splitRecord ((r.get k).get d)
    else (r.get k).get d := by
  unfold resolve
  cases hw : holderOf now r with
  | none =>
    have hno := holderOf_none hw k d
    rw [holdsFloor] at hno
    simp [hno]
  | some w =>
    have hname : some (seatName w) ≠ some (k, d) ↔ ¬ (k = w.station ∧ d = w.desk) := by
      simp [seatName, eq_comm]
    simp only [Eight.get_mapIdx, Four.get_mapIdx, Option.map_some, hname]

end Sys2Proof

namespace Sys2Proof
open Machine

/-! ## Snapshot complete with no fence in the way (R57 to R61, R158, R159) -/

/-! ### The stages of a snapshot complete -/

/-- The state whose snapshot is formed: the fence run of the frame is counted and the digest agreement is tested. -/
def testedState (s : State) : State := digestTest (putFenceRun (fenceRunNext s) s)

/-- R57: the records of the frame's snapshot, before R58. -/
def formedRecords (s : State) : Records := formRecords (testedState s)

/-- R58: the records of the frame's snapshot. -/
def keptRecords (s : State) : Records := resolve (ownCount (testedState s)) (formedRecords s)

/-- R57 stage 2: the snapshot is formed. -/
def formedState (s : State) : State := formSnapshot (formedRecords s) (keptRecords s) (testedState s)

/-- R57 stages 2 to 4: after the hand-off and the view digest. -/
def digestedState (s : State) : State := computeDigest (handOff (formedRecords s) (keptRecords s) (formedState s))

/-- R57 stage 5, R65, R128, R143: the work that follows the digest; the identification unit may go first. -/
def decidedState (identFirst : Bool) (s : State) : State :=
  orphanStep (if identFirst then floorDecisions false (identWork (expireWaits s))
    else identWork (floorDecisions false (expireWaits s)))

theorem decided_identLast (s : State) :
    decidedState false s = orphanStep (identWork (floorDecisions false (expireWaits s))) := by
  rw [decidedState, if_neg Bool.false_ne_true]

theorem decided_identFirst (s : State) :
    decidedState true s = orphanStep (floorDecisions false (identWork (expireWaits s))) := by
  rw [decidedState, if_pos rfl]

theorem fenceReported_of_noFence {s : State} (h : noFence s) : fenceReported s = false := by
  rw [← Bool.not_eq_true]
  intro hf
  simp only [fenceReported, Bool.and_eq_true, beq_iff_eq, decide_eq_true_iff] at hf
  exact h ⟨hf.1.1.2, by omega⟩

theorem exec_snapshotComplete {s : State} (hp : pointsRun s = true) (h : noFence s) (o : FenceOrder) (b : Bool) :
    exec (.snapshotComplete o b) s = .next (decidedState b (digestedState s)) := by
  have hwork : snapshotWork o b s = decidedState b (digestedState s) := by
    simp only [snapshotWork, fenceReported_of_noFence h, snapshotAndIdent]
    rfl
  rw [← hwork]
  exact exec_of_runs (i := .snapshotComplete o b) rfl hp

/-! ### The work after the digest -/

/-- Two air sequencers serve the same desk in the same way. -/
structure ServesAlike (a b : Air) : Prop where
  serving : b.serving = a.serving
  state : b.state = a.state
  tailRun : b.tailRun = a.tailRun
  holdingEnded : b.holdingEnded = a.holdingEnded

theorem ServesAlike.refl (a : Air) : ServesAlike a a := ⟨rfl, rfl, rfl, rfl⟩

/-- From t to u claims, history and desk flags stand, no site flag is lowered, and the air sequencer serves alike. -/
structure ClaimsStand (t u : State) : Prop where
  claims : u.claims = t.claims
  history : u.history = t.history
  deskFlags : u.link.deskFlags = t.link.deskFlags
  siteFlags : ∀ f, siteFlagSet t f → siteFlagSet u f
  air : ServesAlike t.air u.air

/-- What the work after the digest keeps: what stands with claims and history, and under the actions on a desk. -/
structure DecisionsKeep (P : State → Prop) : Prop where
  stands : ∀ {t u}, ClaimsStand t u → P t → P u
  verdict : ∀ {t}, P t → P (setVerdict t)
  ending : ∀ {t} d r, P t → P (endHolding d r t)
  withdrawal : ∀ {t} d r, P t → P (withdraw d r t)
  grant : ∀ {t} d, P t → P (grantDesk d t)

theorem deskFlags_setCause (c : Cause) (s : State) : (setCause c s).link.deskFlags = s.link.deskFlags := by
  unfold setCause putCauses
  split
  · rfl
  · rfl

theorem siteFlagSet_setCause_of (c : Cause) {s : State} {f : SiteFlag} (h : siteFlagSet s f) :
    siteFlagSet (setCause c s) f := by
  unfold setCause putCauses
  split
  · exact h
  · exact siteFlagSet_raiseSite_of .clampChange h

theorem claimsStand_setCause (c : Cause) (s : State) : ClaimsStand s (setCause c s) :=
  ⟨by simp, by simp, deskFlags_setCause c s, fun _ h => siteFlagSet_setCause_of c h, by simpa using .refl _⟩

theorem ClaimsStand.refl (s : State) : ClaimsStand s s := ⟨rfl, rfl, rfl, fun _ h => h, .refl _⟩

theorem claimsStand_enforceTot (fenceNow : Bool) (s : State) : ClaimsStand s (enforceTot fenceNow s) := by
  unfold enforceTot
  split
  · exact claimsStand_setCause .totenf s
  · exact .refl s

theorem claimsStand_orphanStep (s : State) : ClaimsStand s (orphanStep s) := by
  have hrun (n : Nat) : ClaimsStand s (s.setClamp { s.clamp with orphanRun := n }) := ⟨rfl, rfl, rfl, fun _ h => h, .refl _⟩
  unfold orphanStep
  dsimp only
  split
  · exact hrun 0
  split
  · exact .refl s
  split
  · split
    · obtain ⟨hclaims, hhistory, hdesk, hsite, hair⟩ := claimsStand_setCause .orphan
        (s.setClamp { s.clamp with orphanRun := capAdd s.clamp.orphanRun 1 (orphanLimit s) })
      exact ⟨hclaims, hhistory, hdesk, hsite, hair⟩
    · exact hrun _
  · exact hrun 0

/-- The identification unit gives and withdraws orders; the desk on the air is served as before. -/
theorem servesAlike_identWork (s : State) : ServesAlike s.air (identWork s).air := by
  have htail : ServesAlike s.air (considerTail (tailWaitStep s)).air := by
    have hwait : (tailWaitStep s).air = s.air := by simp
    have horder (u : State) : ServesAlike u.air (orderTail u).air := by
      unfold orderTail
      split
      · exact ⟨rfl, rfl, rfl, rfl⟩
      · exact .refl _
    unfold considerTail
    dsimp only
    rw [← hwait]
    split
    · split
      · exact horder ((tailWaitStep s).setIdent
          { (tailWaitStep s).ident with choice := chooseStation (tailWaitStep s) })
      · exact .refl _
    · exact .refl _
  obtain ⟨hserving, hstate, hrun, hended⟩ := htail
  unfold identWork withdrawTail
  split
  · split
    all_goals exact ⟨hserving, hstate, hrun, hended⟩
  · exact ⟨hserving, hstate, hrun, hended⟩

theorem claimsStand_identWork (s : State) : ClaimsStand s (identWork s) :=
  ⟨by simp, by simp, by simp, fun _ h => by simpa [siteFlagSet] using h, servesAlike_identWork s⟩

section
variable {P : State → Prop} (h : DecisionsKeep P)
include h

theorem DecisionsKeep.keeps_expireWaits {s : State} (hs : P s) : P (expireWaits s) :=
  fold_preserves (P := P)
    (fun d s => if ageAtLeast (deskAge s (getDesk s d)) s.setup.maxWait then withdraw d .waitExpired s else s)
    (fun d t ht => by
      split
      · exact h.withdrawal d _ ht
      · exact ht) hs

theorem DecisionsKeep.keeps_endReplaced {s : State} (hs : P s) (f g : Records) : P (endReplaced f g s) :=
  fold_preserves (P := P) (fun d s => if replacedAt f g (ownStation s) d then endHolding d .split s else s)
    (fun d t ht => by
      split
      · exact h.ending d _ ht
      · exact ht) hs

theorem DecisionsKeep.keeps_endingsDecided {s : State} (hs : P s) (fenceNow : Bool) : P (endingsDecided fenceNow s) := by
  have hlimit : P (applyTimeLimit (setVerdict s)) := fold_preserves (P := P)
    (fun d s => if ageAtLeast (deskAge s (getDesk s d)) s.setup.totLimit then endHolding d .timeout s else s)
    (fun d t ht => by
      split
      · exact h.ending d _ ht
      · exact ht) (h.verdict hs)
  have hsplit : P (releaseSplit (enforceTot fenceNow (applyTimeLimit (setVerdict s)))) := by
    have htot := h.stands (claimsStand_enforceTot fenceNow _) hlimit
    unfold releaseSplit
    split
    · exact fold_preserves (P := P) (fun d s => endHolding d .split s) (fun d _ ht => h.ending d _ ht) htot
    · exact htot
  unfold endingsDecided preempt
  split
  · exact h.ending _ _ hsplit
  · exact hsplit

theorem DecisionsKeep.keeps_floorDecisions {s : State} (hs : P s) (fenceNow : Bool) : P (floorDecisions fenceNow s) := by
  have hended := h.keeps_endingsDecided hs fenceNow
  rw [floorDecisions_eq]
  unfold grantStep
  split
  · split
    · exact h.grant _ hended
    · exact hended
  · exact hended

/-- What the single actions keep, the work after the digest keeps, in either order. -/
theorem DecisionsKeep.keeps_decided {s : State} (hs : P s) (identFirst : Bool) : P (decidedState identFirst s) := by
  have hwaits := h.keeps_expireWaits hs
  cases identFirst
  · rw [decided_identLast]
    have hident := h.stands (claimsStand_identWork (floorDecisions false (expireWaits s)))
      (h.keeps_floorDecisions hwaits false)
    exact h.stands (claimsStand_orphanStep (identWork (floorDecisions false (expireWaits s)))) hident
  · rw [decided_identFirst]
    have hfloor := h.keeps_floorDecisions (h.stands (claimsStand_identWork (expireWaits s)) hwaits) false
    exact h.stands (claimsStand_orphanStep (floorDecisions false (identWork (expireWaits s)))) hfloor

end

/-! ### What the work after the digest leaves -/

/-- The snapshots, the mirrors, the digest, the test of R61, the history and the raised site flags of s stand in t. -/
structure SnapshotStands (s t : State) : Prop where
  claims : t.claims = { s.claims with
    desks := t.claims.desks, conds := t.claims.conds, verdict := t.claims.verdict, grantee := t.claims.grantee }
  history : t.history = s.history
  siteFlags : ∀ f, siteFlagSet s f → siteFlagSet t f

theorem SnapshotStands.of_desks {s t u : State} (h : SnapshotStands s t) (hd : onlyDesks t u)
    (hh : u.history = t.history) (hf : u.link.siteFlags = t.link.siteFlags) : SnapshotStands s u where
  claims := by
    rw [onlyDesks, h.claims] at hd
    rw [hd]
  history := hh.trans h.history
  siteFlags f hs := by rw [siteFlagSet, hf]; exact h.siteFlags f hs

theorem onlyDesks_withdraw (d : Desk) (r : EndReason) (s : State) : onlyDesks s (withdraw d r s) := by
  unfold withdraw
  split
  · exact onlyDesks_setDesk s d _
  · exact onlyDesks_of_eq rfl

theorem onlyDesks_grantDesk (d : Desk) (s : State) : onlyDesks s (grantDesk d s) := by
  unfold grantDesk
  split
  · exact onlyDesks_setDesk s d _
  · exact onlyDesks_of_eq rfl

theorem siteFlags_grantDesk (d : Desk) (s : State) : (grantDesk d s).link.siteFlags = s.link.siteFlags := by
  unfold grantDesk
  split
  · rfl
  · rfl

theorem decisionsKeep_snapshotStands (s : State) : DecisionsKeep (SnapshotStands s) where
  stands hu h := ⟨by rw [hu.claims]; exact h.claims, hu.history.trans h.history,
    fun f hs => hu.siteFlags f (h.siteFlags f hs)⟩
  verdict {t} h := ⟨by
      have hverdict : (setVerdict t).claims = { t.claims with
          conds := (setVerdict t).claims.conds, verdict := (setVerdict t).claims.verdict
          grantee := (setVerdict t).claims.grantee } := rfl
      rw [hverdict, h.claims], h.history, h.siteFlags⟩
  ending d r h := h.of_desks (onlyDesks_endHolding d r _) (by simp) (siteFlags_endHolding d r _)
  withdrawal d r h := h.of_desks (onlyDesks_withdraw d r _) (by simp) (siteFlags_withdraw d r _)
  grant d h := h.of_desks (onlyDesks_grantDesk d _) (by simp) (siteFlags_grantDesk d _)

theorem snapshotStands_decided (identFirst : Bool) (s : State) : SnapshotStands s (decidedState identFirst s) :=
  (decisionsKeep_snapshotStands s).keeps_decided ⟨rfl, rfl, fun _ h => h⟩ identFirst

/-! ### The state that the snapshot is formed from -/

/-- R61: the split run after the digest agreement test. -/
def splitRunNext (s : State) : Nat :=
  if memberActive s = false then 0
  else if condition2 s = false then s.claims.splitRun
  else if disagreeing s = 0 then 0
  else min (s.claims.splitRun + 1) 8

theorem digestTest_claims (s : State) : (digestTest s).claims =
    { s.claims with disagree := disagreeing s, splitRun := splitRunNext s } := by
  unfold digestTest splitRunNext
  cases hm : memberActive s <;> cases hc : condition2 s <;> by_cases hn : disagreeing s = 0 <;> simp [hn, capAdd]

theorem tested_claims (s : State) : (testedState s).claims =
    { s.claims with disagree := disagreeing s, splitRun := splitRunNext s } :=
  digestTest_claims (putFenceRun (fenceRunNext s) s)

/-- R57: each record of the snapshot is formed from the own publication or the mirror. -/
theorem get_formed (s : State) (k : Station) (d : Desk) : ((formedRecords s).get k).get d = formedRecord s k d := by
  have hstation : ownStation (testedState s) = s.setup.station := by simp [testedState, ownStation]
  have hjoined (hk : k ≠ s.setup.station) : joined (testedState s) k = true ↔ (s.member.presence.get k).state = .joined := by
    rw [joined, hstation]
    simp [testedState, hk]
  simp only [formedRecords, formRecords, Eight.get_mapIdx, formedRecord, hstation]
  split
  next => simp [tested_claims, getDesk]
  next hk =>
    simp only [hjoined hk, tested_claims]
    split
    · rfl
    · exact Four.get_all _ d

end Sys2Proof

namespace Sys2Proof
open Machine

/-! ### The claims after a snapshot complete -/

/-- R57, R58: the claims in which the snapshot is formed, its own replaced holdings not yet ended. -/
def formedClaims (s : State) : Claims :=
  { s.claims with
    disagree := disagreeing s
    splitRun := splitRunNext s
    prev := s.claims.snap
    snap := ⟨keptRecords s, s.sync.count.getD 0⟩
    mirrors := storeReplaced (formedRecords s) (keptRecords s) s.claims.mirrors }

theorem ownCount_tested (s : State) : ownCount (testedState s) = s.sync.count.getD 0 := by
  simp [ownCount, testedState]

theorem formedState_eq (s : State) :
    formedState s = endReplaced (formedRecords s) (keptRecords s) ((testedState s).setClaims (formedClaims s)) := by
  rw [formedState, formSnapshot, tested_claims, ownCount_tested]
  rfl

theorem snapshotStands_formed (s : State) :
    SnapshotStands ((testedState s).setClaims (formedClaims s)) (formedState s) := by
  rw [formedState_eq]
  exact (decisionsKeep_snapshotStands _).keeps_endReplaced ⟨rfl, rfl, fun _ h => h⟩ _ _

/-- R57 to R61: what a snapshot complete leaves in the claims, but for the own desks and the verdict of R65. -/
theorem decided_claims (b : Bool) (s : State) : (decidedState b (digestedState s)).claims =
    { formedClaims s with
      viewDigest := crcBytes (viewBytes (holderOf (s.sync.count.getD 0) (keptRecords s))
        (waitingList (s.sync.count.getD 0) (keptRecords s)))
      desks := (decidedState b (digestedState s)).claims.desks
      conds := (decidedState b (digestedState s)).claims.conds
      verdict := (decidedState b (digestedState s)).claims.verdict
      grantee := (decidedState b (digestedState s)).claims.grantee } := by
  have hformed := (snapshotStands_formed s).claims
  have hdigest : (digestedState s).claims = { (formedState s).claims with
      viewDigest := crcBytes (viewBytes (snapHolder (formedState s)) (snapWaiting (formedState s))) } := by
    simp [digestedState, computeDigest, snapHolder, snapWaiting]
  have hfinal := (snapshotStands_decided b (digestedState s)).claims
  rw [hdigest, snapHolder, snapWaiting, hformed] at hfinal
  exact hfinal

theorem siteFlagSet_decided {s : State} {f : SiteFlag} (b : Bool) (h : siteFlagSet (testedState s) f) :
    siteFlagSet (decidedState b (digestedState s)) f := by
  apply (snapshotStands_decided b _).siteFlags
  have hformed := (snapshotStands_formed s).siteFlags f h
  simpa [siteFlagSet, digestedState] using hformed

/-! ### Digest agreement (R61) -/

/-- R61: the slots that disagree are the fresh peer slots of MEMBERs with another view digest. -/
theorem disagreeing_eq (s : State) : disagreeing s =
    (allStations.filter fun k => decide (k ≠ s.setup.station) && s.bus.judge.get k == .fresh
      && (match s.bus.headers.get k with
        | some h => h.join == 2 && h.viewDigest != s.claims.viewDigest
        | none => false)).length := by
  unfold disagreeing
  congr 2
  funext k
  have hfresh : (decide (k ≠ s.setup.station) && s.bus.judge.get k == .fresh) = judgedFresh s k := by
    rw [Bool.eq_iff_iff, judgedFresh_iff]
    simp
  rw [freshHeader, hfresh]
  cases judgedFresh s k <;> rfl

theorem SnapshotStands.test {s t : State} (h : SnapshotStands s t) :
    t.claims.splitRun = s.claims.splitRun ∧ t.claims.disagree = s.claims.disagree := by
  rw [h.claims]
  exact ⟨rfl, rfl⟩

theorem condition2_iff (s : State) : condition2 s = true ↔ joinedStale s = false ∧ s.bus.readback = .good := by
  simp [condition2]

/-- R72: with a digest disagreement there is no grantee. -/
theorem grantee_setVerdict_of_disagree {s : State} (h : s.claims.disagree ≠ 0) : (setVerdict s).claims.grantee = none := by
  have hverdict : verdictOf (testConds s) (snapWaiting s) ≠ .grant := by
    unfold verdictOf
    have hc : (testConds s).c3 = false := by simpa [testConds] using h
    rw [hc]
    split
    · decide
    split
    · decide
    · exact (nomatch ·)
  simp [setVerdict, hverdict]

theorem not_holding_endHoldings (r : EndReason) (s : State) (d : Desk) : ¬ hasState (endHoldings r s) d .holding := by
  rw [hasState, getDesk_endHoldings]
  split
  · exact (stateAfter_closed r).1
  next h => exact h

/-- R79: at the eighth split frame no own holding survives the floor decisions, and none is granted. -/
theorem not_holding_floorDecisions {s : State} (hrun : s.claims.splitRun = 8) (hn : s.claims.disagree ≠ 0) (d : Desk) :
    ¬ hasState (floorDecisions false s) d .holding := by
  have hgrant : grantStep (endingsDecided false s) = endingsDecided false s := by
    rw [grantStep, grantee_endingsDecided, grantee_setVerdict_of_disagree hn]
  have hsplit : (enforceTot false (applyTimeLimit (setVerdict s))).claims.splitRun = 8 := by
    rw [(claimsStand_enforceTot false _).claims, onlyDesks_applyTimeLimit (setVerdict s)]
    exact hrun
  rw [floorDecisions_eq, hgrant, endingsDecided, releaseSplit, if_pos hsplit, preempt]
  split
  · rw [endHolding_of_not (not_holding_endHoldings .split _ _)]
    exact not_holding_endHoldings .split _ d
  · exact not_holding_endHoldings .split _ d

theorem not_holding_decided {s : State} (hrun : s.claims.splitRun = 8) (hn : s.claims.disagree ≠ 0) (b : Bool)
    (d : Desk) : ¬ hasState (decidedState b s) d .holding := by
  have hwaits : SnapshotStands s (expireWaits s) :=
    (decisionsKeep_snapshotStands s).keeps_expireWaits ⟨rfl, rfl, fun _ h => h⟩
  obtain ⟨hrunw, hdisw⟩ := hwaits.test
  have hrun' : (expireWaits s).claims.splitRun = 8 := hrunw.trans hrun
  have hn' : (expireWaits s).claims.disagree ≠ 0 := by rwa [hdisw]
  cases b
  · have hd := not_holding_floorDecisions hrun' hn' d
    have hclaims : (decidedState false s).claims = (floorDecisions false (expireWaits s)).claims := by
      simp [decided_identLast]
    rwa [hasState, getDesk_of_claims hclaims]
  · have hd := not_holding_floorDecisions (s := identWork (expireWaits s)) (by simpa using hrun') (by simpa using hn') d
    have hclaims : (decidedState true s).claims = (floorDecisions false (identWork (expireWaits s))).claims := by
      simp [decided_identFirst]
    rwa [hasState, getDesk_of_claims hclaims]

theorem siteFlagSet_tested {s : State} (hm : memberActive s = true) (hc : condition2 s = true) (hn : disagreeing s ≠ 0) :
    siteFlagSet (testedState s) .split := by
  have hm' : memberActive (putFenceRun (fenceRunNext s) s) = true := hm
  have hc' : condition2 (putFenceRun (fenceRunNext s) s) = true := hc
  have hn' : disagreeing (putFenceRun (fenceRunNext s) s) ≠ 0 := hn
  simp only [testedState, digestTest, hm', hc', hn']
  exact siteFlagSet_raiseSite .split _

/-- Settles O41: the test of R61 is made first, and nothing later in the snapshot complete touches its result. -/
theorem digestDisagreementCountsSplits : Obligations.DigestDisagreementCountsSplits := by
  intro s o b hp hnf
  have hclaims := decided_claims b s
  have hdis : (decidedState b (digestedState s)).claims.disagree = disagreeing s := by rw [hclaims]; rfl
  have hrun : (decidedState b (digestedState s)).claims.splitRun = splitRunNext s := by rw [hclaims]; rfl
  refine ⟨_, exec_snapshotComplete hp hnf o b, hdis.trans (disagreeing_eq s), fun hm => ?_, fun hm hc => ?_,
    fun hm hst hrb => ?_⟩
  · rw [hrun, splitRunNext, if_pos hm]
  · have hc2 : condition2 s = false := by
      rw [← Bool.not_eq_true, condition2_iff, not_and_or, Bool.not_eq_false]
      exact hc
    rw [hrun, splitRunNext, hm, hc2]
    rfl
  · have hc2 := (condition2_iff s).mpr ⟨hst, hrb⟩
    have hnext (hn : disagreeing s ≠ 0) : splitRunNext s = min (s.claims.splitRun + 1) 8 := by
      simp [splitRunNext, hm, hc2, hn]
    rw [hdis, hrun]
    refine ⟨fun hn => ?_, fun hn => ⟨hnext hn, siteFlagSet_decided b (siteFlagSet_tested hm hc2 hn)⟩, fun hn h7 d => ?_⟩
    · simp [splitRunNext, hm, hc2, hn]
    · obtain ⟨hrun', hdis'⟩ := (snapshotStands_decided b (digestedState s)).test
      have hrun8 : (digestedState s).claims.splitRun = 8 := by
        rw [← hrun', hrun, hnext hn]
        omega
      have hdis0 : (digestedState s).claims.disagree ≠ 0 := by
        rw [← hdis', hdis]
        exact hn
      exact not_holding_decided hrun8 hdis0 b d

end Sys2Proof

namespace Sys2Proof
open Machine

/-! ### Double holdings, by record (R58) -/

theorem replacedAt_iff (s : State) (k : Station) (d : Desk) : replacedAt (formedRecords s) (keptRecords s) k d = true
    ↔ (formedRecord s k d).state = .holding ∧ ¬ holdsFloor (keptRecords s) k d := by
  rw [replacedAt, get_formed, Bool.and_eq_true, beq_iff_eq, bne_iff_ne]
  rfl

theorem get_kept (s : State) (k : Station) (d : Desk) : ((keptRecords s).get k).get d =
    if (formedRecord s k d).state = .holding
      ∧ (holderOf (s.sync.count.getD 0) (formedRecords s)).map seatName ≠ some (k, d) then splitRecord (formedRecord s k d)
    else formedRecord s k d := by
  rw [keptRecords, get_resolve, get_formed, ownCount_tested]

/-- R58: a replaced record is IDLE with SPLIT, its class kept and its stamp 0. -/
theorem kept_of_replaced {s : State} {k : Station} {d : Desk} (h : (formedRecord s k d).state = .holding)
    (hk : ¬ holdsFloor (keptRecords s) k d) :
    ((keptRecords s).get k).get d = ⟨.idle, (formedRecord s k d).cls, .split, 0⟩ := by
  rw [holdsFloor, get_kept] at hk
  rw [get_kept]
  split
  · rfl
  next hno => rw [if_neg hno] at hk; exact absurd h hk

/-- R58: a record that is not replaced stands as it was formed. -/
theorem kept_of_not_replaced {s : State} {k : Station} {d : Desk}
    (h : ¬ ((formedRecord s k d).state = .holding ∧ ¬ holdsFloor (keptRecords s) k d)) :
    ((keptRecords s).get k).get d = formedRecord s k d := by
  have hkept := get_kept s k d
  split at hkept
  next hlost =>
    have hidle : ¬ holdsFloor (keptRecords s) k d := by
      rw [holdsFloor, hkept]
      exact (nomatch ·)
    exact absurd ⟨hlost.1, hidle⟩ h
  next => exact hkept

/-! ### The history ring (R59, R158, R159) -/

/-- R158: entries put into the ring one after the other, the eighth leaving a full one. -/
theorem history_foldl_recordHistory (es : List HistoryEntry) {s : State} (h : ringLaw s) :
    (es.foldl (fun t e => recordHistory e t) s).history
      = ⟨(es.reverse ++ s.history.ring).take 8, s.history.total + BitVec.ofNat 16 es.length⟩ := by
  induction es generalizing s with
  | nil =>
    rw [List.foldl_nil, List.reverse_nil, List.nil_append, List.take_of_length_le h]
    simp
  | cons e es ih =>
    have hfront : (recordHistory e s).history = ⟨(e :: s.history.ring).take 8, s.history.total + 1⟩ := rfl
    have hlaw : ringLaw (recordHistory e s) := by
      rw [ringLaw, hfront]
      exact List.length_take_le 8 _
    rw [List.foldl_cons, ih hlaw, hfront, History.mk.injEq]
    constructor
    · rw [List.reverse_cons, List.append_assoc, List.singleton_append, List.take_append, List.take_append,
        List.take_take, Nat.min_eq_left (Nat.sub_le _ _)]
    · rw [List.length_cons, Nat.add_comm, BitVec.ofNat_add, ← BitVec.add_assoc]
      rfl

/-- R59: the entries handed to the ring at the snapshot complete of s, the first handed first. -/
def handedEntries (s : State) : List HistoryEntry :=
  (endedSeats s.claims.snap.recs (keptRecords s)).map (historyEntry (formedState s) (formedRecords s) (keptRecords s))

theorem history_decided {s : State} (h : ringLaw s) (b : Bool) : (decidedState b (digestedState s)).history =
    ⟨((handedEntries s).reverse ++ s.history.ring).take 8,
      s.history.total + BitVec.ofNat 16 (handedEntries s).length⟩ := by
  have hformed : (formedState s).history = s.history := by simp [formedState, testedState]
  have hprev : (formedState s).claims.prev = s.claims.snap := by rw [(snapshotStands_formed s).claims]; rfl
  have hlaw : ringLaw (formedState s) := by rw [ringLaw, hformed]; exact h
  have hhanded := history_foldl_recordHistory (handedEntries s) hlaw
  rw [handedEntries, List.foldl_map, ← handedEntries, hformed] at hhanded
  rw [(snapshotStands_decided b _).history, ← hhanded]
  simp only [digestedState, computeDigest, setClaims_history, handOff, hprev]

theorem ownStation_formedState (s : State) : ownStation (formedState s) = s.setup.station := by
  simp [ownStation, formedState, testedState]

theorem ownCount_formedState (s : State) : ownCount (formedState s) = s.sync.count.getD 0 := by
  simp [ownCount, formedState, testedState]

theorem joined_formedState (s : State) (k : Station) : joined (formedState s) k = joined s k := by
  simp [joined, ownStation, formedState, testedState]

/-- R59: the reason handed for an ended holding. -/
theorem handedReason_eq (s : State) (k : Station) (d : Desk) :
    handedReason (formedState s) (formedRecords s) (keptRecords s) k d =
      if k ≠ s.setup.station ∧ (s.member.presence.get k).state ≠ .joined then .lost
      else if (formedRecord s k d).state = .absent then .closed
      else (((keptRecords s).get k).get d).reason := by
  have hlost : (k ≠ s.setup.station ∧ joined s k = false)
      ↔ (k ≠ s.setup.station ∧ (s.member.presence.get k).state ≠ .joined) := by
    simp only [joined, ownStation]
    constructor
    · rintro ⟨hk, hj⟩
      simpa [hk] using hj
    · rintro ⟨hk, hj⟩
      simpa [hk] using hj
  rw [handedReason, ownStation_formedState, joined_formedState]
  simp only [hlost]
  split
  · rfl
  split
  next hreplaced =>
    obtain ⟨hholding, hlost⟩ := (replacedAt_iff s k d).mp hreplaced
    have hclaimed : (formedRecord s k d).state ≠ .absent := by rw [hholding]; decide
    rw [if_neg hclaimed, kept_of_replaced hholding hlost]
  next hnot => rw [kept_of_not_replaced fun h => hnot ((replacedAt_iff s k d).mpr h)]

/-- R59: the desks of the entries handed to the ring. -/
theorem handedEntries_desks (s : State) : (handedEntries s).map (fun e => (e.station, e.desk)) =
    allSeats.filter fun x => ((s.claims.snap.recs.get x.1).get x.2).state == .holding
      && (((keptRecords s).get x.1).get x.2).state != .holding := by
  rw [handedEntries, endedSeats, seats_eq, List.filter_map, List.map_map, List.map_map]
  exact List.map_id _

theorem mem_handedEntries {s : State} {e : HistoryEntry} (h : e ∈ handedEntries s) :
    e = historyEntry (formedState s) (formedRecords s) (keptRecords s) (seatOf s.claims.snap.recs (e.station, e.desk)) := by
  obtain ⟨x, hx, rfl⟩ := List.mem_map.mp h
  have hseat := (mem_seats _ x).mp (List.mem_of_mem_filter hx)
  have hx : x = seatOf s.claims.snap.recs (x.station, x.desk) := by rw [seatOf, ← hseat]
  exact congrArg _ hx

theorem snap_decided (b : Bool) (s : State) :
    (decidedState b (digestedState s)).claims.snap = ⟨keptRecords s, s.sync.count.getD 0⟩ := by
  rw [decided_claims]
  rfl

/-- Settles O42: the entries handed at the hand-off of R59, which nothing later in the snapshot complete touches. -/
theorem endedHoldingsAreRecorded : Obligations.EndedHoldingsAreRecorded := by
  intro s o b hp hnf hlaw
  have hhistory := history_decided hlaw b
  refine ⟨_, handedEntries s, exec_snapshotComplete hp hnf o b, ?_, ?_, ?_, fun e he => ?_⟩
  · rw [hhistory]
  · rw [hhistory]
  · rw [snap_decided]
    exact handedEntries_desks s
  · have hentry := mem_handedEntries he
    generalize e.station = k at hentry ⊢
    generalize e.desk = d at hentry ⊢
    rw [hentry, snap_decided]
    refine ⟨rfl, rfl, ?_, handedReason_eq s k d⟩
    rw [historyEntry, ownCount_formedState]
    rfl

end Sys2Proof

namespace Sys2Proof
open Machine

/-! ### An own holding that loses (R47, R58, R115) -/

theorem serving_tellEnded (d : Desk) (s : State) : (tellEnded d s).air.serving = s.air.serving := by
  unfold tellEnded
  dsimp only
  (repeat' split) <;> rfl

/-- R115: told of the ending of a desk that it does not serve, the air sequencer serves as before. -/
theorem servesAlike_tellEnded {d : Desk} {s : State} (h : s.air.serving ≠ some d) :
    ServesAlike s.air (tellEnded d s).air := by
  have hdropped : ServesAlike s.air (if s.air.pendingStart = some d then { s.air with pendingStart := none } else s.air) := by
    split
    · exact ⟨rfl, rfl, rfl, rfl⟩
    · exact .refl _
  have hserves := hdropped.serving ▸ h
  unfold tellEnded
  simp only [if_neg hserves]
  split <;> exact hdropped

theorem serving_endHolding (d : Desk) (r : EndReason) (s : State) :
    (endHolding d r s).air.serving = s.air.serving := by
  unfold endHolding
  split
  · exact serving_tellEnded d _
  · rfl

theorem servesAlike_endHolding {d : Desk} {s : State} (h : s.air.serving ≠ some d) (r : EndReason) :
    ServesAlike s.air (endHolding d r s).air := by
  unfold endHolding
  split
  · exact servesAlike_tellEnded (s := raiseDesk d .ended (setDesk s d ((getDesk s d).ended r))) h
  · exact .refl _

theorem ServesAlike.trans {a b c : Air} (h : ServesAlike a b) (h' : ServesAlike b c) : ServesAlike a c :=
  ⟨h'.serving.trans h.serving, h'.state.trans h.state, h'.tailRun.trans h.tailRun,
    h'.holdingEnded.trans h.holdingEnded⟩

/-- R58: in t the holding of desk d of s has ended with SPLIT, ENDED is raised and the air sequencer has been told. -/
structure SplitEnded (s : State) (d : Desk) (t : State) : Prop where
  desk : getDesk t d = (getDesk s d).ended .split
  flag : deskFlagSet t d .ended
  air : servedEnding s t d
  serving : s.air.serving = some d → t.air.serving = some d

theorem SplitEnded.idle {s t : State} {d : Desk} (h : SplitEnded s d t) :
    ¬ hasState t d .holding ∧ ¬ hasState t d .waiting := by
  rw [hasState, hasState, h.desk]
  exact stateAfter_closed .split

theorem SplitEnded.of_alike {s t u : State} {d : Desk} (h : SplitEnded s d t) (hd : getDesk u d = getDesk t d)
    (hf : deskFlagSet t d .ended → deskFlagSet u d .ended)
    (ha : t.air.serving = some d → ServesAlike t.air u.air) : SplitEnded s d u where
  desk := hd.trans h.desk
  flag := hf h.flag
  air hserve := by
    obtain ⟨-, hstate, hrun, hended⟩ := ha (h.serving hserve)
    rw [hstate, hrun, hended]
    exact h.air hserve
  serving hserve := (ha (h.serving hserve)).serving.trans (h.serving hserve)

theorem deskFlagSet_grantDesk_of (d : Desk) {s : State} {e : Desk} {f : DeskFlag} (h : deskFlagSet s e f) :
    deskFlagSet (grantDesk d s) e f := by
  unfold grantDesk
  split
  · exact deskFlagSet_raiseDesk_of d .granted (s := setDesk s d (getDesk s d).granted) h
  · exact h

theorem servesAlike_grantDesk (d : Desk) (s : State) : ServesAlike s.air (grantDesk d s).air := by
  unfold grantDesk
  split
  · exact ⟨rfl, rfl, rfl, rfl⟩
  · exact .refl _

theorem getDesk_grantDesk_of_ne {d e : Desk} (h : e ≠ d) (s : State) : getDesk (grantDesk d s) e = getDesk s e := by
  unfold grantDesk
  split
  · exact (getDesk_setDesk d e (getDesk s d).granted s).trans (if_neg h)
  · rfl

theorem decisionsKeep_splitEnded (s : State) (d : Desk) : DecisionsKeep (SplitEnded s d) where
  stands hu h := h.of_alike (getDesk_of_claims hu.claims d) (by rw [deskFlagSet, deskFlagSet, hu.deskFlags]; exact id)
    fun _ => hu.air
  verdict h := h.of_alike rfl id fun _ => .refl _
  ending {t} e r h := by
    by_cases hed : e = d
    · subst hed
      rwa [endHolding_of_not h.idle.1]
    · exact h.of_alike (by rw [getDesk_endHolding, if_neg fun hc => hed hc.1.symm])
        (deskFlagSet_endHolding_of e r) fun hserve =>
          servesAlike_endHolding (by rw [hserve]; exact fun hc => hed (Option.some.inj hc).symm) r
  withdrawal {t} e r h := by
    by_cases hed : e = d
    · subst hed
      rwa [withdraw_of_not h.idle.2]
    · exact h.of_alike (by rw [getDesk_withdraw, if_neg fun hc => hed hc.1.symm])
        (deskFlagSet_withdraw_of e r) fun _ => by rw [(withdraw_frame _ _ _).2.2.2.2.2.2.1]; exact .refl _
  grant {t} e h := by
    by_cases hed : e = d
    · subst hed
      rwa [grantDesk, if_neg h.idle.2]
    · exact h.of_alike (getDesk_grantDesk_of_ne (fun hc => hed hc.symm) t) (deskFlagSet_grantDesk_of e)
        fun _ => servesAlike_grantDesk e t

/-- Up to the ending of desk d the desk stands, and where the air sequencer serves it, it serves alike. -/
structure NotYetEnded (s : State) (d : Desk) (t : State) : Prop where
  station : ownStation t = s.setup.station
  desk : getDesk t d = getDesk s d
  serving : t.air.serving = s.air.serving
  air : s.air.serving = some d → ServesAlike s.air t.air

/-- R47, R58, R115: the holding of a desk ended with SPLIT. -/
theorem NotYetEnded.split {s t : State} {d : Desk} (h : NotYetEnded s d t) (hs : hasState s d .holding) :
    SplitEnded s d (endHolding d .split t) := by
  have ht : hasState t d .holding := by rw [hasState, h.desk]; exact hs
  obtain ⟨-, -, -, hserved, -⟩ := endHolding_spec ht .split
  refine ⟨?_, deskFlagSet_endHolding .split ht, fun hserve => ?_, fun hserve => ?_⟩
  · rw [getDesk_endHolding, if_pos ⟨rfl, ht⟩, h.desk]
  · have hstate := (h.air hserve).state
    have hended := hserved (h.serving.trans hserve)
    rw [hstate] at hended
    exact hended
  · rw [serving_endHolding, h.serving, hserve]

theorem NotYetEnded.other {s t : State} {d e : Desk} (h : NotYetEnded s d t) (hed : e ≠ d) (r : EndReason) :
    NotYetEnded s d (endHolding e r t) where
  station := by rw [← h.station]; simp [ownStation]
  desk := by rw [getDesk_endHolding, if_neg fun hc => hed hc.1.symm, h.desk]
  serving := (serving_endHolding e r t).trans h.serving
  air hserve := (h.air hserve).trans (servesAlike_endHolding
    (by rw [h.serving, hserve]; exact fun hc => hed (Option.some.inj hc).symm) r)

/-- R58: an own holding whose record is replaced is ended as the snapshot is formed. -/
theorem splitEnded_formedState {s : State} {d : Desk} (hs : hasState s d .holding)
    (hr : replacedAt (formedRecords s) (keptRecords s) s.setup.station d = true) : SplitEnded s d (formedState s) := by
  have hstart : NotYetEnded s d ((testedState s).setClaims (formedClaims s)) :=
    ⟨by simp [ownStation, testedState], rfl, by simp [testedState], fun _ => by simpa [testedState] using .refl _⟩
  rw [formedState_eq]
  refine fold_reaches (P := SplitEnded s d) (Q := fun d t => NotYetEnded s d t)
    (fun d t => if replacedAt (formedRecords s) (keptRecords s) (ownStation t) d then endHolding d .split t else t) d
    (fun e t hed ht => ?_) (fun t ht => ?_) (fun e t ht => ?_) hstart
  · split
    · exact ht.other hed .split
    · exact ht
  · rw [if_pos (by rw [ht.station]; exact hr)]
    exact ht.split hs
  · split
    · exact (decisionsKeep_splitEnded s d).ending e .split ht
    · exact ht

theorem splitEnded_decided {s : State} {d : Desk} (hs : hasState s d .holding)
    (hr : replacedAt (formedRecords s) (keptRecords s) s.setup.station d = true) (b : Bool) :
    SplitEnded s d (decidedState b (digestedState s)) := by
  have hformed := splitEnded_formedState hs hr
  apply (decisionsKeep_splitEnded s d).keeps_decided
  apply hformed.of_alike
  · simp [getDesk, digestedState, computeDigest]
  · simp [deskFlagSet, digestedState]
  · intro _
    simpa [digestedState] using .refl _

theorem SplitEnded.holdingEndedAt {s t : State} {d : Desk} (h : SplitEnded s d t) (hs : hasState s d .holding) :
    holdingEndedAt .split s t d := by
  obtain ⟨hrec, hdrain, hpub⟩ := ended_record (getDesk s d) .split (by decide) (by decide)
  refine ⟨fun _ => ?_, fun hno => absurd hs hno⟩
  rw [h.desk]
  exact ⟨hrec, hdrain, hpub, h.flag⟩

/-! ### The one holder and the mirrors (R58) -/

/-- R58: a record HOLDING in the snapshot is the one first in floor order of those formed. -/
theorem holdsFloor_kept_iff (s : State) (k : Station) (d : Desk) : holdsFloor (keptRecords s) k d
    ↔ (holderOf (s.sync.count.getD 0) (formedRecords s)).map seatName = some (k, d) := by
  rw [holdsFloor, get_kept]
  constructor
  · intro h
    split at h
    · cases h
    next hno => exact not_not.mp fun hc => hno ⟨h, hc⟩
  · intro h
    obtain ⟨w, hw, hname⟩ := Option.map_eq_some_iff.mp h
    obtain ⟨-, hholds, -⟩ := holderOf_some hw
    obtain ⟨rfl, rfl⟩ := Prod.mk.inj hname
    rw [if_neg fun hc => hc.2 h, ← get_formed]
    exact hholds

theorem oneHolding_kept (s : State) : oneHolding (keptRecords s) := by
  intro k d k' d' h h'
  have hname := (holdsFloor_kept_iff s k d).mp h
  rw [(holdsFloor_kept_iff s k' d').mp h', Option.some.injEq, Prod.mk.injEq] at hname
  exact ⟨hname.1.symm, hname.2.symm⟩

/-- R58, R64: where a record is formed HOLDING, the snapshot has a holder, and no record is before it in floor order. -/
theorem exists_holder {s : State} {k : Station} {d : Desk} (h : (formedRecord s k d).state = .holding) :
    ∃ k' d', holdsFloor (keptRecords s) k' d' ∧ ((k', d') = (k, d)
      ∨ floorBefore (s.sync.count.getD 0) ⟨k', d', formedRecord s k' d'⟩ ⟨k, d, formedRecord s k d⟩ = true) := by
  have hholds : holdsFloor (formedRecords s) k d := by rw [holdsFloor, get_formed]; exact h
  cases hw : holderOf (s.sync.count.getD 0) (formedRecords s) with
  | none => exact absurd hholds (holderOf_none hw k d)
  | some w =>
    obtain ⟨hseat, -, hfirst⟩ := holderOf_some hw
    refine ⟨w.station, w.desk, (holdsFloor_kept_iff s _ _).mpr (by rw [hw]; rfl), ?_⟩
    have hbefore := hfirst k d hholds
    rwa [hseat, seatOf, seatOf, get_formed, get_formed] at hbefore

theorem get_storeReplaced (f g r : Records) (k : Station) (d : Desk) : ((storeReplaced f g r).get k).get d =
    if replacedAt f g k d then (g.get k).get d else (r.get k).get d := by
  rw [storeReplaced, Eight.get_mapIdx, Four.get_mapIdx]

theorem mirrors_decided (b : Bool) (s : State) :
    (decidedState b (digestedState s)).claims.mirrors = storeReplaced (formedRecords s) (keptRecords s) s.claims.mirrors := by
  rw [decided_claims]
  rfl

theorem viewDigest_decided (b : Bool) (s : State) : (decidedState b (digestedState s)).claims.viewDigest =
    crcBytes (viewBytes (snapHolder (decidedState b (digestedState s))) (snapWaiting (decidedState b (digestedState s)))) := by
  rw [snapHolder, snapWaiting, snap_decided, decided_claims]

/-- Settles O38: each clause from what the snapshot is formed from, all of which the later work leaves. -/
theorem snapshotFormed : Obligations.SnapshotFormed := by
  intro s o b hp hnf
  have hprev : (decidedState b (digestedState s)).claims.prev = s.claims.snap := by rw [decided_claims]; rfl
  refine ⟨_, exec_snapshotComplete hp hnf o b, hprev, ?_⟩
  have hview := viewDigest_decided b s
  simp only [snapWaiting, waitingList] at hview ⊢
  rw [mirrors_decided, hview]
  simp only [snap_decided]
  refine ⟨trivial, fun k d => ?_, oneHolding_kept s, fun k d hk => ⟨fun hh hn => ?_, fun hor => ?_⟩, fun d hh hn hs => ?_,
    fun k d => exists_holder, pairwise_inState _ _ _, mem_inState _ _ _, ?_⟩
  · by_cases h : (formedRecord s k d).state = .holding ∧ ¬ holdsFloor (keptRecords s) k d
    · exact .inr ⟨h.1, kept_of_replaced h.1 h.2⟩
    · exact .inl (kept_of_not_replaced h)
  · rw [get_storeReplaced, if_pos ((replacedAt_iff s k d).mpr ⟨hh, hn⟩), kept_of_replaced hh hn]
  · rw [get_storeReplaced, if_neg]
    rw [replacedAt_iff]
    exact fun hc => hor.elim (fun h => h hc.1) hc.2
  · have hsplit := splitEnded_decided hs ((replacedAt_iff s _ d).mpr ⟨hh, hn⟩) b
    exact ⟨hsplit.holdingEndedAt hs, hsplit.air⟩
  · cases snapHolder (decidedState b (digestedState s)) <;> rfl

end Sys2Proof

namespace Sys2Proof
open Machine

/-! ## No holding begins but by a grant (R46, R73)

A law in the sense of `FloorLaw` is one that a grant keeps too, so no such law says that a command grants nothing. Here the
work of every command is followed desk by desk, without the grant. -/

/-- From s to t each own desk makes steps other than a grant: no holding begins, and where J fails no wait begins. -/
def DeskSteps (J : Prop) (s t : State) : Prop := ∀ d, DeskStep J (getDesk s d) (getDesk t d)

section
variable {J : Prop}

theorem DeskStep.refl (o : OwnDesk) : DeskStep J o o := deskStep_of_records rfl rfl rfl

theorem DeskSteps.refl (s : State) : DeskSteps J s s := fun _ => .refl _

theorem DeskSteps.trans {s t u : State} (h : DeskSteps J s t) (k : DeskSteps J t u) : DeskSteps J s u := fun d =>
  ⟨fun ho => (k d).shape ((h d).shape ho), fun hu => (h d).holding ((k d).holding hu),
    fun hu => ((k d).waiting hu).elim (h d).waiting .inr⟩

theorem DeskSteps.of_desks {s t : State} (h : t.claims.desks = s.claims.desks) : DeskSteps J s t := fun d => by
  have e : getDesk t d = getDesk s d := by rw [getDesk, h]; rfl
  rw [e]
  exact .refl _

theorem DeskSteps.then_desks {s t u : State} (h : DeskSteps J s t) (hd : u.claims.desks = t.claims.desks) :
    DeskSteps J s u :=
  h.trans (.of_desks hd)

theorem deskSteps_setDesk {s : State} {d : Desk} {x : OwnDesk} (h : DeskStep J (getDesk s d) x) :
    DeskSteps J s (setDesk s d x) := fun e => by
  rw [getDesk_setDesk]
  split
  next he => rw [he]; exact h
  next => exact .refl _

theorem deskSteps_foldl (f : Desk → State → State) (hf : ∀ d s, DeskSteps J s (f d s)) (s : State) :
    DeskSteps J s (allDesks.foldl (fun s d => f d s) s) :=
  fold_preserves (P := DeskSteps J s) f (fun d t ht => ht.trans (hf d t)) (.refl s)

theorem deskSteps_ite {s t : State} (c : Prop) [Decidable c] (h : DeskSteps J s t) :
    DeskSteps J s (if c then t else s) := by
  split
  · exact h
  · exact .refl s

/-! ### Endings, withdrawals and bars -/

theorem deskSteps_endHolding (d : Desk) (r : EndReason) (s : State) : DeskSteps J s (endHolding d r s) := fun e => by
  rw [getDesk_endHolding]
  split
  next he => rw [he.1]; exact deskStep_ended _ r
  next => exact .refl _

theorem deskSteps_withdraw (d : Desk) (r : EndReason) (s : State) : DeskSteps J s (withdraw d r s) := fun e => by
  rw [getDesk_withdraw]
  split
  next he => rw [he.1]; exact deskStep_withdrawn _ r
  next => exact .refl _

theorem deskSteps_endHoldings (r : EndReason) (s : State) : DeskSteps J s (endHoldings r s) :=
  deskSteps_foldl (fun d s => endHolding d r s) (fun d s => deskSteps_endHolding d r s) s

theorem deskSteps_withdrawAll (r : EndReason) (s : State) : DeskSteps J s (withdrawAll r s) :=
  deskSteps_foldl (fun d s => withdraw d r s) (fun d s => deskSteps_withdraw d r s) s

theorem deskSteps_expireWaits (s : State) : DeskSteps J s (expireWaits s) :=
  deskSteps_foldl
    (fun d s => if ageAtLeast (deskAge s (getDesk s d)) s.setup.maxWait then withdraw d .waitExpired s else s)
    (fun d s => deskSteps_ite _ (deskSteps_withdraw d _ s)) s

theorem deskSteps_applyTimeLimit (s : State) : DeskSteps J s (applyTimeLimit s) :=
  deskSteps_foldl
    (fun d s => if ageAtLeast (deskAge s (getDesk s d)) s.setup.totLimit then endHolding d .timeout s else s)
    (fun d s => deskSteps_ite _ (deskSteps_endHolding d _ s)) s

theorem deskSteps_endReplaced (formed kept : Records) (s : State) : DeskSteps J s (endReplaced formed kept s) :=
  deskSteps_foldl (fun d s => if replacedAt formed kept (ownStation s) d then endHolding d .split s else s)
    (fun d s => deskSteps_ite _ (deskSteps_endHolding d _ s)) s

theorem deskSteps_releaseSplit (s : State) : DeskSteps J s (releaseSplit s) :=
  deskSteps_ite _ (deskSteps_endHoldings .split s)

theorem deskSteps_preempt (s : State) : DeskSteps J s (preempt s) := by
  unfold preempt
  split
  · exact deskSteps_endHolding _ .preempted s
  · exact .refl s

theorem deskSteps_testBar (d : Desk) (s : State) : DeskSteps J s (testBar d s) := by
  unfold testBar
  split
  next hdone =>
    have hbarred : (getDesk s d).record.state = .barred := by
      simp only [barDone, Bool.and_eq_true, beq_iff_eq] at hdone
      exact hdone.1.1
    exact deskSteps_setDesk (deskStep_lifted hbarred)
  next => exact .refl s

theorem deskSteps_barStep (d : Desk) (s : State) : DeskSteps J s (barStep d s) := by
  unfold barStep
  refine deskSteps_ite _ (.trans (deskSteps_setDesk ?_) (deskSteps_testBar d _))
  exact deskStep_of_records rfl rfl rfl

theorem deskSteps_acknowledge (d : Desk) (s : State) : DeskSteps J s (acknowledge d s) := by
  unfold acknowledge
  refine deskSteps_ite _ (.trans (deskSteps_setDesk ?_) (deskSteps_testBar d _))
  exact deskStep_of_records rfl rfl rfl

theorem deskSteps_barWork (before s : State) : DeskSteps J s (barWork before s) :=
  deskSteps_foldl (fun d s => if (getDesk before d).record.state = .barred then barStep d s else s)
    (fun d s => deskSteps_ite _ (deskSteps_barStep d s)) s

theorem deskSteps_publishAll (s : State) : DeskSteps J s (publishAll s) := fun d => by
  rw [getDesk_publishAll]
  exact ⟨fun h => deskShape_publish h _, fun h => by rwa [publish_state] at h,
    fun h => .inl (by rwa [publish_state] at h)⟩

/-! ### Sync states -/

theorem deskSteps_loseSync (s : State) : DeskSteps J s (loseSync s) :=
  (deskSteps_endHoldings .syncLost (airOff s)).trans (deskSteps_withdrawAll .syncLost _)

theorem deskSteps_enterHunt (s : State) : DeskSteps J s (enterHunt s) :=
  (deskSteps_loseSync s).then_desks (desks_enterHunt s)

theorem deskSteps_enterHoldover (s : State) : DeskSteps J s (enterHoldover s) :=
  (deskSteps_endHoldings .syncLost (airOff s)).then_desks (by simp [enterHoldover])

theorem deskSteps_enterFenced (s : State) : DeskSteps J s (enterFenced s) := by
  have hstop : DeskSteps J s (fencedStop s) := (deskSteps_loseSync s).then_desks (by simp [fencedStop])
  unfold enterFenced
  dsimp only
  split
  · exact hstop.trans (deskSteps_enterHunt _)
  · exact hstop

theorem deskSteps_relock (c : Count) (n : Station) (s : State) : DeskSteps J s (relock c n (patternSeen s)) := by
  have hseen : DeskSteps J s (patternSeen s) := .of_desks (by simp)
  by_cases hj : countJumps c (patternSeen s)
  · rw [relock_of_jump hj]
    exact (hseen.trans (deskSteps_withdrawAll .countJump _)).then_desks (by rw [enterLocked_claims]; rfl)
  · rw [relock_of_no_jump hj]
    exact hseen.then_desks (by rw [enterLocked_claims])

theorem deskSteps_timingStage (s : State) : DeskSteps J s (timingStage s) := by
  unfold timingStage
  dsimp only
  split
  · unfold huntStep
    dsimp only
    split <;> exact .of_desks (by simp)
  · unfold holdoverStep
    dsimp only
    split
    · split
      · exact .of_desks (by simp)
      · exact (DeskSteps.of_desks (by simp)).trans (deskSteps_enterHunt _)
    · exact .of_desks (by simp)
  all_goals exact .of_desks (by simp)

theorem deskSteps_readbackMiss (s : State) : DeskSteps J s (readbackMiss s) := by
  unfold readbackMiss
  split
  · exact .of_desks rfl
  · exact deskSteps_enterHunt s

theorem deskSteps_syncFields (x : BitVec 43) (s : State) : DeskSteps J s (syncFields x s) := by
  unfold syncFields
  split
  · exact .of_desks (by simp)
  · unfold timingReadback
    split
    · exact .refl s
    · split
      · exact .of_desks rfl
      · exact deskSteps_readbackMiss s
  all_goals exact .refl s

theorem deskSteps_countMiss (s : State) : DeskSteps J s (countMiss s) := by
  unfold countMiss
  dsimp only
  split
  · exact (DeskSteps.of_desks (by simp)).trans (deskSteps_enterHoldover _)
  · exact .of_desks rfl

theorem deskSteps_slotArrives (k : Station) (x : BitVec 208) (s : State) : DeskSteps J s (slotArrives k x s) := by
  obtain ⟨order, heq, -⟩ := slotArrives_eq k x s
  have htaken : DeskSteps J s (slotTaken k x s) := .of_desks (slotTaken_floor k x s).1
  have hmiss (u : State) : DeskSteps J u (missStep u) :=
    deskSteps_ite _ (by split; exacts [deskSteps_countMiss u, .of_desks rfl])
  have hchecks (u : State) : DeskSteps J u (lastSlotChecks k u) :=
    deskSteps_ite _ ((hmiss u).then_desks (by simp))
  rw [heq]
  exact (htaken.trans (hchecks _)).then_desks (by simp)

/-! ### Frame start, key sample, program received -/

theorem airStable_deskSteps (s : State) : AirStable (DeskSteps J s) where
  air _ _ h := h
  drives _ _ _ _ h := h
  pool _ _ h := h
  phase _ _ _ _ h := h
  flag _ _ _ h := h
  ending _ d r h := h.trans (deskSteps_endHolding d r _)

theorem deskSteps_airFrame (s : State) : DeskSteps J s (airFrame s) := (airStable_deskSteps s).keeps_airFrame (.refl s)

theorem deskSteps_airDecide (s : State) : DeskSteps J s (airDecide s) := (airStable_deskSteps s).keeps_airDecide (.refl s)

theorem deskSteps_claimsAndAir (reportFirst : Bool) (s : State) : DeskSteps J s (claimsAndAir reportFirst s) := by
  cases reportFirst
  · exact ((deskSteps_barWork s s).trans (deskSteps_publishAll _)).trans (deskSteps_airFrame _)
  · exact ((deskSteps_airFrame s).trans (deskSteps_barWork s _)).trans (deskSteps_publishAll _)

theorem deskSteps_frameWork (reportFirst : Bool) (s : State) : DeskSteps J s (frameWork reportFirst s) := by
  have hruns : DeskSteps J s (runsCounted s) := .of_desks (by simp [runsCounted])
  exact (hruns.trans (deskSteps_claimsAndAir reportFirst _)).then_desks (by simp [frameWork, runsCounted])

theorem deskSteps_keySampleWork (x : Lines) (s : State) : DeskSteps J s (keySampleWork x s) := by
  have hclamped (u : State) : DeskSteps J u (clampedSample u) :=
    deskSteps_ite _ (deskSteps_endHoldings .clamped (airOff u))
  exact (hclamped (keepSample x s)).then_desks (by simp [keySampleWork])

theorem deskSteps_actOnDue (s : State) : DeskSteps J s (actOnDue s) := by
  unfold actOnDue
  split
  · exact .refl s
  split
  · split
    · split
      · exact .refl s
      · exact deskSteps_endHolding _ _ s
    · exact .refl s
  · exact deskSteps_ite _ (.of_desks (by simp))

theorem deskSteps_voiceReceived (holder : BitVec 3) (s : State) : DeskSteps J s (voiceReceived holder s) := by
  have hcount : DeskSteps J s (countVoice s) := .of_desks (by simp)
  unfold voiceReceived
  dsimp only
  split
  · split
    · exact hcount.trans (deskSteps_actOnDue _)
    · exact hcount
  · exact .refl s

theorem deskSteps_programWork (x : BitVec 168) (s : State) : DeskSteps J s (programWork x s) := by
  have hfield (result : ProgResult) (p : ProgField) : DeskSteps J s (fieldClassed result p s) := .of_desks (by simp)
  have hident (result : ProgResult) (p : ProgField) (u : State) : DeskSteps J u (identProgram result p u) := by
    unfold identProgram
    split
    · split
      · exact deskSteps_voiceReceived _ u
      · refine deskSteps_ite _ ?_
        split <;> exact .of_desks (by simp)
    all_goals exact .refl u
  have hrun (u : State) : DeskSteps J u (programStep u) := .of_desks (by simp)
  rw [programWork_eq]
  exact ((hfield _ _).trans (hident _ _ _)).trans (hrun _)

theorem deskSteps_splitEvent (s : State) : DeskSteps J s (splitEvent s) := by
  rw [splitEvent_eq]
  exact deskSteps_endHoldings .split (raiseSite .split (s.setClaims { s.claims with splitRun := 8 }))

/-! ### Requests -/

theorem deskSteps_closeWork (s : State) : DeskSteps J s (closeWork s) := by
  have hhunt : DeskSteps J s (enterHunt (closeBus (closePool (closeRecord s)))) :=
    deskSteps_enterHunt (closeBus (closePool (closeRecord s)))
  unfold closeWork
  dsimp only
  refine DeskSteps.trans ?_ (deskSteps_frameWork false _)
  split <;> exact hhunt.then_desks (by simp)

theorem deskSteps_closeRequest (s : State) : DeskSteps J s (closeRequest s).state := by
  unfold closeRequest
  split
  · exact .refl s
  split
  · exact .refl s
  · exact deskSteps_closeWork s

theorem deskSteps_openRequest (cls : Byte) (d : Desk) (s : State) : DeskSteps J s (openRequest cls d s).state := by
  unfold openRequest
  split
  · exact .refl s
  split
  · exact .refl s
  split
  · exact .refl s
  split
  · exact .refl s
  · exact (deskSteps_setDesk (deskStep_opened _ _)).then_desks rfl

theorem deskSteps_closeDeskRequest (d : Desk) (s : State) : DeskSteps J s (closeDeskRequest d s).state := by
  have hend : DeskSteps J s (endForClose d s) :=
    (deskSteps_endHolding d .closed s).trans (deskSteps_withdraw d .closed _)
  unfold closeDeskRequest
  split
  · exact .refl s
  split
  · exact .refl s
  · exact (hend.trans (deskSteps_setDesk (deskStep_closed _))).then_desks rfl

theorem deskSteps_claimRequest (d : Desk) (s : State) : DeskSteps True s (claimRequest d s).state := by
  unfold claimRequest
  dsimp only
  split
  · exact .refl s
  split
  · exact .refl s
  split
  · exact .refl s
  split
  · exact .refl s
  split
  · exact .refl s
  split
  · exact deskSteps_setDesk (deskStep_claimed _ trivial)
  · exact .refl s

theorem deskSteps_releaseRequest (mode : Byte) (d : Desk) (s : State) : DeskSteps J s (releaseRequest mode d s).state := by
  unfold releaseRequest
  split
  · exact .refl s
  split
  · exact .refl s
  unfold releaseDesk
  split
  · exact .refl s
  · exact .refl s
  · exact .refl s
  · exact deskSteps_withdraw d _ s
  split
  · exact deskSteps_setDesk (deskStep_of_records rfl rfl rfl)
  · exact deskSteps_endHolding d _ s

theorem deskSteps_takeRequest {s : State} (w : Bool) (n : Nat) {act : State → Answer}
    (h : DeskSteps J s (act s).state) : DeskSteps J s (takeRequest w n act s) := by
  unfold takeRequest
  split
  · exact h
  · exact .refl s

theorem deskSteps_deskRequest {s : State} (w : Bool) (n : Nat) (sel : Byte) {act : Desk → State → Answer}
    (h : ∀ d, DeskSteps J s (act d s).state) : DeskSteps J s (takeRequest w n (forDesk sel act) s) :=
  deskSteps_takeRequest w n (forDesk_keeps (P := DeskSteps J s) (.refl s) sel h)

theorem deskSteps_whenRuns {s : State} (runs : Bool) {work : State → State} (h : DeskSteps J s (work s)) :
    DeskSteps J s (whenRuns runs work s) :=
  whenRuns_keeps (P := DeskSteps J s) (.refl s) runs fun _ => h

theorem FloorKept.deskSteps {s t : State} (h : FloorKept s t) : DeskSteps J s t := .of_desks h.desks

end

/-! ### Every command but a snapshot complete -/

/-- R73: no command but a SNAPSHOT_COMPLETE begins a holding. -/
theorem deskSteps_exec {i : Instr} (hi : ∀ o b, i ≠ .snapshotComplete o b) (s : State) :
    ∃ t, exec i s = .next t ∧ DeskSteps True s t := by
  cases i with
  | powerOnReset | brownOutReset | pinReset =>
    refine ⟨_, rfl, fun d => ?_⟩
    have e (cause : ResetCause) : getDesk (resetTo cause s) d = .reset := Four.get_all _ d
    rw [e]
    exact ⟨fun _ => ⟨recordShape_absent, recordShape_absent, fun _ hx => nomatch hx⟩, (nomatch ·), (nomatch ·)⟩
  | resetEnd stn settle => exact ⟨_, rfl, deskSteps_ite _ (.of_desks rfl)⟩
  | settleEnd => exact ⟨_, rfl, deskSteps_ite _ (.of_desks rfl)⟩
  | emptyTransaction => exact ⟨_, rfl, .of_desks rfl⟩
  | readTransaction n w => exact ⟨_, rfl, deskSteps_ite _ (.of_desks rfl)⟩
  | badRequest bytes w => exact ⟨_, rfl, deskSteps_ite _ (.of_desks rfl)⟩
  | setField f v w => exact ⟨_, rfl, deskSteps_takeRequest w _ (floorKept_setRequest _ _ s).deskSteps⟩
  | closeSetup w => exact ⟨_, rfl, deskSteps_takeRequest w _ (deskSteps_closeRequest s)⟩
  | loadClip n cells w => exact ⟨_, rfl, deskSteps_takeRequest w _ (floorKept_loadClipRequest _ cells s).deskSteps⟩
  | guardOn w => exact ⟨_, rfl, deskSteps_takeRequest w _ (floorKept_guardOnRequest s).deskSteps⟩
  | openDesk sel cls w => exact ⟨_, rfl, deskSteps_deskRequest w _ sel fun d => deskSteps_openRequest cls d s⟩
  | closeDesk sel w => exact ⟨_, rfl, deskSteps_deskRequest w _ sel fun d => deskSteps_closeDeskRequest d s⟩
  | claim sel w => exact ⟨_, rfl, deskSteps_deskRequest w _ sel fun d => deskSteps_claimRequest d s⟩
  | release sel mode w => exact ⟨_, rfl, deskSteps_deskRequest w _ sel fun d => deskSteps_releaseRequest mode d s⟩
  | push sel n flags cells w =>
    exact ⟨_, rfl, deskSteps_deskRequest w _ sel fun d => (floorKept_pushRequest n _ cells d s).deskSteps⟩
  | flush sel w => exact ⟨_, rfl, deskSteps_deskRequest w _ sel fun d => (floorKept_flushRequest d s).deskSteps⟩
  | trim sel v w => exact ⟨_, rfl, deskSteps_deskRequest w _ sel fun d => (floorKept_trimRequest v d s).deskSteps⟩
  | deskEvents sel w =>
    exact ⟨_, rfl, deskSteps_deskRequest w _ sel fun d => deskSteps_acknowledge d (clearDeskFlags d s)⟩
  | deskStatus sel w =>
    exact ⟨_, rfl, deskSteps_deskRequest w _ sel fun d => (floorKept_deskStatusRequest d s).deskSteps⟩
  | siteEvents w | siteStatus w | floorView w | history w | guardRead w =>
    exact ⟨_, rfl, deskSteps_takeRequest w _ (.of_desks rfl)⟩
  | clamp sel w => exact ⟨_, rfl, deskSteps_deskRequest w _ sel fun d => (floorKept_clampRequest d s).deskSteps⟩
  | unclamp sel w => exact ⟨_, rfl, deskSteps_deskRequest w _ sel fun d => (floorKept_unclampRequest d s).deskSteps⟩
  | mask sel word w => exact ⟨_, rfl, deskSteps_takeRequest w _ (floorKept_maskRequest sel word s).deskSteps⟩
  | frameStart b => exact ⟨_, rfl, deskSteps_whenRuns _ ((deskSteps_timingStage s).trans (deskSteps_frameWork b _))⟩
  | syncFieldsReceived x => exact ⟨_, rfl, deskSteps_whenRuns _ (deskSteps_syncFields x s)⟩
  | slotReceived k x => exact ⟨_, rfl, deskSteps_whenRuns _ (deskSteps_slotArrives k x s)⟩
  | keySample a b c d => exact ⟨_, rfl, deskSteps_whenRuns _ (deskSteps_keySampleWork _ s)⟩
  | snapshotComplete o b => exact absurd rfl (hi o b)
  | programReceived x => exact ⟨_, rfl, deskSteps_whenRuns _ (deskSteps_programWork x s)⟩
  | syncPatternFound pos c n =>
    refine ⟨_, rfl, deskSteps_whenRuns _ ?_⟩
    unfold patternFound
    split
    · exact deskSteps_relock c n s
    · exact .of_desks (by simp)
  | relockTestPassed pos c n => exact ⟨_, rfl, deskSteps_whenRuns _ (deskSteps_relock c n s)⟩
  | huntWaitExpired | holdoverWaitExpired => exact ⟨_, rfl, deskSteps_whenRuns _ (deskSteps_timingStage s)⟩
  | missRunLimit => exact ⟨_, rfl, deskSteps_whenRuns _ (deskSteps_countMiss s)⟩
  | timingReadbackLimit => exact ⟨_, rfl, deskSteps_whenRuns _ (deskSteps_readbackMiss s)⟩
  | fence =>
    refine ⟨_, rfl, deskSteps_whenRuns _ ?_⟩
    exact (deskSteps_enterFenced (putFenceRun 3 s)).then_desks (by simp [fenceEvent])
  | peerLost k driven => exact ⟨_, rfl, deskSteps_whenRuns _ (floorKept_peerStale k driven s).deskSteps⟩
  | waitExpiry => exact ⟨_, rfl, deskSteps_whenRuns _ (deskSteps_expireWaits s)⟩
  | timeLimit => exact ⟨_, rfl, deskSteps_whenRuns _ (deskSteps_applyTimeLimit s)⟩
  | splitRelease => exact ⟨_, rfl, deskSteps_whenRuns _ (deskSteps_splitEvent s)⟩
  | barLifted d => exact ⟨_, rfl, deskSteps_whenRuns _ (deskSteps_barStep d s)⟩
  | leadEnd | primeToOn | gapDeclared | releaseAfterDone | drainComplete | starvation | tailEnd | identEnd =>
    exact ⟨_, rfl, deskSteps_whenRuns _ (deskSteps_airDecide s)⟩
  | idDue holder => exact ⟨_, rfl, deskSteps_whenRuns _ (deskSteps_voiceReceived _ s)⟩
  | heatSet => exact ⟨_, rfl, (floorKept_heatEvent s).deskSteps⟩
  | chargePhaseEnd _ | dischargeEnd _ | dischargeOverflow => exact ⟨_, rfl, .of_desks (by simp)⟩
  | relockCandidateDropped _ | announceComplete | peerJoined _ | totenf | idOverdue | tailWaitComplete | orphan
  | programRunLimit | stuck | noRf | reflectSet | reflectClear | settleComplete | guardCycleBegin =>
    exact ⟨_, rfl, deskSteps_whenRuns _ (.of_desks (by simp))⟩

end Sys2Proof

namespace Sys2Proof
open Machine

/-! ## The verdict and the grant of a snapshot complete (R65 to R73, R46) -/

/-! ### The state that the floor decisions are taken in -/

/-- The state that the floor decisions of a snapshot complete start from; the identification unit may have gone first. -/
def decidingState (identFirst : Bool) (s : State) : State :=
  if identFirst then identWork (expireWaits (digestedState s)) else expireWaits (digestedState s)

theorem deciding_frame (b : Bool) (s : State) : (decidingState b s).setup = s.setup
    ∧ (decidingState b s).sync = s.sync ∧ (decidingState b s).member = s.member
    ∧ (decidingState b s).clamp = s.clamp
    ∧ (decidingState b s).bus = { s.bus with fenceRun := fenceRunNext s } := by
  have hrun : (putFenceRun (fenceRunNext s) s).bus = { s.bus with fenceRun := fenceRunNext s } := rfl
  cases b <;> simp [decidingState, digestedState, formedState, testedState, hrun]

theorem deciding_claims (b : Bool) (s : State) :
    (decidingState b s).claims = (expireWaits (digestedState s)).claims := by
  cases b <;> simp [decidingState]

theorem ClaimsStand.trans {s t u : State} (h : ClaimsStand s t) (k : ClaimsStand t u) : ClaimsStand s u :=
  ⟨k.claims.trans h.claims, k.history.trans h.history, k.deskFlags.trans h.deskFlags,
    fun f hf => k.siteFlags f (h.siteFlags f hf), h.air.trans k.air⟩

theorem deciding_identLast (s : State) : decidingState false s = expireWaits (digestedState s) :=
  if_neg Bool.false_ne_true

theorem deciding_identFirst (s : State) : decidingState true s = identWork (expireWaits (digestedState s)) := if_pos rfl

/-- The work that follows the floor decisions leaves what they decide. -/
theorem claimsStand_decided (b : Bool) (s : State) :
    ClaimsStand (floorDecisions false (decidingState b s)) (decidedState b (digestedState s)) := by
  cases b
  · rw [decided_identLast, ← deciding_identLast]
    exact (claimsStand_identWork _).trans (claimsStand_orphanStep _)
  · rw [decided_identFirst, ← deciding_identFirst]
    exact claimsStand_orphanStep _

/-- Without a FENCE report a snapshot complete goes through its stages, the floor decisions and the identification unit. -/
theorem exec_snapshotComplete_of_not_fenceReported {s : State} (hp : pointsRun s = true)
    (hf : fenceReported s = false) (o : FenceOrder) (b : Bool) :
    exec (.snapshotComplete o b) s = .next (decidedState b (digestedState s)) := by
  have hwork : snapshotWork o b s = decidedState b (digestedState s) := by
    simp only [snapshotWork, hf, snapshotAndIdent]
    rfl
  rw [← hwork]
  exact exec_of_runs (i := .snapshotComplete o b) rfl hp

/-! ### The verdict (R65 to R72) -/

theorem onlyDesks_grantStep (s : State) : onlyDesks s (grantStep s) := by
  unfold grantStep
  split
  · split
    · exact onlyDesks_grantDesk _ s
    · exact onlyDesks_of_eq rfl
  · exact onlyDesks_of_eq rfl

theorem onlyDesks_floorDecisions (fenceNow : Bool) (s : State) :
    onlyDesks (setVerdict s) (floorDecisions fenceNow s) :=
  (onlyDesks_grantStep _).after (onlyDesks_endingsDecided fenceNow s)

/-- R66 to R71: the six conditions, of the frame that s is in and the snapshot and digest test of t. -/
def condsOf (s t : State) : Conds where
  c1 := memberActive s
  c2 := condition2 s
  c3 := t.claims.disagree == 0
  c4 := notClamped s
  c5 := (snapHolder t).isNone && !identOnBus s
  c6 := !s.bus.sampNow.keyl && !s.bus.sampPrev.keyl

theorem testConds_deciding (b : Bool) (s : State) :
    testConds (decidingState b s) = condsOf s (decidingState b s) := by
  obtain ⟨hsetup, hsync, hmember, hclamp, hbus⟩ := deciding_frame b s
  have hjudged (k : Station) : judgedFresh (decidingState b s) k = judgedFresh s k := by
    simp only [judgedFresh, ownStation, hsetup, hbus]
  have hstale : joinedStale (decidingState b s) = joinedStale s := by
    simp only [joinedStale, joined, hjudged, ownStation, hsetup, hmember]
  have hfresh : freshHeader (decidingState b s) = freshHeader s := by
    funext k
    rw [freshHeader, freshHeader, hjudged, hbus]
  have hident : identOnBus (decidingState b s) = identOnBus s := by
    rw [identOnBus, identOnBus, hfresh, hbus]
  simp only [testConds, condsOf, condition2, hstale, hident, notClamped, memberActive, syncActive, hsync, hmember,
    hclamp, hbus]

/-- R65, R72: what the verdict of a snapshot complete is, read off the state that it leaves. -/
theorem decided_verdict (b : Bool) (s : State) :
    (decidedState b (digestedState s)).claims.conds = condsOf s (decidedState b (digestedState s))
    ∧ (decidedState b (digestedState s)).claims.verdict
      = verdictOf (decidedState b (digestedState s)).claims.conds (snapWaiting (decidedState b (digestedState s)))
    ∧ (decidedState b (digestedState s)).claims.grantee
      = (if (decidedState b (digestedState s)).claims.verdict = .grant
        then (snapWaiting (decidedState b (digestedState s))).head?.map seatName else none) := by
  have hclaims := (claimsStand_decided b s).claims
  rw [onlyDesks_floorDecisions false (decidingState b s)] at hclaims
  have hconds : condsOf s (decidedState b (digestedState s)) = testConds (decidingState b s) := by
    rw [testConds_deciding, condsOf, snapHolder, hclaims]
    rfl
  rw [hconds, snapWaiting, hclaims]
  exact ⟨rfl, rfl, rfl⟩

/-- R72: the verdict GRANT needs all six conditions. -/
theorem conds_of_verdict_grant {c : Conds} {waiting : List Seat} (h : verdictOf c waiting = .grant) :
    c = ⟨true, true, true, true, true, true⟩ := by
  unfold verdictOf at h
  repeat (split at h; · cases h)
  cases c
  simp_all

/-! ### The grant (R46, R73) -/

theorem getDesk_grantDesk (d e : Desk) (s : State) : getDesk (grantDesk d s) e =
    if e = d ∧ hasState s d .waiting then (getDesk s d).granted else getDesk s e := by
  unfold grantDesk hasState
  by_cases h : (getDesk s d).record.state = .waiting
  · simp only [h, if_true, and_true]
    exact getDesk_setDesk d e (getDesk s d).granted s
  · simp [h]

/-- R73: only the grantee's own desk is changed by the grant, and only where it is WAITING. -/
theorem grantStep_of_grantee {s : State} {d : Desk} (h : s.claims.grantee = some (ownStation s, d)) :
    grantStep s = grantDesk d s := by
  rw [grantStep, h]
  exact if_pos rfl

theorem grantStep_of_not {s : State} (h : ∀ d, s.claims.grantee ≠ some (ownStation s, d)) : grantStep s = s := by
  unfold grantStep
  split
  next k d hg => exact if_neg fun hk => h d (by rw [hg, hk])
  next => rfl

theorem holding_of_grantStep {s : State} {d : Desk} (h : hasState (grantStep s) d .holding) :
    hasState s d .holding ∨ s.claims.grantee = some (ownStation s, d) ∧ hasState s d .waiting := by
  by_cases hg : ∃ e, s.claims.grantee = some (ownStation s, e)
  · obtain ⟨e, hg⟩ := hg
    rw [grantStep_of_grantee hg, hasState, getDesk_grantDesk] at h
    split at h
    next hw => exact .inr ⟨hw.1 ▸ hg, hw.1 ▸ hw.2⟩
    next => exact .inl h
  · rw [grantStep_of_not (not_exists.mp hg)] at h
    exact .inl h

/-! ### Up to the grant no holding and no wait begins -/

theorem deskSteps_deciding (b : Bool) (s : State) : DeskSteps False s (decidingState b s) := by
  have htest : DeskSteps False s ((testedState s).setClaims (formedClaims s)) := .of_desks rfl
  have hformed : DeskSteps False s (formedState s) := by
    rw [formedState_eq]
    exact htest.trans (deskSteps_endReplaced _ _ _)
  have hdigest : DeskSteps False s (digestedState s) := hformed.then_desks (by simp [digestedState, computeDigest])
  exact (hdigest.trans (deskSteps_expireWaits _)).then_desks (by rw [deciding_claims])

theorem deskSteps_endingsDecided (fenceNow : Bool) (s : State) : DeskSteps False s (endingsDecided fenceNow s) := by
  have hverdict : DeskSteps False s (setVerdict s) := .of_desks rfl
  have hlimit := hverdict.trans (deskSteps_applyTimeLimit _)
  have htot : DeskSteps False s (enforceTot fenceNow (applyTimeLimit (setVerdict s))) := hlimit.then_desks (by simp)
  exact (htot.trans (deskSteps_releaseSplit _)).trans (deskSteps_preempt _)

/-- The floor decisions of a snapshot complete up to the pre-emption. -/
def endedState (identFirst : Bool) (s : State) : State := endingsDecided false (decidingState identFirst s)

theorem deskSteps_ended (b : Bool) (s : State) : DeskSteps False s (endedState b s) :=
  (deskSteps_deciding b s).trans (deskSteps_endingsDecided false _)

theorem ownStation_ended (b : Bool) (s : State) : ownStation (endedState b s) = s.setup.station := by
  simp [ownStation, endedState, endingsDecided, (deciding_frame b s).1]

theorem grantee_ended (b : Bool) (s : State) :
    (endedState b s).claims.grantee = (decidedState b (digestedState s)).claims.grantee := by
  rw [(claimsStand_decided b s).claims, onlyDesks_floorDecisions, endedState, grantee_endingsDecided]

theorem getDesk_decided (b : Bool) (s : State) (d : Desk) :
    getDesk (decidedState b (digestedState s)) d = getDesk (grantStep (endedState b s)) d :=
  getDesk_of_claims (claimsStand_decided b s).claims d

/-- R65, R73: a holding that a snapshot complete begins is that of a WAITING grantee. -/
theorem grantee_of_holding_decided {s : State} {d : Desk} {b : Bool} (hno : ¬ hasState s d .holding)
    (h : hasState (decidedState b (digestedState s)) d .holding) :
    (decidedState b (digestedState s)).claims.grantee = some (s.setup.station, d) ∧ hasState s d .waiting := by
  have hsteps := deskSteps_ended b s d
  rw [hasState, getDesk_decided] at h
  rcases holding_of_grantStep h with hold | ⟨hg, hw⟩
  · exact absurd (hsteps.holding hold) hno
  · rw [grantee_ended, ownStation_ended] at hg
    exact ⟨hg, (hsteps.waiting hw).resolve_right id⟩

/-- A SNAPSHOT_COMPLETE that begins a holding is one that runs, with no FENCE reported. -/
theorem snapshotComplete_of_holding_begins {s t : State} {o : FenceOrder} {b : Bool} {d : Desk}
    (hexec : exec (.snapshotComplete o b) s = .next t) (hno : ¬ hasState s d .holding) (h : hasState t d .holding) :
    t = decidedState b (digestedState s) := by
  by_cases hp : pointsRun s = true
  · cases hf : fenceReported s with
    | false =>
      rw [exec_snapshotComplete_of_not_fenceReported hp hf] at hexec
      cases hexec
      rfl
    | true =>
      have hjoin : s.member.join ≠ .fenced := by
        simp only [fenceReported, Bool.and_eq_true] at hf
        rcases (canFence_iff s).mp hf.1.1.1 with hj | hj | hj <;> rw [hj] <;> decide
      have hout := fencedOut_orphanStep
        (fencedOut_snapshotWithFence (s := putFenceRun (fenceRunNext s) s) hjoin o b)
      rw [exec_snapshotComplete_of_fenceReported hp hf] at hexec
      cases hexec
      exact absurd h (hout.idle d).2
  · have hidle : exec (.snapshotComplete o b) s = .next s := by
      simp [exec, execSnapshotComplete, whenRuns, hp]
    rw [hidle] at hexec
    cases hexec
    exact absurd h hno

/-- R66: condition 1, spelled out. -/
theorem memberActive_iff (s : State) : memberActive s = true ↔
    (s.sync.state = .locked ∨ s.sync.state = .timing) ∧ s.member.join = .member := by
  simp [memberActive, syncActive]

/-- Settles O40: no other command begins a holding (`deskSteps_exec`), and in a snapshot complete only the last of the floor
decisions does, for the grantee of the verdict. -/
theorem grantsComeFromTheVerdict : Obligations.GrantsComeFromTheVerdict := by
  intro i s t d hexec hno h
  by_cases hi : ∃ o b, i = .snapshotComplete o b
  · obtain ⟨o, b, rfl⟩ := hi
    obtain rfl := snapshotComplete_of_holding_begins hexec hno h
    obtain ⟨hg, hw⟩ := grantee_of_holding_decided hno h
    obtain ⟨hconds, hverdict, hgrantee⟩ := decided_verdict b s
    have hgrant : (decidedState b (digestedState s)).claims.verdict = .grant := by
      by_contra hv
      rw [hgrantee, if_neg hv] at hg
      cases hg
    have hall := conds_of_verdict_grant (hverdict.symm.trans hgrant)
    rw [hall, condsOf, Conds.mk.injEq] at hconds
    obtain ⟨h1, -, -, -, h5, -⟩ := hconds
    obtain ⟨hsync, hjoin⟩ := (memberActive_iff s).mp h1.symm
    have hnone : snapHolder (decidedState b (digestedState s)) = none :=
      Option.isNone_iff_eq_none.mp (Bool.and_eq_true_iff.mp h5.symm).1
    exact ⟨⟨o, b, rfl⟩, hgrant, hall, hg, hw, hsync, hjoin, holderOf_none hnone⟩
  · obtain ⟨u, hu, hsteps⟩ := deskSteps_exec (i := i) (fun o b hc => hi ⟨o, b, hc⟩) s
    rw [hu] at hexec
    cases hexec
    exact absurd ((hsteps d).holding h) hno

end Sys2Proof

namespace Sys2Proof
open Machine

/-! ### What the verdict, the grant and the pre-emption are read from -/

theorem holderOf_eq_none_iff (now : Count) (r : Records) : holderOf now r = none ↔ ∀ k d, ¬ holdsFloor r k d := by
  refine ⟨fun h => holderOf_none h, fun h => ?_⟩
  cases hw : holderOf now r with
  | none => rfl
  | some w => exact absurd (holderOf_some hw).2.1 (h _ _)

/-- R72, with each condition that fails read as false. -/
theorem verdictOf_eq (c : Conds) (waiting : List Seat) : verdictOf c waiting =
    if c.c1 = false then .notActive
    else if c.c2 = false then .frozenStale
    else if c.c3 = false then .frozenSplit
    else if c.c4 = false then .clampSettling
    else if c.c5 = false then .occupied
    else if c.c6 = false then .keyGap
    else if waiting = [] then .noClaim else .grant := by
  simp only [verdictOf, Bool.not_eq_true', List.isEmpty_iff]

/-- R75: whose holding is pre-empted. -/
theorem preempted_eq_some_iff (s : State) (d : Desk) : preempted s = some d ↔
    s.claims.conds.c1 = true ∧ s.claims.conds.c2 = true ∧ s.claims.conds.c3 = true
    ∧ (∃ h, snapHolder s = some h ∧ h.station = ownStation s ∧ h.desk = d ∧ h.record.cls = .normal)
    ∧ ∃ g, (snapWaiting s).head? = some g ∧ g.record.cls = .control := by
  unfold preempted
  cases hh : snapHolder s with
  | none => simp
  | some h =>
    cases hg : snapWaiting s with
    | nil => simp
    | cons g gs =>
      simp only [Option.ite_none_right_eq_some, Bool.and_eq_true, beq_iff_eq, Option.some.injEq, exists_eq_left',
        List.head?_cons]
      tauto

/-- The floor decisions of a snapshot complete up to the release of R79, that is all but the pre-emption and the grant. -/
def releasedState (identFirst : Bool) (s : State) : State :=
  releaseSplit (enforceTot false (applyTimeLimit (setVerdict (decidingState identFirst s))))

theorem endedState_eq (b : Bool) (s : State) : endedState b s = preempt (releasedState b s) := rfl

theorem onlyDesks_released (b : Bool) (s : State) : onlyDesks (setVerdict (decidingState b s)) (releasedState b s) :=
  (onlyDesks_releaseSplit _).after ((onlyDesks_of_eq (by simp)).after (onlyDesks_applyTimeLimit _))

/-- R75, read off the state that a snapshot complete leaves. -/
theorem preempted_released_iff (b : Bool) (s : State) (d : Desk) : preempted (releasedState b s) = some d ↔
    (decidedState b (digestedState s)).claims.conds.c1 = true
    ∧ (decidedState b (digestedState s)).claims.conds.c2 = true
    ∧ (decidedState b (digestedState s)).claims.conds.c3 = true
    ∧ (∃ h, snapHolder (decidedState b (digestedState s)) = some h ∧ h.station = s.setup.station ∧ h.desk = d
      ∧ h.record.cls = .normal)
    ∧ ∃ g, (snapWaiting (decidedState b (digestedState s))).head? = some g ∧ g.record.cls = .control := by
  have hstation : ownStation (releasedState b s) = s.setup.station := by
    simp [ownStation, releasedState, (deciding_frame b s).1]
  have hclaims := (claimsStand_decided b s).claims
  rw [onlyDesks_floorDecisions false (decidingState b s)] at hclaims
  rw [preempted_eq_some_iff, hstation, snapHolder, snapWaiting, onlyDesks_released b s, snapHolder, snapWaiting, hclaims]

/-! ### A desk that waits is granted (R46) -/

theorem grantDesk_spec {d : Desk} {s : State} (h : hasState s d .waiting) :
    getDesk (grantDesk d s) d = (getDesk s d).granted ∧ deskFlagSet (grantDesk d s) d .granted
    ∧ (grantDesk d s).air.pendingStart = some d := by
  refine ⟨by rw [getDesk_grantDesk, if_pos ⟨rfl, h⟩], ?_, ?_⟩
  · rw [grantDesk, if_pos h]
    exact deskFlagSet_raiseDesk d .granted (setDesk s d (getDesk s d).granted)
  · rw [grantDesk, if_pos h]
    rfl

/-- The identification unit leaves a pending start. -/
theorem pendingStart_identWork (s : State) : (identWork s).air.pendingStart = s.air.pendingStart := by
  have horder (u : State) : (orderTail u).air.pendingStart = u.air.pendingStart := by
    unfold orderTail
    split <;> rfl
  have htail : (considerTail (tailWaitStep s)).air.pendingStart = s.air.pendingStart := by
    have hwait : (tailWaitStep s).air = s.air := by simp
    unfold considerTail
    dsimp only
    split
    · split
      · rw [horder]
        exact congrArg _ hwait
      · exact congrArg _ hwait
    · exact congrArg _ hwait
  unfold identWork withdrawTail
  split
  · split <;> exact htail
  · exact htail

theorem pendingStart_decided (b : Bool) (s : State) : (decidedState b (digestedState s)).air.pendingStart
    = (grantStep (endedState b s)).air.pendingStart := by
  have horphan (u : State) : (orphanStep u).air = u.air := by simp
  cases b
  · rw [decided_identLast, ← deciding_identLast, horphan, pendingStart_identWork, floorDecisions_eq, endedState]
  · rw [decided_identFirst, ← deciding_identFirst, horphan, floorDecisions_eq, endedState]

/-! ### Each desk up to the grant -/

theorem getDesk_endReplaced (formed kept : Records) (s : State) (d : Desk) : getDesk (endReplaced formed kept s) d =
    if hasState s d .holding ∧ replacedAt formed kept (ownStation s) d = true then (getDesk s d).ended .split
    else getDesk s d := by
  refine getDesk_fold_of (I := fun t => ownStation t = ownStation s)
    (fun d s => if replacedAt formed kept (ownStation s) d then endHolding d .split s else s)
    (fun d o => if o.record.state = .holding ∧ replacedAt formed kept (ownStation s) d = true then o.ended .split else o)
    (fun d t ht => ?_) (fun d e t ht => ?_) rfl d
  · split
    · simpa [ownStation] using ht
    · exact ht
  · rw [ht]
    by_cases hr : replacedAt formed kept (ownStation s) d = true
    · rw [if_pos hr, getDesk_endHolding]
      by_cases hed : e = d <;> simp [hed, hr, hasState]
    · by_cases hed : e = d <;> simp [hed, hr]

theorem getDesk_digested (s : State) (d : Desk) : getDesk (digestedState s) d =
    if hasState s d .holding ∧ replacedAt (formedRecords s) (keptRecords s) s.setup.station d = true
    then (getDesk s d).ended .split else getDesk s d := by
  have hstation : ownStation ((testedState s).setClaims (formedClaims s)) = s.setup.station := by
    simp [ownStation, testedState]
  have hformed := getDesk_endReplaced (formedRecords s) (keptRecords s) ((testedState s).setClaims (formedClaims s)) d
  rw [← formedState_eq, hstation] at hformed
  have hdigest : getDesk (digestedState s) d = getDesk (formedState s) d :=
    by simp [getDesk, digestedState, computeDigest]
  rw [hdigest, hformed]
  rfl

/-- R51: a wait with no stamp, or not old enough, is there when the floor decisions begin. -/
theorem getDesk_deciding_of_waiting {s : State} {d : Desk} (hw : hasState s d .waiting)
    (hage : (getDesk s d).stampSet = false ∨ age (s.sync.count.getD 0) (getDesk s d).record.stamp < s.setup.maxWait)
    (b : Bool) : getDesk (decidingState b s) d = getDesk s d := by
  have hdigest : getDesk (digestedState s) d = getDesk s d := by
    rw [getDesk_digested, if_neg fun h => not_holding_of_waiting hw h.1]
  have hblocks : (digestedState s).sync = s.sync ∧ (digestedState s).setup = s.setup := by
    simp [digestedState, formedState, testedState]
  rw [getDesk_of_claims (deciding_claims b s), expireWaits_eq, getDesk_limitWork (limitAct_withdraw _),
    if_neg (not_reached (.inr ?_)), hdigest]
  rw [hdigest, hblocks.1, hblocks.2]
  exact hage

/-- R51, R58: a holding whose record is kept is there when the floor decisions begin. -/
theorem getDesk_deciding_of_holding {s : State} {d : Desk} (hs : hasState s d .holding)
    (hkept : holdsFloor (keptRecords s) s.setup.station d) (b : Bool) : getDesk (decidingState b s) d = getDesk s d := by
  have hdigest : getDesk (digestedState s) d = getDesk s d := by
    rw [getDesk_digested, if_neg]
    rintro ⟨-, hr⟩
    exact ((replacedAt_iff s _ d).mp hr).2 hkept
  have hwait : ¬ hasState (digestedState s) d .waiting := by
    rw [hasState, hdigest]
    exact fun h => not_holding_of_waiting h hs
  rw [getDesk_of_claims (deciding_claims b s), expireWaits_eq, getDesk_limitWork (limitAct_withdraw _),
    if_neg (not_reached (.inl hwait)), hdigest]

theorem getDesk_released_of_not {b : Bool} {s : State} {d : Desk}
    (h : ¬ (hasState (decidingState b s) d .holding
      ∧ ageAtLeast (deskAge (decidingState b s) (getDesk (decidingState b s) d)) s.setup.totLimit = true))
    (hrun : hasState (decidingState b s) d .holding → (decidedState b (digestedState s)).claims.splitRun ≠ 8) :
    getDesk (releasedState b s) d = getDesk (decidingState b s) d := by
  have hlimit : getDesk (enforceTot false (applyTimeLimit (setVerdict (decidingState b s)))) d
      = getDesk (decidingState b s) d := by
    have hsetup : (setVerdict (decidingState b s)).setup = s.setup := (deciding_frame b s).1
    rw [getDesk_of_claims (claimsStand_enforceTot false _).claims, applyTimeLimit_eq,
      getDesk_limitWork (limitAct_endHolding _), hsetup]
    exact if_neg h
  have hsplit : (enforceTot false (applyTimeLimit (setVerdict (decidingState b s)))).claims.splitRun
      = (decidedState b (digestedState s)).claims.splitRun := by
    rw [(claimsStand_enforceTot false _).claims, onlyDesks_applyTimeLimit, (claimsStand_decided b s).claims,
      onlyDesks_floorDecisions]
  unfold releasedState releaseSplit
  split
  next h8 =>
    rw [getDesk_endHoldings, if_neg, hlimit]
    rw [hasState, hlimit]
    exact fun hh => hrun hh (hsplit.symm.trans h8)
  next => exact hlimit

/-- The floor decisions end holdings only. -/
theorem getDesk_ended_of_not {b : Bool} {s : State} {d : Desk} (h : ¬ hasState (decidingState b s) d .holding) :
    getDesk (endedState b s) d = getDesk (decidingState b s) d := by
  have hreleased := getDesk_released_of_not (fun hc => h hc.1) (fun hc => absurd hc h)
  rw [endedState_eq, preempt]
  split
  · rw [getDesk_endHolding, if_neg, hreleased]
    rintro ⟨rfl, hc⟩
    rw [hasState, hreleased] at hc
    exact h hc
  · exact hreleased

/-- R46: the grant of a desk still WAITING whose wait has not expired. -/
theorem granted_decided {s : State} {d : Desk} {b : Bool} (hw : hasState s d .waiting)
    (hage : (getDesk s d).stampSet = false ∨ age (s.sync.count.getD 0) (getDesk s d).record.stamp < s.setup.maxWait)
    (hg : (decidedState b (digestedState s)).claims.grantee = some (s.setup.station, d)) :
    getDesk (decidedState b (digestedState s)) d = (getDesk s d).granted
    ∧ deskFlagSet (decidedState b (digestedState s)) d .granted
    ∧ (decidedState b (digestedState s)).air.pendingStart = some d := by
  have hdeciding := getDesk_deciding_of_waiting hw hage b
  have hdesk : getDesk (endedState b s) d = getDesk s d := by
    rw [getDesk_ended_of_not, hdeciding]
    rw [hasState, hdeciding]
    exact not_holding_of_waiting hw
  have hwait : hasState (endedState b s) d .waiting := by rw [hasState, hdesk]; exact hw
  have hstep : grantStep (endedState b s) = grantDesk d (endedState b s) := by
    apply grantStep_of_grantee
    rw [grantee_ended, ownStation_ended, hg]
  obtain ⟨hgranted, hflag, hstart⟩ := grantDesk_spec hwait
  rw [getDesk_decided, pendingStart_decided, hstep]
  refine ⟨by rw [hgranted, hdesk], ?_, hstart⟩
  rw [deskFlagSet, (claimsStand_decided b s).deskFlags, floorDecisions_eq, ← endedState, hstep]
  exact hflag

/-! ### A holding is pre-empted (R75) -/

/-- Before the pre-emption desk d and its place on the air stand as in s, or its holding has ended for another reason. -/
def Unpreempted (s : State) (d : Desk) (t : State) : Prop :=
  NotYetEnded s d t ∨ ∃ r, r ≠ .preempted ∧ getDesk t d = (getDesk s d).ended r

theorem Unpreempted.of_alike {s t u : State} {d : Desk} (h : Unpreempted s d t) (hd : getDesk u d = getDesk t d)
    (ha : ServesAlike t.air u.air) (hst : ownStation u = ownStation t) : Unpreempted s d u :=
  h.imp
    (fun k => ⟨hst.trans k.station, hd.trans k.desk, ha.serving.trans k.serving, fun hserve => (k.air hserve).trans ha⟩)
    fun ⟨r, hr, he⟩ => ⟨r, hr, hd.trans he⟩

theorem Unpreempted.ending {s t : State} {d : Desk} (h : Unpreempted s d t) (e : Desk) {r : EndReason}
    (hr : r ≠ .preempted) : Unpreempted s d (endHolding e r t) := by
  by_cases hed : e = d
  · subst hed
    by_cases hh : hasState t e .holding
    · rcases h with k | ⟨r', -, he⟩
      · exact .inr ⟨r, hr, by rw [getDesk_endHolding, if_pos ⟨rfl, hh⟩, k.desk]⟩
      · rw [hasState, he] at hh
        exact absurd hh (stateAfter_closed r').1
    · rwa [endHolding_of_not hh]
  · rcases h with k | ⟨r', hr', he⟩
    · exact .inl (k.other hed r)
    · exact .inr ⟨r', hr', by rw [getDesk_endHolding, if_neg fun hc => hed hc.1.symm, he]⟩

theorem Unpreempted.not_waiting {s t : State} {d : Desk} (h : Unpreempted s d t) (hs : hasState s d .holding) :
    ¬ hasState t d .waiting := by
  rcases h with k | ⟨r, -, he⟩
  · rw [hasState, k.desk]
    exact fun hw => not_holding_of_waiting hw hs
  · rw [hasState, he]
    exact (stateAfter_closed r).2

theorem Unpreempted.withdrawal {s t : State} {d : Desk} (h : Unpreempted s d t) (hs : hasState s d .holding) (e : Desk)
    (r : EndReason) : Unpreempted s d (withdraw e r t) := by
  refine h.of_alike ?_ (by simpa using .refl _) (by simp [ownStation])
  rw [getDesk_withdraw, if_neg]
  rintro ⟨rfl, hw⟩
  exact h.not_waiting hs hw

theorem unpreempted_deciding {s : State} {d : Desk} (hs : hasState s d .holding) (b : Bool) :
    Unpreempted s d (decidingState b s) := by
  have htest : Unpreempted s d ((testedState s).setClaims (formedClaims s)) :=
    .inl ⟨by simp [ownStation, testedState], rfl, by simp [testedState], fun _ => by simpa [testedState] using .refl _⟩
  have hformed : Unpreempted s d (formedState s) := by
    rw [formedState_eq]
    refine fold_preserves (P := Unpreempted s d)
      (fun d t => if replacedAt (formedRecords s) (keptRecords s) (ownStation t) d then endHolding d .split t else t)
      (fun e t ht => ?_) htest
    split
    · exact ht.ending e (by decide)
    · exact ht
  have hdigest : Unpreempted s d (digestedState s) :=
    hformed.of_alike (by simp [getDesk, digestedState, computeDigest]) (by simpa [digestedState] using .refl _)
      (by simp [ownStation, digestedState])
  have hwaits : Unpreempted s d (expireWaits (digestedState s)) := by
    refine fold_preserves (P := Unpreempted s d)
      (fun d s => if ageAtLeast (deskAge s (getDesk s d)) s.setup.maxWait then withdraw d .waitExpired s else s)
      (fun e t ht => ?_) hdigest
    split
    · exact ht.withdrawal hs e _
    · exact ht
  cases b
  · rwa [deciding_identLast]
  · rw [deciding_identFirst]
    exact hwaits.of_alike (getDesk_of_claims (by simp) d) (servesAlike_identWork _) (by simp [ownStation])

theorem unpreempted_released {s : State} {d : Desk} (hs : hasState s d .holding) (b : Bool) :
    Unpreempted s d (releasedState b s) := by
  have hverdict : Unpreempted s d (setVerdict (decidingState b s)) :=
    (unpreempted_deciding hs b).of_alike rfl (.refl _) rfl
  have hlimit : Unpreempted s d (applyTimeLimit (setVerdict (decidingState b s))) := by
    refine fold_preserves (P := Unpreempted s d)
      (fun d s => if ageAtLeast (deskAge s (getDesk s d)) s.setup.totLimit then endHolding d .timeout s else s)
      (fun e t ht => ?_) hverdict
    split
    · exact ht.ending e (by decide)
    · exact ht
  have htot : Unpreempted s d (enforceTot false (applyTimeLimit (setVerdict (decidingState b s)))) :=
    hlimit.of_alike (getDesk_of_claims (by simp) d) (by simpa using .refl _) (by simp [ownStation])
  unfold releasedState releaseSplit
  split
  · exact fold_preserves (P := Unpreempted s d) (fun d s => endHolding d .split s)
      (fun e t ht => ht.ending e (by decide)) htot
  · exact htot

/-- R75, R115: the pre-empted holding ends, the desk and its place on the air standing until then. -/
theorem preempted_decided {s : State} {d : Desk} {b : Bool} (hs : hasState s d .holding)
    (hpre : preempted (releasedState b s) = some d) (hdesk : getDesk (releasedState b s) d = getDesk s d)
    (hg : (decidedState b (digestedState s)).claims.grantee = none) :
    holdingEndedAt .preempted s (decidedState b (digestedState s)) d
    ∧ servedEnding s (decidedState b (digestedState s)) d := by
  have hh : hasState (releasedState b s) d .holding := by rw [hasState, hdesk]; exact hs
  have hstands : NotYetEnded s d (releasedState b s) := by
    refine (unpreempted_released hs b).resolve_right ?_
    rintro ⟨r, -, he⟩
    rw [hasState, he] at hh
    exact (stateAfter_closed r).1 hh
  have hended : endedState b s = endHolding d .preempted (releasedState b s) := by rw [endedState_eq, preempt, hpre]
  have hgrant : grantStep (endedState b s) = endedState b s :=
    grantStep_of_not fun e => by rw [grantee_ended, hg]; exact (nomatch ·)
  have hleft := claimsStand_decided b s
  rw [floorDecisions_eq, ← endedState, hgrant, hended] at hleft
  obtain ⟨-, -, -, hserved, -⟩ := endHolding_spec hh .preempted
  obtain ⟨hrec, hdrain, hpub⟩ := ended_record (getDesk s d) .preempted (by decide) (by decide)
  refine ⟨⟨fun _ => ?_, fun hno => absurd hs hno⟩, fun hserve => ?_⟩
  · have hend : getDesk (decidedState b (digestedState s)) d = (getDesk s d).ended .preempted := by
      rw [getDesk_of_claims hleft.claims, getDesk_endHolding, if_pos ⟨rfl, hh⟩, hdesk]
    rw [hend]
    refine ⟨hrec, hdrain, hpub, ?_⟩
    rw [deskFlagSet, hleft.deskFlags]
    exact deskFlagSet_endHolding .preempted hh
  · have hair := hserved (hstands.serving.trans hserve)
    rw [(hstands.air hserve).state] at hair
    rw [hleft.air.state, hleft.air.tailRun, hleft.air.holdingEnded]
    exact hair

/-- R75: only the pre-emption ends a holding with PREEMPTED. -/
theorem preempted_of_reason {s : State} {d : Desk} {b : Bool} (hs : hasState s d .holding)
    (hreason : (getDesk s d).record.reason = .noReason)
    (h : (getDesk (decidedState b (digestedState s)) d).record.reason = .preempted) :
    preempted (releasedState b s) = some d := by
  have hun := unpreempted_released hs b
  by_contra hpre
  have hended : getDesk (endedState b s) d = getDesk (releasedState b s) d := by
    rw [endedState_eq, preempt]
    split
    next e he =>
      rw [getDesk_endHolding, if_neg]
      rintro ⟨rfl, -⟩
      exact hpre he
    next => rfl
  have hwait : ¬ hasState (endedState b s) d .waiting := by
    rw [hasState, hended]
    exact hun.not_waiting hs
  have hgrant : getDesk (grantStep (endedState b s)) d = getDesk (endedState b s) d := by
    by_cases hg : ∃ e, (endedState b s).claims.grantee = some (ownStation (endedState b s), e)
    · obtain ⟨e, hg⟩ := hg
      rw [grantStep_of_grantee hg, getDesk_grantDesk, if_neg]
      rintro ⟨rfl, hw⟩
      exact hwait hw
    · rw [grantStep_of_not (not_exists.mp hg)]
  rw [getDesk_decided, hgrant, hended] at h
  rcases hun with k | ⟨r, hr, he⟩
  · rw [k.desk, hreason] at h
    cases h
  · rw [he] at h
    exact hr h

/-- R61, R79: with conditions 1 to 3 held the split run is 0. -/
theorem splitRun_decided_of_agreement {b : Bool} {s : State} (h1 : memberActive s = true) (h2 : condition2 s = true)
    (h3 : (decidedState b (digestedState s)).claims.disagree = 0) :
    (decidedState b (digestedState s)).claims.splitRun = 0 := by
  rw [decided_claims] at h3 ⊢
  have hn : disagreeing s = 0 := h3
  have hrun : splitRunNext s = 0 := by simp [splitRunNext, h1, h2, hn]
  exact hrun

/-- Settles O39: the verdict by `decided_verdict`, the grant by `granted_decided`, the pre-emption by `preempted_decided`
and `preempted_of_reason`. -/
theorem verdictFromSixConditions : Obligations.VerdictFromSixConditions := by
  intro s o b hp hnf
  refine ⟨_, exec_snapshotComplete hp hnf o b, ?_⟩
  obtain ⟨hconds, hverdict, hgrantee⟩ := decided_verdict b s
  have hc1 : (decidedState b (digestedState s)).claims.conds.c1 = memberActive s := congrArg Conds.c1 hconds
  have hc2 : (decidedState b (digestedState s)).claims.conds.c2 = condition2 s := congrArg Conds.c2 hconds
  have hc3 : (decidedState b (digestedState s)).claims.conds.c3 = true
      ↔ (decidedState b (digestedState s)).claims.disagree = 0 := by rw [hconds]; exact beq_iff_eq
  have hc5 : (decidedState b (digestedState s)).claims.conds.c5 = true
      ↔ snapHolder (decidedState b (digestedState s)) = none ∧ identOnBus s = false := by
    rw [hconds, condsOf, Bool.and_eq_true, Option.isNone_iff_eq_none, Bool.not_eq_true']
  refine ⟨by rw [hc1], by rw [hc2, condition2_iff], hc3, by rw [hconds]; exact beq_iff_eq,
    by rw [hc5, snapHolder, holderOf_eq_none_iff], by simp [hconds, condsOf], hverdict.trans (verdictOf_eq _ _),
    fun hv => by rw [hgrantee, if_neg hv], fun hv => by rw [hgrantee, if_pos hv]; rfl,
    fun d hg hw hage => granted_decided hw hage hg, fun h g h1 h2 h3 hh hst hcls hs hage hg hctl => ?_,
    fun d hs hreason h => (preempted_released_iff b s d).mp (preempted_of_reason hs hreason h)⟩
  have hpre := (preempted_released_iff b s h.desk).mpr ⟨h1, h2, h3, ⟨h, hh, hst, rfl, hcls⟩, g, hg, hctl⟩
  have hholds : holdsFloor (keptRecords s) s.setup.station h.desk := by
    obtain ⟨-, hholds, -⟩ := holderOf_some hh
    rwa [snap_decided, hst] at hholds
  have hdeciding := getDesk_deciding_of_holding hs hholds b
  have hdesk : getDesk (releasedState b s) h.desk = getDesk s h.desk := by
    have hrun := splitRun_decided_of_agreement (hc1 ▸ h1) (hc2 ▸ h2) (hc3.mp h3)
    rw [getDesk_released_of_not (not_reached (.inr ?_)) fun _ => by rw [hrun]; decide, hdeciding]
    rw [hdeciding, (deciding_frame b s).2.1]
    exact hage
  have hnone : (decidedState b (digestedState s)).claims.grantee = none := by
    rw [hgrantee, if_neg]
    intro hv
    have hall := conds_of_verdict_grant (hverdict.symm.trans hv)
    have hno := (hc5.mp (by rw [hall])).1
    rw [hh] at hno
    cases hno
  obtain ⟨hended, hair⟩ := preempted_decided hs hpre hdesk hnone
  exact ⟨hended, fun hserve => (hair hserve).1⟩

end Sys2Proof

namespace Sys2Proof
open Machine

/-! ## The order of a desk queue (R90, R92, R94 to R97) -/

/-! ### Positions from another base -/

/-- Positions seen from a later base that no block lies before. -/
theorem ascendingFrom_laterBase {base new : Seq} : ∀ {low : Nat} {bs : List Block}, (new - base).toNat ≤ low →
    ascendingFrom base low bs → ascendingFrom new (low - (new - base).toNat) bs
  | _, [], _, _ => trivial
  | low, b :: rest, hlow, ⟨hle, hhalf, hrest⟩ => by
    have hpos : (b.seq - new).toNat = (b.seq - base).toNat - (new - base).toNat := by
      have hdiff : b.seq - new = (b.seq - base) - (new - base) := by ring
      rw [hdiff, BitVec.toNat_sub_of_le (by rw [BitVec.le_def]; omega)]
    have hshift := ascendingFrom_laterBase (show (new - base).toNat ≤ (b.seq - base).toNat + 1 by omega) hrest
    exact ⟨by omega, by omega, by rw [hpos]; exact ascendingFrom_mono (by omega) hshift⟩

/-- Positions seen from an earlier base, where the last block still lies in its half of the sequence space. -/
theorem ascendingFrom_earlierBase {base new : Seq} : ∀ {low : Nat} {b : Block} {rest : List Block},
    ascendingFrom base low (b :: rest) →
    (((b :: rest).getLast (by simp)).seq - base).toNat + (base - new).toNat < 32768 →
    ascendingFrom new (low + (base - new).toNat) (b :: rest)
  | low, b, rest, ⟨hle, hhalf, hrest⟩, hlast => by
    have hpos (h : (b.seq - base).toNat + (base - new).toNat < 65536) :
        (b.seq - new).toNat = (b.seq - base).toNat + (base - new).toNat := by
      have hdiff : b.seq - new = (b.seq - base) + (base - new) := by ring
      rw [hdiff, BitVec.toNat_add, Nat.mod_eq_of_lt h]
    cases rest with
    | nil =>
      rw [List.getLast_singleton] at hlast
      exact ⟨by rw [hpos (by omega)]; omega, by rw [hpos (by omega)]; omega, trivial⟩
    | cons x xs =>
      have hshift := ascendingFrom_earlierBase hrest (by simpa using hlast)
      have ⟨hxle, hxhalf, _⟩ := hshift
      refine ⟨by rw [hpos (by omega)]; omega, by rw [hpos (by omega)]; omega, ?_⟩
      rw [hpos (by omega), Nat.add_right_comm]
      exact hshift

/-! ### The queue after each operation -/

/-- R88, R90: a queue in order whose blocks carry 1 to 20 cells. -/
def wellQueued (q : DeskQueue) : Prop :=
  queueLaw q ∧ ∀ b ∈ q.queue, 1 ≤ b.cells.length ∧ b.cells.length ≤ 20

theorem wellQueued_empty {q : DeskQueue} (hqueue : q.queue = []) (hcurrent : q.current = none) (hcursor : q.cursor = none) :
    wellQueued q := by
  simp [wellQueued, queueLaw, hqueue, hcurrent, hcursor]

theorem wellQueued_flushed (q : DeskQueue) : wellQueued q.flushed := wellQueued_empty rfl rfl rfl

theorem wellQueued_reset : wellQueued .reset := wellQueued_empty rfl rfl rfl

theorem queueLaw_of_current {q : DeskQueue} {c : Current} (h : queueLaw q) (hc : q.current = some c) :
    q.cursor = some c.seq ∧ c.rest ≠ [] ∧ ascendingFrom c.seq 1 q.queue := by
  have horder := h.2
  rwa [hc] at horder

theorem queueLaw_of_cursor {q : DeskQueue} {c : Seq} (h : queueLaw q) (hnone : q.current = none) (hc : q.cursor = some c) :
    ascendingFrom c 0 q.queue := by
  have horder := h.2
  rwa [hnone, hc] at horder

/-- R90: with no cells of a current block left there is no current block. -/
theorem current_none_of_left {q : DeskQueue} (h : queueLaw q) (hleft : q.left = 0) : q.current = none := by
  by_contra hsome
  obtain ⟨c, hc⟩ := Option.ne_none_iff_exists'.mp hsome
  obtain ⟨-, hrest, -⟩ := queueLaw_of_current h hc
  rw [DeskQueue.left, hc] at hleft
  exact hrest (List.length_eq_zero_iff.mp hleft)

/-- R91: no queued block has a sequence that the queue does not hold, and no current block. -/
theorem ne_of_not_holds {q : DeskQueue} {n : Seq} (h : q.holds n = false) :
    (∀ b ∈ q.queue, b.seq ≠ n) ∧ ∀ c, q.current = some c → c.seq ≠ n := by
  simp only [DeskQueue.holds, Bool.or_eq_false_iff, List.any_eq_false, beq_iff_eq] at h
  refine ⟨h.1, fun c hc => ?_⟩
  have hcurrent := h.2
  rw [hc] at hcurrent
  exact beq_eq_false_iff_ne.mp hcurrent

theorem seqBefore_eq_false {n base : Seq} : seqBefore n base = false ↔ (n - base).toNat < 32768 := by
  rw [seqBefore, decide_eq_false_iff_not, Config.seqHalf, not_le]

theorem toNat_sub_pos {a b : Seq} (h : a ≠ b) : 1 ≤ (a - b).toNat := by
  by_contra hzero
  exact h (by bv_omega)

theorem position_lt_of_mem {base : Seq} {x : Block} : ∀ {low : Nat} {bs : List Block}, ascendingFrom base low bs →
    x ∈ bs → (x.seq - base).toNat < 32768
  | _, _ :: _, ⟨_, hhalf, _⟩, .head _ => hhalf
  | _, _ :: _, ⟨_, _, hrest⟩, .tail _ hx => position_lt_of_mem hrest hx

/-- R91, R92: a block put before the head of a queue without a cursor becomes the base of the positions. The last block does
not lie before it, so the whole queue stays within half of the sequence space. -/
theorem ascendingFrom_newHead {b head : Block} {rest : List Block} (h : ascendingFrom head.seq 0 (head :: rest))
    (hbefore : seqBefore b.seq head.seq = true)
    (hlast : seqBefore ((head :: rest).getLast (by simp)).seq b.seq = false) :
    ascendingFrom b.seq 0 (b :: head :: rest) := by
  have hhalf := position_lt_of_mem h (List.getLast_mem (by simp))
  rw [seqBefore_eq_false] at hlast
  rw [seqBefore, decide_eq_true_eq, Config.seqHalf] at hbefore
  have hback : 1 ≤ (head.seq - b.seq).toNat ∧ (head.seq - b.seq).toNat ≤ 32768 := by bv_omega
  have hshift := ascendingFrom_earlierBase (new := b.seq) h (by bv_omega)
  refine ⟨by simp, by simp, ?_⟩
  rw [BitVec.sub_self]
  exact ascendingFrom_mono (by simpa using hback.1) hshift

/-- R90, R92: the order from the head, after a block that is neither late nor in the queue is put in its place. -/
theorem queueLaw_accept {q : DeskQueue} {n : Seq} {cells : List Cell} {r : Bool} (h : queueLaw q) (hnew : q.holds n = false)
    (hlate : q.isLate n = false) (hroom : q.queue.length + 1 ≤ 32) : queueLaw (q.accept n cells r) := by
  obtain ⟨hqueued, hcurrent⟩ := ne_of_not_holds hnew
  refine ⟨by simpa [DeskQueue.accept, length_insertBlock] using hroom, ?_⟩
  simp only [DeskQueue.accept]
  cases hc : q.current with
  | some c =>
    obtain ⟨hcursor, hrest, horder⟩ := queueLaw_of_current h hc
    simp only [DeskQueue.isLate, hcursor, seqBefore_eq_false] at hlate
    simp only [hcursor, insertBlock]
    exact ⟨trivial, hrest, ascendingFrom_insertFrom horder (toNat_sub_pos (hcurrent c hc).symm) hlate hqueued⟩
  | none =>
    cases hcursor : q.cursor with
    | some c =>
      simp only [DeskQueue.isLate, hcursor, seqBefore_eq_false] at hlate
      exact ascendingFrom_insertFrom (queueLaw_of_cursor h hc hcursor) (Nat.zero_le _) hlate hqueued
    | none =>
      cases hq : q.queue with
      | nil => simp [insertBlock, ascendingFrom]
      | cons head rest =>
        have horder : ascendingFrom head.seq 0 (head :: rest) := by
          have hlaw := h.2
          rwa [hc, hcursor, hq] at hlaw
        simp only [DeskQueue.isLate, hcursor, hq, Bool.and_eq_false_iff] at hlate
        by_cases hbefore : seqBefore n head.seq = true
        · simp only [insertBlock, hbefore, if_true]
          exact ascendingFrom_newHead horder hbefore (hlate.resolve_left (by simp [hbefore]))
        · simp only [insertBlock, hbefore]
          rw [Bool.not_eq_true, seqBefore_eq_false] at hbefore
          have hplaced := ascendingFrom_insertFrom (b := ⟨n, cells, q.trim, r⟩) horder (Nat.zero_le _) hbefore
            (by rwa [hq] at hqueued)
          simpa [insertFrom] using hplaced

theorem wellQueued_accept {q : DeskQueue} {n : Seq} {cells : List Cell} {r : Bool} (h : wellQueued q)
    (hnew : q.holds n = false) (hlate : q.isLate n = false) (hroom : q.queue.length + 1 ≤ 32) (hlow : 1 ≤ cells.length)
    (hhigh : cells.length ≤ 20) : wellQueued (q.accept n cells r) := by
  refine ⟨queueLaw_accept h.1 hnew hlate hroom, fun b hb => ?_⟩
  rcases (mem_insertBlock _ _ _ _).mp hb with rfl | hqueued
  · exact ⟨hlow, hhigh⟩
  · exact h.2 b hqueued

/-- R94: the head becomes the current block, and the positions are taken from it. -/
theorem wellQueued_startHead {q : DeskQueue} (h : wellQueued q) (hnone : q.current = none) : wellQueued q.startHead := by
  obtain ⟨hlaw, hcells⟩ := h
  unfold DeskQueue.startHead
  split
  next => exact ⟨hlaw, hcells⟩
  next b rest hq =>
    have hfilled : b.cells ≠ [] := by
      have := (hcells b (by simp [hq])).1
      exact List.ne_nil_of_length_pos this
    have hlength : rest.length ≤ 32 := by
      have := hlaw.1
      rw [hq, List.length_cons] at this
      omega
    have horder : ascendingFrom b.seq 1 rest := by
      cases hcursor : q.cursor with
      | some c =>
        have hfrom := queueLaw_of_cursor hlaw hnone hcursor
        rw [hq] at hfrom
        obtain ⟨-, -, hrest⟩ := hfrom
        simpa using ascendingFrom_laterBase (Nat.le_succ _) hrest
      | none =>
        have hfrom := hlaw.2
        rw [hnone, hcursor, hq] at hfrom
        obtain ⟨-, -, hrest⟩ := hfrom
        simpa using hrest
    exact ⟨⟨hlength, rfl, hfilled, horder⟩, fun x hx => hcells x (by simp [hq, hx])⟩

/-- R96: the cursor moves to the head. -/
theorem wellQueued_declareGap {q : DeskQueue} (h : wellQueued q) (hnone : q.current = none) : wellQueued q.declareGap := by
  obtain ⟨hlaw, hcells⟩ := h
  unfold DeskQueue.declareGap
  split
  next b rest c hq hcursor =>
    refine ⟨⟨hlaw.1, ?_⟩, hcells⟩
    have hfrom := queueLaw_of_cursor hlaw hnone hcursor
    rw [hq] at hfrom
    obtain ⟨hle, hhalf, hrest⟩ := hfrom
    have hhead : ascendingFrom c (b.seq - c).toNat (b :: rest) := ⟨le_rfl, hhalf, hrest⟩
    simp only [hnone, hq]
    simpa using ascendingFrom_laterBase le_rfl hhead
  next => exact ⟨hlaw, hcells⟩

/-- R95: a cell is played; after the last one the cursor stands behind the block. -/
theorem wellQueued_play {q : DeskQueue} {p : Played} (h : wellQueued q) (hp : q.play = some p) : wellQueued p.queue := by
  obtain ⟨hlaw, hcells⟩ := h
  unfold DeskQueue.play at hp
  split at hp
  next => cases hp
  next c hc =>
    obtain ⟨hcursor, -, horder⟩ := queueLaw_of_current hlaw hc
    split at hp
    next => cases hp
    next =>
      cases hp
      have hone : (c.seq + 1 - c.seq).toNat = 1 := by rw [BitVec.add_comm, BitVec.add_sub_cancel]; rfl
      have hfrom := ascendingFrom_laterBase (new := c.seq + 1) hone.le horder
      rw [hone] at hfrom
      exact ⟨⟨hlaw.1, hfrom⟩, hcells⟩
    next => cases hp; exact ⟨⟨hlaw.1, hcursor, by simp, horder⟩, hcells⟩

/-! ## The requests of the playout pool (R89, R91, R92, R97) -/

/-- R92: an accepted block stands between the blocks before it and those after it. -/
theorem insertFrom_split (base : Seq) (b : Block) (bs : List Block) :
    ∃ before after, bs = before ++ after ∧ insertFrom base b bs = before ++ b :: after := by
  induction bs with
  | nil => exact ⟨[], [], rfl, rfl⟩
  | cons x xs ih =>
    simp only [insertFrom]
    split
    · exact ⟨[], x :: xs, rfl, rfl⟩
    · obtain ⟨before, after, hxs, hinsert⟩ := ih
      exact ⟨x :: before, after, by rw [hxs]; rfl, by rw [hinsert]; rfl⟩

theorem insertBlock_split (cursor : Option Seq) (b : Block) (bs : List Block) :
    ∃ before after, bs = before ++ after ∧ insertBlock cursor b bs = before ++ b :: after := by
  unfold insertBlock
  split
  · exact insertFrom_split _ b bs
  · exact ⟨[], [], rfl, rfl⟩
  · split
    · exact ⟨[], _, rfl, rfl⟩
    · exact insertFrom_split _ b _

/-- R165, R167, R169: a PUSH whose answer is a given state, status and body. -/
theorem exec_push_of_answer {s t : State} {d : Desk} {sel f : Byte} {n : Seq} {cells : List Cell} {w : Bool} {st : Status}
    {body : List Byte} (hup : linkUp s = true) (hsel : sel.toNat = d.val)
    (hact : pushRequest n (f.getLsbD 0) cells d s = ⟨t, st, body⟩) :
    exec (.push sel n f cells w) s = .next (replied w s t (3 + 16 * cells.length) st body) := by
  have harm : exec (.push sel n f cells w) s
      = .next (takeRequest w (3 + 16 * cells.length) (forDesk sel (pushRequest n (f.getLsbD 0) cells)) s) := rfl
  rw [harm, takeRequest_up hup, forDesk_of hsel, hact]

/-- R91: the body of a PUSH answer is that of the queue that the request leaves. -/
theorem pushAnswer_eq (st : Status) (d : Desk) (s : State) : pushAnswer st d s = ⟨s, st, pushBody (getQueue s d)⟩ := rfl

/-- A count of a refused PUSH is not in the body of its answer. -/
theorem pushAnswer_setQueue {q : DeskQueue} {st : Status} {d : Desk} {s : State} (hqueue : q.queue = (getQueue s d).queue)
    (hcurrent : q.current = (getQueue s d).current) :
    pushAnswer st d (setQueue d q s) = ⟨setQueue d q s, st, pushBody (getQueue s d)⟩ := by
  rw [pushAnswer_eq, getQueue_setQueue, if_pos rfl]
  simp only [pushBody, DeskQueue.cells, DeskQueue.left, hqueue, hcurrent]

/-- R91: 32 blocks or the quota would be passed. -/
theorem queueFull_iff {s : State} {d : Desk} {n : Nat} : queueFull s d n = true
    ↔ 32 < (getQueue s d).queue.length + 1 ∨ quotaOf s d < (getQueue s d).cells + n := by
  rw [queueFull, Bool.or_eq_true, decide_eq_true_eq, decide_eq_true_eq, Config.maxBlocks]

/-- R91: the checks of a PUSH after the close that carries 1 to 20 cells. -/
theorem pushRequest_of_length {s : State} {d : Desk} {n : Seq} {r : Bool} {cells : List Cell} (hc : s.setup.closed = true)
    (hlow : 1 ≤ cells.length) (hhigh : cells.length ≤ 20) : pushRequest n r cells d s =
      if s.member.join = .fenced then pushAnswer .fenced d s
      else if (getDesk s d).record.state = .absent then pushAnswer .notOpen d s
      else if (getDesk s d).record.state = .barred then pushAnswer .barred d s
      else if (getQueue s d).holds n then
        pushAnswer .duplicate d (setQueue d { getQueue s d with duplicate := count16 (getQueue s d).duplicate } s)
      else if (getQueue s d).isLate n then
        pushAnswer .late d (setQueue d { getQueue s d with late := count16 (getQueue s d).late } s)
      else if queueFull s d cells.length then
        pushAnswer .full d (setQueue d { getQueue s d with full := count16 (getQueue s d).full } s)
      else pushAnswer .ok d (acceptBlock d n cells r s) := by
  have hlen : ¬ (cells.length < 1 ∨ Config.maxCells < cells.length) := by
    simp only [Config.maxCells]
    omega
  simp only [pushRequest, hc, hlen, Bool.not_true, Bool.false_eq_true, if_false]

/-- Settles O18: each check of R91 in its order, with its answer and the count it increases. -/
theorem pushRefused : Obligations.PushRefused := by
  intro s d sel n f cells w hup hsel
  simp only [hasState]
  have answer {t : State} {st : Status} {body : List Byte}
      (hact : pushRequest n (f.getLsbD 0) cells d s = ⟨t, st, body⟩) :=
    exec_push_of_answer (w := w) hup hsel hact
  refine ⟨fun hc => answer ?_, fun hc => ⟨fun hlen => answer ?_, fun hlow hhigh => ?_⟩⟩
  · simp [pushRequest, hc, pushAnswer_eq]
  · have hbad : cells.length < 1 ∨ Config.maxCells < cells.length := hlen.imp_left Nat.lt_one_iff.mpr
    simp only [pushRequest, hc, hbad, Bool.not_true, Bool.false_eq_true, if_false, if_true, pushAnswer_eq]
  have hpush := pushRequest_of_length (d := d) (n := n) (r := f.getLsbD 0) hc hlow hhigh
  refine ⟨fun hf => answer ?_, fun hf => ⟨fun hst => answer ?_, fun hst => answer ?_, fun ha hb =>
    ⟨fun hdup => answer ?_, fun hdup hlate => answer ?_, fun hdup hlate hfull => answer ?_⟩⟩⟩
  · rw [hpush, if_pos hf, pushAnswer_eq]
  · rw [hpush, if_neg hf, if_pos hst, pushAnswer_eq]
  · rw [hpush, if_neg hf, if_neg (by rw [hst]; decide), if_pos hst, pushAnswer_eq]
  · rw [hpush, if_neg hf, if_neg ha, if_neg hb, if_pos hdup]
    exact pushAnswer_setQueue rfl rfl
  · rw [hpush, if_neg hf, if_neg ha, if_neg hb, hdup, if_neg Bool.false_ne_true, if_pos hlate]
    exact pushAnswer_setQueue rfl rfl
  · rw [hpush, if_neg hf, if_neg ha, if_neg hb, hdup, hlate, if_neg Bool.false_ne_true, if_neg Bool.false_ne_true,
      if_pos (queueFull_iff.mpr hfull)]
    exact pushAnswer_setQueue rfl rfl

/-- Settles O19: past the checks of R91 the block is inserted (R92), and R90 still holds by `queueLaw_accept`. -/
theorem pushAccepted : Obligations.PushAccepted := by
  intro s d sel n f cells w hup hsel hc hlow hhigh hf ha hb hdup hlate hroom hquota
  obtain ⟨before, after, hqueue, hinsert⟩ := insertBlock_split (getQueue s d).cursor
    ⟨n, cells, (getQueue s d).trim, f.getLsbD 0⟩ (getQueue s d).queue
  have hfull : ¬ queueFull s d cells.length = true := by
    rw [queueFull_iff]
    omega
  have hq : getQueue (acceptBlock d n cells (f.getLsbD 0) s) d = (getQueue s d).accept n cells (f.getLsbD 0) := by
    simp [getQueue, acceptBlock]
  refine ⟨(getQueue s d).accept n cells (f.getLsbD 0), before, after, exec_push_of_answer hup hsel ?_, rfl, hqueue,
    hinsert, fun horder => queueLaw_accept horder hdup hlate hroom⟩
  rw [pushRequest_of_length hc hlow hhigh, if_neg hf, if_neg ha, if_neg hb, hdup, hlate, if_neg Bool.false_ne_true,
    if_neg Bool.false_ne_true, if_neg hfull, pushAnswer_eq, hq]
  rfl

/-- Settles O20: the checks of R97, then the queue emptied. -/
theorem flushEmptiesTheQueue : Obligations.FlushEmptiesTheQueue := by
  intro s d sel w hup hsel
  simp only [hasState]
  have answer {t : State} {st : Status} (hact : flushRequest d s = ⟨t, st, []⟩) :=
    exec_of_answer (i := .flush sel w) rfl hup hsel hact
  refine ⟨fun hc => answer ?_, fun hc hst => answer ?_, fun hc hst => ?_⟩
  · simp [flushRequest, hc, Answer.refuse]
  · simp [flushRequest, hc, hst, Answer.refuse]
  · have hflush : flushDesk d s = s.setPool (flushDesk d s).pool := rfl
    rw [← flushDesk_pool, ← hflush]
    exact answer (by simp [flushRequest, hc, hst, Answer.ok])

/-- Settles O21: the checks of R89 in their order, the trim set, and the trim of 0 that OPEN_DESK gives (R87). -/
theorem trimSetsTheTrim : Obligations.TrimSetsTheTrim := by
  intro s d sel x w hup hsel
  have answer {t : State} {st : Status} (hact : trimRequest x d s = ⟨t, st, []⟩) :=
    exec_of_answer (i := .trim sel x w) rfl hup hsel hact
  refine ⟨fun hc => answer ?_, fun hc hx => answer ?_, fun hc hx hst => answer ?_, fun hc hx hst => ?_,
    fun hc he hst hx => ?_⟩
  · simp [trimRequest, hc, Answer.refuse]
  · simp [trimRequest, hc, hx, Answer.refuse]
  · simp only [hasState] at hst
    simp [trimRequest, hc, hx.not_gt, hst, Answer.refuse]
  · simp only [hasState] at hst
    refine ⟨x.setWidth 4, ?_, answer ?_⟩
    · rw [BitVec.toNat_setWidth, Nat.mod_eq_of_lt (by omega)]
    · simp [trimRequest, hc, hx.not_gt, hst, Answer.ok, setQueue]
  · obtain ⟨-, hclosed⟩ := openDeskMakesItIdle s d sel x w hup hsel
    obtain ⟨-, henabled⟩ := hclosed hc
    obtain ⟨-, hclass⟩ := henabled he
    obtain ⟨-, hopened⟩ := hclass hx
    refine ⟨_, hopened hst, ?_⟩
    simp [replied, getQueue]

end Sys2Proof

namespace Sys2Proof
open Machine

/-! ## The laws of the pool are kept by every command (R84, R86, R88, R90) -/

/-! ### What the laws read, and the operations on the pool -/

/-- R84, R86, R88, R90: the cells are conserved and every desk queue is in order. -/
def poolLawful (s : State) : Prop := poolLaw s ∧ queuesLaw s

/-- From s to t the pool and the mark of the close stand. -/
structure PoolKept (s t : State) : Prop where
  pool : t.pool = s.pool
  closed : t.setup.closed = s.setup.closed

theorem PoolKept.of_frames {s t : State} (hp : t.pool = s.pool) (hs : t.setup = s.setup) : PoolKept s t :=
  ⟨hp, by rw [hs]⟩

theorem PoolKept.refl (s : State) : PoolKept s s := ⟨rfl, rfl⟩

theorem PoolKept.lawful {s t : State} (h : PoolKept s t) (hs : poolLawful s) : poolLawful t := by
  obtain ⟨hpool, hclosed⟩ := h
  have hqueue : getQueue t = getQueue s := by funext d; rw [getQueue, hpool]; rfl
  have hquota : quotaOf t = quotaOf s := by funext d; rw [quotaOf, hpool]; rfl
  simpa only [poolLawful, poolLaw, queuesLaw, cellsConserved, deskCells, quotaTotal, hpool, hclosed, hqueue, hquota] using hs

/-- What leaves the pool and the setup store. -/
theorem lawful_of_frames {s t : State} (hs : poolLawful s) (hp : t.pool = s.pool) (hsetup : t.setup = s.setup) :
    poolLawful t :=
  (PoolKept.of_frames hp hsetup).lawful hs

theorem wellQueued_of_lawful {s : State} (h : poolLawful s) (d : Desk) : wellQueued (getQueue s d) := h.2 d

theorem queuesLaw_of_set {s t : State} {d : Desk} {q : DeskQueue} (h : queuesLaw s) (hq : wellQueued q)
    (hset : ∀ e, getQueue t e = if e = d then q else getQueue s e) : queuesLaw t := fun e => by
  rw [hset e]
  split
  · exact hq
  · exact h e

/-- A desk queue changed, no cell added, and the cells it gives up put on the free list. -/
theorem lawful_releaseCells {s : State} {d : Desk} {q : DeskQueue} (h : poolLawful s) (hq : wellQueued q)
    (hcells : q.cells ≤ (getQueue s d).cells) : poolLawful (releaseCells d q s) := by
  obtain ⟨⟨hcons, hclip, hsize, hopen, hclosed⟩, hqueues⟩ := h
  have hset (e : Desk) := getQueue_releaseCells d e q s
  have hdesks := deskCells_set hset
  refine ⟨⟨cellsConserved_releaseCells hcells hcons, hclip, hsize, fun hc => ?_, fun hc => ⟨(hclosed hc).1, fun e => ?_⟩⟩,
    queuesLaw_of_set hqueues hq hset⟩
  · have hzero := hopen hc
    omega
  · have hquota := (hclosed hc).2 e
    rw [hset e]
    split
    next he => subst he; exact hcells.trans hquota
    next => exact hquota

theorem setQueue_eq_releaseCells {s : State} {d : Desk} {q : DeskQueue} (h : q.cells = (getQueue s d).cells) :
    setQueue d q s = releaseCells d q s := by
  rw [releaseCells, h, Nat.sub_self, Nat.add_zero]
  rfl

/-- A desk queue changed that keeps its number of cells. -/
theorem lawful_setQueue {s : State} {d : Desk} {q : DeskQueue} (h : poolLawful s) (hq : wellQueued q)
    (hcells : q.cells = (getQueue s d).cells) : poolLawful (setQueue d q s) := by
  rw [setQueue_eq_releaseCells hcells]
  exact lawful_releaseCells h hq hcells.le

theorem lawful_flushDesk {s : State} (h : poolLawful s) (d : Desk) : poolLawful (flushDesk d s) :=
  lawful_releaseCells h (wellQueued_flushed _) (by simp)

theorem lawful_resetQueue {s : State} (h : poolLawful s) (d : Desk) : poolLawful (resetQueue d s) :=
  lawful_releaseCells h wellQueued_reset (by simp)

theorem deskCells_le_quotaTotal {s : State} (h : ∀ d, (getQueue s d).cells ≤ quotaOf s d) : deskCells s ≤ quotaTotal s :=
  List.sum_le_sum fun d _ => h d

/-- R86, R92: an accepted block fits its desk's quota, and the quotas and the clip fit the pool, so the free list has its
cells. -/
theorem lawful_acceptBlock {s : State} {d : Desk} {n : Seq} {cells : List Cell} {r : Bool} (h : poolLawful s)
    (hc : s.setup.closed = true) (hq : wellQueued ((getQueue s d).accept n cells r))
    (hroom : (getQueue s d).cells + cells.length ≤ quotaOf s d) : poolLawful (acceptBlock d n cells r s) := by
  obtain ⟨⟨hcons, hclip, hsize, -, hclosed⟩, hqueues⟩ := h
  obtain ⟨htotal, hquota⟩ := hclosed hc
  have hset (e : Desk) : getQueue (acceptBlock d n cells r s) e
      = if e = d then (getQueue s d).accept n cells r else getQueue s e := by
    simp [getQueue, acceptBlock, Four.get_set]
  have hdesks := deskCells_set hset
  rw [cells_accept] at hdesks
  have hkept (e : Desk) : (getQueue (acceptBlock d n cells r s) e).cells ≤ quotaOf s e := by
    rw [hset e]
    split
    next he => subst he; rw [cells_accept]; exact hroom
    next => exact hquota e
  have hfit : deskCells (acceptBlock d n cells r s) ≤ quotaTotal s := deskCells_le_quotaTotal hkept
  refine ⟨⟨?_, hclip, hsize, fun hno => absurd (hc.symm.trans hno) (by decide), fun _ => ⟨htotal, hkept⟩⟩,
    queuesLaw_of_set hqueues hq hset⟩
  have hfree : (acceptBlock d n cells r s).pool.free = s.pool.free - cells.length := rfl
  have hclip' : (acceptBlock d n cells r s).pool.clip = s.pool.clip := rfl
  have hsize' : (acceptBlock d n cells r s).pool.size = s.pool.size := rfl
  rw [cellsConserved, hfree, hclip', hsize']
  rw [cellsConserved] at hcons
  omega

/-- R83: before the close the desks are empty, and a clip fits every size that SET allows. -/
theorem lawful_formPool {s : State} {n : Nat} (h : poolLawful s) (hc : s.setup.closed = false)
    (hn : n = 512 ∨ n = 1024 ∨ n = 2048) : poolLawful (formPool n s) := by
  obtain ⟨⟨-, hclip, -, hopen, -⟩, hqueues⟩ := h
  have hzero : deskCells (formPool n s) = 0 := hopen hc
  refine ⟨⟨?_, hclip, ?_, fun _ => hzero, fun hyes => absurd (hc.symm.trans hyes) (by decide)⟩, hqueues⟩
  · rw [cellsConserved, hzero]
    simp only [formPool, setPool_pool, Option.getD_some]
    omega
  · simpa [formPool] using hn

/-- R85: before the close the clip region grows within 400 cells, out of a free list that has the rest of the pool. -/
theorem lawful_loadClip {s : State} {offset : Nat} {cells : List Cell} (h : poolLawful s) (hc : s.setup.closed = false)
    (hsize : s.pool.size ≠ none) (hfit : offset + cells.length ≤ 400) : poolLawful (loadClip offset cells s) := by
  obtain ⟨⟨hcons, hclip, hsizes, hopen, -⟩, hqueues⟩ := h
  have hzero : deskCells s = 0 := hopen hc
  have hlarge : 512 ≤ s.pool.size.getD 0 := by
    rcases hsizes with hn | hn | hn | hn
    · exact absurd hn hsize
    all_goals simp [hn]
  have hlength := length_writeClip s.pool.clip offset cells
  refine ⟨⟨?_, ?_, hsizes, fun _ => hzero, fun hyes => absurd (hc.symm.trans hyes) (by decide)⟩, hqueues⟩
  · have hzero' : deskCells (loadClip offset cells s) = 0 := hzero
    rw [cellsConserved, hzero] at hcons
    rw [cellsConserved, hzero']
    simp only [loadClip, setPool_pool]
    omega
  · simp only [loadClip, setPool_pool]
    omega

theorem quotaOf_closePool (s : State) (d : Desk) : quotaOf (closePool s) d = enabledQuota s d := by
  simp only [quotaOf, closePool, setPool_pool, Four.get_mapIdx, enabledQuota]
  split <;> rfl

/-- R86, R190: a close that passes its checks gives each enabled desk its quota of an otherwise free pool. -/
theorem lawful_closePool {s : State} (h : poolLawful s) (hpass : closeFailure s = none) :
    poolLawful (closePool (closeRecord s)) := by
  obtain ⟨⟨-, hclip, hsizes, -, -⟩, -⟩ := h
  have hqueue (d : Desk) : getQueue (closePool (closeRecord s)) d = (getQueue s d).flushed := by
    simp [getQueue, closePool, closeRecord]
  have hzero : deskCells (closePool (closeRecord s)) = 0 := by simp [deskCells_eq, hqueue]
  have hquota : quotaTotal (closePool (closeRecord s)) = quotaSum s := by
    have heach : quotaOf (closePool (closeRecord s)) = enabledQuota s := by
      funext d
      exact quotaOf_closePool (closeRecord s) d
    rw [quotaTotal, heach]
    rfl
  have hfits : quotaSum s + s.pool.clip.length ≤ s.pool.size.getD 0 := by
    unfold closeFailure at hpass
    split at hpass
    next => cases hpass
    next n hn =>
      split at hpass
      next => cases hpass
      next =>
        split at hpass
        next => cases hpass
        next hle => rw [hn]; exact not_lt.mp hle
  refine ⟨⟨?_, hclip, hsizes, fun _ => hzero, fun _ => ⟨by rw [hquota]; exact hfits, fun d => by simp [hqueue]⟩⟩,
    fun d => by rw [hqueue d]; exact wellQueued_flushed _⟩
  rw [cellsConserved, hzero]
  simp only [closePool, closeRecord, setPool_pool, setSetup_pool]
  omega

/-- R83, R86, R87: the values after a reset. -/
theorem lawful_resetTo (cause : ResetCause) (s : State) : poolLawful (resetTo cause s) := by
  have hqueue (d : Desk) : getQueue (resetTo cause s) d = .reset := Four.get_all _ d
  have hzero : deskCells (resetTo cause s) = 0 := by simp [deskCells_eq, hqueue]
  refine ⟨⟨?_, Nat.zero_le _, .inl rfl, fun _ => hzero, fun hyes => Bool.noConfusion hyes⟩,
    fun d => by rw [hqueue d]; exact wellQueued_reset⟩
  rw [cellsConserved, hzero]
  rfl

/-! ### The air sequencer at a frame start (R94 to R96, R102 to R118)

`AirStable` is for properties that any change of the pool keeps. Here the pool changes by the queue operations of ON only, so
the decision is followed down to `onDecide`. -/

section
variable {s : State} (h : poolLawful s)
include h

theorem lawful_voiceFrame (d : Desk) : poolLawful (voiceFrame d s) := by
  unfold voiceFrame
  split
  next => exact lawful_of_frames h (by simp) (by simp)
  next p hp =>
    have hcells := cells_play hp
    have hplayed : poolLawful (releaseCells d p.queue s) :=
      lawful_releaseCells h (wellQueued_play (wellQueued_of_lawful h d) hp) (by omega)
    dsimp only
    split <;> exact lawful_of_frames hplayed (by simp) (by simp)

theorem lawful_startFrame {d : Desk} (hnone : (getQueue s d).current = none) : poolLawful (startFrame d s) := by
  have hleft : (getQueue s d).left = 0 := by rw [DeskQueue.left, hnone]
  exact lawful_voiceFrame
    (lawful_setQueue h (wellQueued_startHead (wellQueued_of_lawful h d) hnone) (cells_startHead hleft)) d

theorem lawful_gapFrame {d : Desk} (hnone : (getQueue s d).current = none) : poolLawful (gapFrame d s) := by
  have hgap : poolLawful (setQueue d (getQueue s d).declareGap s) :=
    lawful_setQueue h (wellQueued_declareGap (wellQueued_of_lawful h d) hnone) (cells_declareGap _)
  refine lawful_startFrame (lawful_of_frames (t := raiseDesk d .gap (setQueue d (getQueue s d).declareGap s)) hgap rfl rfl) ?_
  have hqueue : getQueue (raiseDesk d .gap (setQueue d (getQueue s d).declareGap s)) d = (getQueue s d).declareGap := by
    simp [getQueue, raiseDesk, setQueue]
  rw [hqueue, ← hnone]
  unfold DeskQueue.declareGap
  split <;> rfl

/-- R109: a head is started only where no cell of a current block is left. -/
theorem lawful_onDecide (d : Desk) : poolLawful (onDecide d s) := by
  unfold onDecide
  have hnone (hchoice : cellChoice s d ≠ .playCell) : (getQueue s d).current = none := by
    refine current_none_of_left (wellQueued_of_lawful h d).1 (Nat.eq_zero_of_not_pos fun hleft => hchoice ?_)
    exact if_pos hleft
  cases hchoice : cellChoice s d with
  | playCell => exact lawful_voiceFrame h d
  | emptyQueue => dsimp only; split <;> exact lawful_of_frames h (by simp) (by simp)
  | startHead => exact lawful_startFrame h (hnone (by rw [hchoice]; decide))
  | declareGap => exact lawful_gapFrame h (hnone (by rw [hchoice]; decide))
  | waitForBlock => exact lawful_of_frames h (by simp) (by simp)

theorem lawful_primeDecide (d : Desk) : poolLawful (primeDecide d s) := by
  unfold primeDecide
  split
  · exact lawful_onDecide (lawful_of_frames h (by simp) (by simp)) d
  · exact lawful_of_frames h (by simp) (by simp)

theorem lawful_leaveIdent : poolLawful (leaveIdent s) := by
  unfold leaveIdent
  dsimp only
  split
  · split <;> exact lawful_of_frames h (by simp) (by simp)
  · split
    · exact lawful_onDecide (lawful_of_frames h (by simp) (by simp)) _
    · exact lawful_of_frames h (by simp) (by simp)

theorem lawful_identDecide : poolLawful (identDecide s) := by
  unfold identDecide
  split
  · exact lawful_of_frames h (by simp) (by simp)
  · exact lawful_leaveIdent h

theorem lawful_leadDecide : poolLawful (leadDecide s) := by
  unfold leadDecide
  split
  · exact lawful_of_frames h (by simp) (by simp)
  unfold leadEnds
  split
  · exact lawful_identDecide (lawful_of_frames h (by simp) (by simp))
  · exact lawful_primeDecide (lawful_of_frames h (by simp) (by simp)) _
  · exact lawful_of_frames h (by simp) (by simp)

theorem lawful_airDecide : poolLawful (airDecide s) := by
  unfold airDecide
  split
  · exact lawful_of_frames h (by simp) (by simp)
  · exact lawful_leadDecide h
  · exact lawful_primeDecide h _
  · exact lawful_onDecide h _
  · exact lawful_identDecide h
  all_goals exact lawful_of_frames h (by simp) (by simp)

/-- R102: a pending identification is taken, or dropped for the decision of the state the sequencer is in. -/
theorem lawful_airFrame : poolLawful (airFrame s) := by
  have hw : poolLawful (applyWithdrawal s) := lawful_of_frames h (by simp) (by simp)
  unfold airFrame
  dsimp only
  split
  · split
    · exact lawful_airDecide hw
    · exact lawful_of_frames hw (by simp) (by simp)
  · unfold takeInterval
    split
    · exact lawful_identDecide (lawful_of_frames hw (by simp) (by simp))
    · exact lawful_airDecide (lawful_of_frames hw (by simp) (by simp))
  · unfold takeTailIdent
    split
    · exact lawful_of_frames hw (by simp) (by simp)
    · exact lawful_airDecide (lawful_of_frames hw (by simp) (by simp))
  · exact lawful_airDecide hw

theorem lawful_frameWork (reportFirst : Bool) : poolLawful (frameWork reportFirst s) := by
  have hruns : poolLawful (runsCounted s) := lawful_of_frames h (by simp [runsCounted]) (by simp [runsCounted])
  have hair : poolLawful (claimsAndAir reportFirst (runsCounted s)) := by
    cases reportFirst
    · exact lawful_airFrame (s := publishAll (barWork _ _)) (lawful_of_frames hruns (by simp) (by simp))
    · exact lawful_of_frames (lawful_airFrame hruns) (by simp [claimsAndAir]) (by simp [claimsAndAir])
  exact lawful_of_frames (t := latchFrame (claimsAndAir reportFirst (runsCounted s))) hair rfl rfl

end

/-! ### The requests -/

theorem poolKept_endHolding (d : Desk) (r : EndReason) (s : State) : PoolKept s (endHolding d r s) :=
  .of_frames (by simp) (by simp)

theorem poolKept_claimRequest (d : Desk) (s : State) : PoolKept s (claimRequest d s).state := by
  unfold claimRequest
  dsimp only
  (repeat' split) <;> exact ⟨rfl, rfl⟩

theorem poolKept_releaseRequest (mode : Byte) (d : Desk) (s : State) : PoolKept s (releaseRequest mode d s).state := by
  unfold releaseRequest releaseDesk
  split
  · exact .refl s
  split
  · exact .refl s
  split
  · exact .refl s
  · exact .refl s
  · exact .refl s
  · exact .of_frames (t := withdraw d .released s) (by simp) (by simp)
  · split
    · exact ⟨rfl, rfl⟩
    · exact poolKept_endHolding d .released s

theorem poolKept_deskEventsRequest (d : Desk) (s : State) : PoolKept s (deskEventsRequest d s).state := by
  unfold deskEventsRequest acknowledge
  dsimp only
  split <;> exact .of_frames (by simp) (by simp)

theorem poolKept_deskStatusRequest (d : Desk) (s : State) : PoolKept s (deskStatusRequest d s).state := by
  unfold deskStatusRequest
  dsimp only
  split <;> exact ⟨rfl, rfl⟩

theorem poolKept_clampRequest (d : Desk) (s : State) : PoolKept s (clampRequest d s).state := by
  unfold clampRequest
  split
  · exact .refl s
  split
  · exact .refl s
  · exact .of_frames (t := setCause .operator s) (by simp) (by simp)

theorem poolKept_unclampRequest (d : Desk) (s : State) : PoolKept s (unclampRequest d s).state := by
  unfold unclampRequest
  (repeat' split) <;> exact ⟨rfl, rfl⟩

theorem poolKept_maskRequest (sel : Byte) (word : Word16) (s : State) : PoolKept s (maskRequest sel word s).state := by
  unfold maskRequest siteMaskRequest forDesk deskMaskRequest
  (repeat' split) <;> exact ⟨rfl, rfl⟩

theorem poolKept_guardOnRequest (s : State) : PoolKept s (guardOnRequest s).state := by
  unfold guardOnRequest
  split
  · exact .of_frames (t := startGuard s) (by simp) (by simp)
  · exact .refl s

/-- A SET of another field than the pool size leaves the pool. -/
theorem poolKept_putField {f : Nat} (hf : f ≠ 2) (v : Nat) (s : State) : PoolKept s (putField f v s) := by
  unfold putField
  split
  case h_2 => exact absurd rfl hf
  all_goals exact ⟨rfl, rfl⟩

section
variable {s : State} (h : poolLawful s)
include h

theorem lawful_setRequest (f v : Nat) : poolLawful (setRequest f v s).state := by
  unfold setRequest
  split
  next => exact h
  next hopen =>
    rw [Bool.not_eq_true] at hopen
    split
    · exact h
    split
    next => exact h
    next hok =>
      by_cases hf : f = 2
      · subst hf
        rw [Bool.not_eq_true', Bool.not_eq_false] at hok
        have hsize : v = 512 ∨ v = 1024 ∨ v = 2048 := by simpa [fieldOk, or_assoc] using hok
        have hform : poolLawful (setPoolSize v s) := by
          unfold setPoolSize
          split
          · exact h
          · exact lawful_formPool h hopen hsize
        exact hform
      · exact (poolKept_putField hf v s).lawful h

theorem lawful_loadClipRequest (offset : Nat) (cells : List Cell) : poolLawful (loadClipRequest offset cells s).state := by
  unfold loadClipRequest
  split
  next => exact h
  next hopen =>
    split
    next => exact h
    next hsize =>
      split
      · exact h
      split
      next => exact h
      next hfit =>
        exact lawful_loadClip h (by simpa using hopen) (by simpa using hsize) (not_lt.mp (not_or.mp hfit).2)

theorem lawful_closeRequest : poolLawful (closeRequest s).state := by
  unfold closeRequest
  split
  · exact h
  split
  next => exact h
  next hpass =>
    have hclose := lawful_closePool h hpass
    have hseen : poolLawful (putSeen .settling 0 (enterHunt (closeBus (closePool (closeRecord s))))) :=
      lawful_of_frames hclose (by simp [closeBus]) (by simp [closeBus])
    refine lawful_frameWork ?_ false
    split
    · exact lawful_of_frames hseen (by simp) (by simp)
    · exact hseen

theorem lawful_openRequest (cls : Byte) (d : Desk) : poolLawful (openRequest cls d s).state := by
  unfold openRequest
  split
  · exact h
  split
  · exact h
  split
  · exact h
  split
  · exact h
  · exact lawful_resetQueue (s := setDesk s d _) (lawful_of_frames h rfl rfl) d

theorem lawful_closeDeskRequest (d : Desk) : poolLawful (closeDeskRequest d s).state := by
  unfold closeDeskRequest
  split
  · exact h
  split
  · exact h
  · have hended : poolLawful (setDesk (endForClose d s) d (getDesk (endForClose d s) d).closed) :=
      lawful_of_frames h (by simp) (by simp)
    exact lawful_of_frames (t := closeDeskWork d s) (lawful_flushDesk hended d) rfl rfl

/-- R91, R92: a refused PUSH counts at most, and an accepted one finds room in its queue and in its quota. -/
theorem lawful_pushRequest (n : Seq) (r : Bool) (cells : List Cell) (d : Desk) :
    poolLawful (pushRequest n r cells d s).state := by
  have hqueue := wellQueued_of_lawful h d
  unfold pushRequest
  dsimp only
  split
  next => exact h
  next hc =>
    split
    next => exact h
    next hlen =>
      split
      · exact h
      split
      · exact h
      split
      · exact h
      split
      next => exact lawful_setQueue h hqueue rfl
      next hdup =>
        split
        next => exact lawful_setQueue h hqueue rfl
        next hlate =>
          split
          next => exact lawful_setQueue h hqueue rfl
          next hfull =>
            rw [Bool.not_eq_true] at hdup hlate
            rw [queueFull_iff, not_or, not_lt, not_lt] at hfull
            rw [not_or, not_lt, not_lt] at hlen
            obtain ⟨hroom, hquota⟩ := hfull
            obtain ⟨hlow, hhigh⟩ := hlen
            exact lawful_acceptBlock h (by simpa using hc) (wellQueued_accept hqueue hdup hlate hroom hlow hhigh) hquota

theorem lawful_flushRequest (d : Desk) : poolLawful (flushRequest d s).state := by
  unfold flushRequest
  split
  · exact h
  split
  · exact h
  · exact lawful_flushDesk h d

theorem lawful_trimRequest (v : Byte) (d : Desk) : poolLawful (trimRequest v d s).state := by
  unfold trimRequest
  split
  · exact h
  split
  · exact h
  split
  · exact h
  · exact lawful_setQueue h (wellQueued_of_lawful h d) rfl

/-! ### Every command -/

theorem lawful_takeRequest (w : Bool) (n : Nat) {act : State → Answer} (hact : poolLawful (act s).state) :
    poolLawful (takeRequest w n act s) := by
  unfold takeRequest
  split
  · exact lawful_of_frames hact rfl rfl
  · exact h

theorem lawful_requestKept (w : Bool) (n : Nat) {act : State → Answer} (hact : PoolKept s (act s).state) :
    poolLawful (takeRequest w n act s) :=
  lawful_takeRequest h w n (hact.lawful h)

theorem lawful_deskRequest (w : Bool) (n : Nat) (sel : Byte) {act : Desk → State → Answer}
    (hact : ∀ d, poolLawful (act d s).state) : poolLawful (takeRequest w n (forDesk sel act) s) :=
  lawful_takeRequest h w n (forDesk_keeps h sel hact)

theorem lawful_deskRequestKept (w : Bool) (n : Nat) (sel : Byte) {act : Desk → State → Answer}
    (hact : ∀ d, PoolKept s (act d s).state) : poolLawful (takeRequest w n (forDesk sel act) s) :=
  lawful_deskRequest h w n sel fun d => (hact d).lawful h

theorem lawful_ite (c : Prop) [Decidable c] {t : State} (ht : PoolKept s t) : poolLawful (if c then t else s) := by
  split
  · exact ht.lawful h
  · exact h

/-- A row whose work leaves the pool and the setup store. -/
theorem lawful_rowKept (runs : Bool) {work : State → State} (hp : (work s).pool = s.pool)
    (hsetup : (work s).setup = s.setup) : poolLawful (whenRuns runs work s) :=
  whenRuns_keeps h runs fun _ => lawful_of_frames h hp hsetup

/-- The laws of the pool are kept by every command: the frames leave the pool but for the requests on it and the air
sequencer's decision. -/
theorem lawful_exec (i : Instr) : ∃ t, exec i s = .next t ∧ poolLawful t := by
  cases i with
  | powerOnReset | brownOutReset | pinReset => exact ⟨_, rfl, lawful_resetTo _ s⟩
  | resetEnd _ _ | settleEnd | readTransaction _ _ | badRequest _ _ => exact ⟨_, rfl, lawful_ite h _ ⟨rfl, rfl⟩⟩
  | emptyTransaction => exact ⟨_, rfl, h⟩
  | setField f v w => exact ⟨_, rfl, lawful_takeRequest h w _ (lawful_setRequest h _ _)⟩
  | closeSetup w => exact ⟨_, rfl, lawful_takeRequest h w _ (lawful_closeRequest h)⟩
  | loadClip n cells w => exact ⟨_, rfl, lawful_takeRequest h w _ (lawful_loadClipRequest h _ cells)⟩
  | guardOn w => exact ⟨_, rfl, lawful_requestKept h w _ (poolKept_guardOnRequest s)⟩
  | openDesk sel cls w => exact ⟨_, rfl, lawful_deskRequest h w _ sel (lawful_openRequest h cls)⟩
  | closeDesk sel w => exact ⟨_, rfl, lawful_deskRequest h w _ sel (lawful_closeDeskRequest h)⟩
  | claim sel w => exact ⟨_, rfl, lawful_deskRequestKept h w _ sel fun d => poolKept_claimRequest d s⟩
  | release sel mode w => exact ⟨_, rfl, lawful_deskRequestKept h w _ sel fun d => poolKept_releaseRequest mode d s⟩
  | push sel n flags cells w => exact ⟨_, rfl, lawful_deskRequest h w _ sel (lawful_pushRequest h n _ cells)⟩
  | flush sel w => exact ⟨_, rfl, lawful_deskRequest h w _ sel (lawful_flushRequest h)⟩
  | trim sel v w => exact ⟨_, rfl, lawful_deskRequest h w _ sel (lawful_trimRequest h v)⟩
  | deskEvents sel w => exact ⟨_, rfl, lawful_deskRequestKept h w _ sel fun d => poolKept_deskEventsRequest d s⟩
  | deskStatus sel w => exact ⟨_, rfl, lawful_deskRequestKept h w _ sel fun d => poolKept_deskStatusRequest d s⟩
  | siteEvents w | siteStatus w | floorView w | history w | guardRead w =>
    exact ⟨_, rfl, lawful_requestKept h w _ ⟨rfl, rfl⟩⟩
  | clamp sel w => exact ⟨_, rfl, lawful_deskRequestKept h w _ sel fun d => poolKept_clampRequest d s⟩
  | unclamp sel w => exact ⟨_, rfl, lawful_deskRequestKept h w _ sel fun d => poolKept_unclampRequest d s⟩
  | mask sel word w => exact ⟨_, rfl, lawful_requestKept h w _ (poolKept_maskRequest sel word s)⟩
  | frameStart b =>
    exact ⟨_, rfl, whenRuns_keeps h _ fun _ => lawful_frameWork (lawful_of_frames h (by simp) (by simp)) b⟩
  | leadEnd | primeToOn | gapDeclared | releaseAfterDone | drainComplete | starvation | tailEnd | identEnd =>
    exact ⟨_, rfl, whenRuns_keeps h _ fun _ => lawful_airDecide h⟩
  | fence => exact ⟨_, rfl, lawful_rowKept h _ (by simp [fenceEvent]) (by simp [fenceEvent])⟩
  | splitRelease => exact ⟨_, rfl, lawful_rowKept h _ (by simp [splitEvent]) (by simp [splitEvent])⟩
  | heatSet =>
    refine ⟨_, rfl, ?_⟩
    unfold heatEvent
    split
    · exact lawful_of_frames h (by simp) (by simp)
    · exact h
  | chargePhaseEnd _ | dischargeEnd _ | dischargeOverflow => exact ⟨_, rfl, lawful_of_frames h (by simp) (by simp)⟩
  | syncFieldsReceived _ | slotReceived _ _ | keySample _ _ _ _ | snapshotComplete _ _ | programReceived _
  | syncPatternFound _ _ _ | relockCandidateDropped _ | relockTestPassed _ _ _ | huntWaitExpired | holdoverWaitExpired
  | missRunLimit | timingReadbackLimit | announceComplete | peerJoined _ | peerLost _ _ | waitExpiry | timeLimit | totenf
  | barLifted _ | idDue _ | idOverdue | tailWaitComplete | orphan | stuck | programRunLimit | noRf | reflectSet
  | reflectClear | settleComplete | guardCycleBegin =>
    exact ⟨_, rfl, lawful_rowKept h _ (by simp) (by simp)⟩

end

theorem poolKept_tick (s : State) : PoolKept s (tick s) := by
  unfold tick guardTick settleTick
  (repeat' split) <;> exact ⟨rfl, rfl⟩

/-- Settles O60: a reference cycle leaves the pool, and every command keeps its laws by `lawful_exec`. -/
theorem poolLawsKept : Obligations.PoolLawsKept := by
  intro s t hstep hpool hqueues
  unfold step at hstep
  split at hstep
  next =>
    cases hstep
    exact (poolKept_tick s).lawful ⟨hpool, hqueues⟩
  next c rest _ =>
    have hfront : poolLawful (s.setPending rest) := lawful_of_frames ⟨hpool, hqueues⟩ rfl rfl
    obtain ⟨u, hu, hlawful⟩ := lawful_exec hfront c
    rw [hu] at hstep
    cases hstep
    exact hlawful

end Sys2Proof

namespace Sys2Proof
open Machine

/-! ## What the air sequencer puts on the air at a frame start (R94 to R96, R102 to R119, R133) -/

/-! ### The field handed to the bus engine (R102, R103, R6, R7) -/

/-- R103: a program field of the station of s in its frame, with d as the holder desk. -/
def airField (s : State) (kind : BitVec 3) (d : Desk) (last : Bool) (x : Cell) : ProgField where
  kind := kind
  station := BitVec.ofNat 3 s.setup.station.val
  desk := BitVec.ofNat 2 d.val
  endIdent := last
  echo := echoOf (ownCount s)
  samples := x

/-- R102, R6, R7: in v the bus engine has a field of the station of s, driven with KEYL unless the station is FENCED. -/
structure HandsOver (s v : State) (kind : BitVec 3) (d : Desk) (last : Bool) (x : Cell) : Prop where
  latch : v.bus.progLatch = some (airField s kind d last x)
  keyl : v.bus.keylDrive = (s.member.join != .fenced)
  drive : v.bus.progDrive = (s.member.join != .fenced)

theorem HandsOver.of_bus {s v w : State} {kind : BitVec 3} {d : Desk} {last : Bool} {x : Cell}
    (h : HandsOver s v kind d last x) (hbus : w.bus = v.bus) : HandsOver s w kind d last x :=
  ⟨by rw [hbus]; exact h.latch, by rw [hbus]; exact h.keyl, by rw [hbus]; exact h.drive⟩

/-- The field depends on the station, its count and its join state only. -/
theorem HandsOver.from_frame {s u v : State} {kind : BitVec 3} {d : Desk} {last : Bool} {x : Cell}
    (h : HandsOver u v kind d last x) (hsetup : u.setup = s.setup) (hcount : ownCount u = ownCount s)
    (hjoin : u.member.join = s.member.join) : HandsOver s v kind d last x := by
  obtain ⟨hlatch, hkeyl, hdrive⟩ := h
  rw [airField, hsetup, hcount] at hlatch
  rw [hjoin] at hkeyl hdrive
  exact ⟨hlatch, hkeyl, hdrive⟩

theorem HandsOver.kind_eq {s v : State} {kind : BitVec 3} {d : Desk} {last : Bool} {x : Cell}
    (h : HandsOver s v kind d last x) : ∃ p, v.bus.progLatch = some p ∧ p.kind = kind :=
  ⟨_, h.latch, rfl⟩

theorem handsOver_decideField (kind : BitVec 3) (last : Bool) (x : Cell) (ident : Bool) (s : State) :
    HandsOver s (decideField kind last x ident s) kind (s.air.serving.getD 0) last x :=
  ⟨rfl, rfl, rfl⟩

theorem decideField_air (kind : BitVec 3) (last : Bool) (x : Cell) (ident : Bool) (s : State) :
    (decideField kind last x ident s).air = { s.air with identActive := ident } := rfl

/-! ### An ending found at a frame start (R47, R111 to R113, R115) -/

/-- R115: what the air sequencer keeps when it is told of an ending. -/
theorem tellEnded_air (d : Desk) (s : State) : (tellEnded d s).air = { s.air with
    state := (tellEnded d s).air.state
    holdingEnded := (tellEnded d s).air.holdingEnded
    tailRun := (tellEnded d s).air.tailRun
    pendingStart := (tellEnded d s).air.pendingStart } := by
  have hpending : (if s.air.pendingStart = some d then { s.air with pendingStart := none } else s.air)
      = { s.air with pendingStart := if s.air.pendingStart = some d then none else s.air.pendingStart } := by
    split
    · rfl
    · rfl
  unfold tellEnded
  rw [hpending]
  by_cases hserve : s.air.serving = some d <;> cases hstate : s.air.state <;> simp [hserve, hstate]

theorem endHolding_air (d : Desk) (r : EndReason) (s : State) : (endHolding d r s).air = { s.air with
    state := (endHolding d r s).air.state
    holdingEnded := (endHolding d r s).air.holdingEnded
    tailRun := (endHolding d r s).air.tailRun
    pendingStart := (endHolding d r s).air.pendingStart } := by
  unfold endHolding
  split
  · exact tellEnded_air d (raiseDesk d .ended (setDesk s d ((getDesk s d).ended r)))
  · rfl

/-- R115: a holding of the desk on the air ends in TAIL. -/
theorem endHolding_to_tail {s : State} {d : Desk} (hserve : s.air.serving = some d) (hon : s.air.state = .on)
    (hhold : hasState s d .holding) (r : EndReason) : (endHolding d r s).air.state = .tail
      ∧ (endHolding d r s).air.tailRun = 0 ∧ (endHolding d r s).air.holdingEnded = true := by
  obtain ⟨-, -, -, hserved, -⟩ := endHolding_spec hhold r
  exact (hserved hserve).1 (.inr (.inr hon))

theorem holdingEndedAt_endHolding {r : EndReason} (h : r ≠ .timeout) (h' : r ≠ .starved) {s : State} {d : Desk}
    (hhold : hasState s d .holding) : holdingEndedAt r s (endHolding d r s) d := by
  refine ⟨fun _ => ?_, fun hnot => absurd hhold hnot⟩
  obtain ⟨hrec, hdrain, hpub⟩ := ended_record (getDesk s d) r h h'
  rw [getDesk_endHolding, if_pos ⟨rfl, hhold⟩]
  exact ⟨hrec, hdrain, hpub, deskFlagSet_endHolding r hhold⟩

/-! ### FILL frames (R112, R113) -/

theorem handsOver_decideFill (s : State) : HandsOver s (decideFill s) 0 (s.air.serving.getD 0) false (.all 0) :=
  handsOver_decideField _ _ _ _ s

theorem drainFrame_fill (d : Desk) (s : State) :
    HandsOver s (drainFrame d s) 0 (s.air.serving.getD 0) false (.all 0) ∧ (drainFrame d s).air.identActive = false := by
  refine ⟨(handsOver_decideFill s).of_bus (endHolding_frame _ _ _).2.2.1, ?_⟩
  rw [drainFrame, endHolding_air]
  rfl

/-- R113: a FILL frame counted toward starvation, before it ends a holding. -/
def starveCounted (s : State) : State :=
  (decideFill s).setAir { (decideFill s).air with starveRun := capAdd s.air.starveRun 1 s.setup.silenceHold }

theorem starveFrame_eq (d : Desk) (s : State) : starveFrame d s =
    if s.setup.silenceHold ≤ s.air.starveRun + 1 then endHolding d .starved (starveCounted s) else starveCounted s := rfl

theorem starveFrame_fill (d : Desk) (s : State) :
    HandsOver s (starveFrame d s) 0 (s.air.serving.getD 0) false (.all 0) ∧ (starveFrame d s).air.identActive = false := by
  have hfill : HandsOver s (starveCounted s) 0 (s.air.serving.getD 0) false (.all 0) :=
    (handsOver_decideFill s).of_bus rfl
  rw [starveFrame_eq]
  split
  · refine ⟨hfill.of_bus (endHolding_frame _ _ _).2.2.1, ?_⟩
    rw [endHolding_air]
    rfl
  · exact ⟨hfill, rfl⟩

/-- R113: below silence_hold the frame only counts. -/
theorem starveFrame_below {d : Desk} {s : State} (h : s.air.starveRun + 1 < s.setup.silenceHold) :
    (starveFrame d s).air = { s.air with starveRun := s.air.starveRun + 1, identActive := false }
    ∧ (starveFrame d s).claims = s.claims ∧ (starveFrame d s).pool = s.pool := by
  have hcount : capAdd s.air.starveRun 1 s.setup.silenceHold = s.air.starveRun + 1 := Nat.min_eq_left h.le
  rw [starveFrame_eq, if_neg (by omega), starveCounted, hcount]
  exact ⟨rfl, rfl, rfl⟩

/-- R113: at silence_hold the holding ends with STARVED. -/
theorem starveFrame_at_limit {d : Desk} {s : State} (h : s.setup.silenceHold ≤ s.air.starveRun + 1) :
    starveFrame d s = endHolding d .starved (starveCounted s) := by
  rw [starveFrame_eq, if_pos h]

/-! ### A cell taken from a queue (R94 to R96) -/

theorem play_current_last {q : DeskQueue} {c : Current} {x : Cell} (hc : q.current = some c) (hr : c.rest = [x]) :
    q.play = some ⟨x, c.trim, c.releaseAfter,
      { q with current := none, cursor := some (c.seq + 1), played := count16 q.played }⟩ := by
  simp only [DeskQueue.play, hc, hr]

theorem play_current_next {q : DeskQueue} {c : Current} {x y : Cell} {rest : List Cell} (hc : q.current = some c)
    (hr : c.rest = x :: y :: rest) : q.play = some ⟨x, c.trim, false,
      { q with current := some { c with rest := y :: rest, playIndex := c.playIndex + 1 }, played := count16 q.played }⟩ := by
  simp only [DeskQueue.play, hc, hr]

/-- R95: playing counts the cell, and leaves the queued blocks and the gap count. -/
theorem play_keeps {q : DeskQueue} {p : Played} (h : q.play = some p) :
    p.queue.played = min (q.played + 1) 65535 ∧ p.queue.queue = q.queue ∧ p.queue.gap = q.gap := by
  unfold DeskQueue.play at h
  split at h
  next => cases h
  next =>
    split at h
    next => cases h
    all_goals
      cases h
      exact ⟨rfl, rfl, rfl⟩

/-- R95: the current block c after its cell x is played, with rest left. -/
theorem play_current {q : DeskQueue} {c : Current} {x : Cell} {rest : List Cell} (hc : q.current = some c)
    (hr : c.rest = x :: rest) : ∃ p, q.play = some p ∧ p.cell = x ∧ p.trim = c.trim
      ∧ (p.releaseAfterDone = true ↔ rest = [] ∧ c.releaseAfter = true)
      ∧ (rest ≠ [] → p.queue.current = some { c with rest := rest, playIndex := c.playIndex + 1 }
        ∧ p.queue.cursor = q.cursor)
      ∧ (rest = [] → p.queue.current = none ∧ p.queue.cursor = some (c.seq + 1)) := by
  cases rest with
  | nil => exact ⟨_, play_current_last hc hr, rfl, rfl, by simp, by simp, by simp⟩
  | cons y rest => exact ⟨_, play_current_next hc hr, rfl, rfl, by simp, by simp, by simp⟩

theorem startHead_cons {q : DeskQueue} {b : Block} (h : q.queue.head? = some b) : q.startHead = { q with
    queue := q.queue.tail, current := some ⟨b.seq, b.cells, b.trim, b.releaseAfter, 0⟩, cursor := some b.seq } := by
  obtain ⟨rest, hq⟩ := List.head?_eq_some_iff.mp h
  simp only [DeskQueue.startHead, hq, List.tail_cons]

theorem declareGap_cons {q : DeskQueue} {b : Block} {c : Seq} (h : q.queue.head? = some b) (hc : q.cursor = some c) :
    q.declareGap = { q with gap := min (q.gap + (b.seq - c).toNat) 65535, cursor := some b.seq } := by
  obtain ⟨rest, hq⟩ := List.head?_eq_some_iff.mp h
  simp only [DeskQueue.declareGap, hq, hc, capAdd]

/-! ### VOICE frames (R95, R104, R111, R113, R114) -/

theorem scaledBy_scaleCell (trim : BitVec 4) (x : Cell) : scaledBy trim x (scaleCell trim x) := by
  intro i
  rw [scaleCell, Eight.get_mapIdx]
  exact toInt_scaleSample trim (x.get i)

/-- A VOICE frame, before it ends a holding. -/
def voiceOut (d : Desk) (p : Played) (s : State) : State :=
  markVoice d (decideField kindVoice false (scaleCell p.trim p.cell) false (releaseCells d p.queue s))

theorem voiceFrame_eq {d : Desk} {s : State} {p : Played} (hp : (getQueue s d).play = some p) :
    voiceFrame d s = if p.releaseAfterDone then endHolding d .done (voiceOut d p s) else voiceOut d p s := by
  rw [voiceFrame, hp]
  rfl

/-- R114: the first VOICE frame of a holding raises ON_AIR. -/
theorem markVoice_spec (d : Desk) (s : State) :
    (markVoice d s).air = { s.air with starveRun := 0, voiceSent := true }
    ∧ (s.air.voiceSent = false → deskFlagSet (markVoice d s) d .onAir) := by
  unfold markVoice
  dsimp only
  split
  next h => exact ⟨rfl, fun hc => absurd h (by rw [hc]; decide)⟩
  next => exact ⟨rfl, fun _ => deskFlagSet_raiseDesk d .onAir _⟩

theorem voiceOut_spec (d : Desk) (p : Played) (s : State) :
    (voiceOut d p s).air = { s.air with starveRun := 0, voiceSent := true, identActive := false }
    ∧ (voiceOut d p s).pool = (releaseCells d p.queue s).pool ∧ (voiceOut d p s).claims = s.claims
    ∧ (s.air.voiceSent = false → deskFlagSet (voiceOut d p s) d .onAir) := by
  obtain ⟨hair, hflag⟩ := markVoice_spec d
    (decideField kindVoice false (scaleCell p.trim p.cell) false (releaseCells d p.queue s))
  exact ⟨hair, by simp [voiceOut], by simp [voiceOut], hflag⟩

theorem handsOver_voiceOut {d : Desk} {s : State} (hserve : s.air.serving = some d) (p : Played) :
    HandsOver s (voiceOut d p s) 1 d false (scaleCell p.trim p.cell) := by
  have hdesk : (releaseCells d p.queue s).air.serving.getD 0 = d := by
    rw [(releaseCells_frame s d p.queue).2.2.2.2.2.2.1, hserve]
    rfl
  have h := handsOver_decideField kindVoice false (scaleCell p.trim p.cell) false (releaseCells d p.queue s)
  rw [hdesk] at h
  exact (HandsOver.from_frame (s := s) h rfl rfl rfl).of_bus (markVoice_frame _ d).2.2.1

section
variable {d : Desk} {s : State} {p : Played} (hp : (getQueue s d).play = some p)
include hp

/-- An ending in a VOICE frame leaves what the frame hands over and counts. -/
theorem voiceFrame_kept : (voiceFrame d s).bus = (voiceOut d p s).bus ∧ (voiceFrame d s).pool = (voiceOut d p s).pool
    ∧ (voiceFrame d s).air.starveRun = 0 ∧ (voiceFrame d s).air.voiceSent = true
    ∧ (s.air.voiceSent = false → deskFlagSet (voiceFrame d s) d .onAir) := by
  obtain ⟨hair, -, -, hflag⟩ := voiceOut_spec d p s
  rw [voiceFrame_eq hp]
  split
  · rw [endHolding_air, hair]
    exact ⟨by simp, by simp, rfl, rfl, fun h => deskFlagSet_endHolding_of d .done (hflag h)⟩
  · rw [hair]
    exact ⟨rfl, rfl, rfl, rfl, hflag⟩

theorem getQueue_voiceFrame : getQueue (voiceFrame d s) d = p.queue := by
  obtain ⟨-, hpool, -⟩ := voiceFrame_kept hp
  obtain ⟨-, hplayed, -⟩ := voiceOut_spec d p s
  rw [getQueue, hpool, hplayed]
  exact Four.get_set_self _ _ _

theorem handsOver_voiceFrame (hserve : s.air.serving = some d) :
    HandsOver s (voiceFrame d s) 1 d false (scaleCell p.trim p.cell) :=
  (handsOver_voiceOut hserve p).of_bus (voiceFrame_kept hp).1

/-- R111: the last cell of a release-after block ends the holding. -/
theorem voiceFrame_last (hserve : s.air.serving = some d) (hon : s.air.state = .on) (hlast : p.releaseAfterDone = true)
    (hhold : hasState s d .holding) : (voiceFrame d s).air.state = .tail ∧ (voiceFrame d s).air.tailRun = 0
      ∧ (voiceFrame d s).air.holdingEnded = true ∧ holdingEndedAt .done s (voiceFrame d s) d := by
  obtain ⟨hair, -, hclaims, -⟩ := voiceOut_spec d p s
  have hhold' : hasState (voiceOut d p s) d .holding := by rw [hasState, getDesk_of_claims hclaims]; exact hhold
  obtain ⟨htail, hrun, hknown⟩ := endHolding_to_tail (by rw [hair]; exact hserve) (by rw [hair]; exact hon) hhold' .done
  rw [voiceFrame_eq hp, if_pos hlast]
  exact ⟨htail, hrun, hknown, holdingEndedAt_from (holdingEndedAt_endHolding (by decide) (by decide) hhold')
    (congrArg Claims.desks hclaims.symm)⟩

/-- R95, R104, R111, R113, R114: the cell played with a VOICE frame. -/
theorem cellPlayed_voiceFrame (hserve : s.air.serving = some d) (hon : s.air.state = .on) :
    cellPlayed s (voiceFrame d s) d p.trim p.cell (p.releaseAfterDone = true) := by
  obtain ⟨-, hpool, hstarve, hsent, honAir⟩ := voiceFrame_kept hp
  obtain ⟨hair, hplayed, -, -⟩ := voiceOut_spec d p s
  refine ⟨⟨_, (handsOver_voiceFrame hp hserve).latch, rfl, ?_, scaledBy_scaleCell _ _⟩, ?_, ?_, hstarve, hsent, honAir,
    fun hlast hhold => ?_, fun hlast => ?_⟩
  · exact (BitVec.toNat_ofNat d.val 2).trans (Nat.mod_eq_of_lt d.isLt)
  · have hcells := cells_play hp
    rw [hpool, hplayed, free_releaseCells]
    omega
  · rw [getQueue_voiceFrame hp]
    exact (play_keeps hp).1
  · obtain ⟨htail, hrun, hknown, hended, -⟩ := voiceFrame_last hp hserve hon hlast hhold
    obtain ⟨hrec, -, -, hflag⟩ := hended hhold
    exact ⟨htail, hrun, hknown, hrec, hflag⟩
  · rw [voiceFrame_eq hp, if_neg hlast, hair]
    exact hon

end

end Sys2Proof

namespace Sys2Proof
open Machine

/-! ### What the rest of a frame start leaves of a decision -/

/-- From v to t nothing changed of what the air sequencer's decision leaves: its blocks, the drives, the flags it raised, and
the record of a desk that is IDLE. -/
structure AirShown (v t : State) : Prop where
  air : t.air = v.air
  pool : t.pool = v.pool
  ident : t.ident = v.ident
  latch : t.bus.progLatch = v.bus.progLatch
  keyl : t.bus.keylDrive = v.bus.keylDrive
  drive : t.bus.progDrive = v.bus.progDrive
  flags : ∀ d f, deskFlagSet v d f → deskFlagSet t d f
  record : ∀ d, hasState v d .idle → (getDesk t d).record = (getDesk v d).record

theorem AirShown.refl (v : State) : AirShown v v := ⟨rfl, rfl, rfl, rfl, rfl, rfl, fun _ _ h => h, fun _ _ => rfl⟩

/-- s and u are alike in what decides how a cell of desk d is counted when it is played. -/
structure OverAlike (d : Desk) (s u : State) : Prop where
  free : u.pool.free = s.pool.free
  played : (getQueue u d).played = (getQueue s d).played
  voiceSent : u.air.voiceSent = s.air.voiceSent
  holding : hasState s d .holding → hasState u d .holding ∧ (getDesk u d).record.cls = (getDesk s d).record.cls

section
variable {s u v t : State} {d : Desk} {x : Cell} {rest : List Cell} (hsu : OverAlike d s u) (hvt : AirShown v t)
include hsu hvt

theorem cellPlayed.carried {trim : BitVec 4} {lastOne : Prop} (h : cellPlayed u v d trim x lastOne) :
    cellPlayed s t d trim x lastOne := by
  obtain ⟨hfield, hfree, hplayed, hstarve, hsent, honAir, hlast, hgoesOn⟩ := h
  have hqueue : getQueue t d = getQueue v d := by rw [getQueue, hvt.pool]; rfl
  rw [hsu.free] at hfree
  rw [hsu.played] at hplayed
  rw [hsu.voiceSent] at honAir
  refine ⟨?_, ?_, ?_, ?_, ?_, fun hfirst => hvt.flags _ _ (honAir hfirst), fun hl hhold => ?_, ?_⟩
  · rw [hvt.latch]; exact hfield
  · rw [hvt.pool]; exact hfree
  · rw [hqueue]; exact hplayed
  · rw [hvt.air]; exact hstarve
  · rw [hvt.air]; exact hsent
  · obtain ⟨hhold', hcls⟩ := hsu.holding hhold
    obtain ⟨htail, hrun, hknown, hrec, hflag⟩ := hlast hl hhold'
    rw [hvt.air, hvt.record d (by rw [hasState, hrec]; rfl), hrec, idleRecord, hcls]
    exact ⟨htail, hrun, hknown, rfl, hvt.flags _ _ hflag⟩
  · rw [hvt.air]; exact hgoesOn

theorem currentPlayed.carried {c : Current} (h : currentPlayed u v d c x rest) (hq : getQueue u d = getQueue s d) :
    currentPlayed s t d c x rest := by
  obtain ⟨hcell, hkept⟩ := h
  have hqueue : getQueue t d = getQueue v d := by rw [getQueue, hvt.pool]; rfl
  refine ⟨hcell.carried hsu hvt, ?_⟩
  rw [hqueue, ← hq]
  exact hkept

theorem headPlayed.carried {b : Block} (h : headPlayed u v d b x rest)
    (hq : (getQueue u d).queue = (getQueue s d).queue) : headPlayed s t d b x rest := by
  obtain ⟨hcell, hkept⟩ := h
  have hqueue : getQueue t d = getQueue v d := by rw [getQueue, hvt.pool]; rfl
  refine ⟨hcell.carried hsu hvt, ?_⟩
  rw [hqueue, ← hq]
  exact hkept

end

theorem gapCounted.carried {s u v t : State} {d : Desk} {b : Block} {c : Seq} (h : gapCounted u v d b c)
    (hvt : AirShown v t) (hq : getQueue u d = getQueue s d) : gapCounted s t d b c := by
  obtain ⟨hgap, hflag⟩ := h
  have hqueue : getQueue t d = getQueue v d := by rw [getQueue, hvt.pool]; rfl
  refine ⟨?_, hvt.flags _ _ hflag⟩
  rw [hqueue, ← hq]
  exact hgap

/-! ### The over on the air (R94 to R96, R108 to R112) -/

section
variable {s : State} {d : Desk} (hserve : s.air.serving = some d) (hon : s.air.state = .on)
include hserve hon

theorem voiceFrame_current {c : Current} {x : Cell} {rest : List Cell} (hc : (getQueue s d).current = some c)
    (hr : c.rest = x :: rest) : currentPlayed s (voiceFrame d s) d c x rest
      ∧ ∃ y, HandsOver s (voiceFrame d s) 1 d false y ∧ scaledBy c.trim x y := by
  obtain ⟨p, hp, rfl, htrim, hlast, hnext, hend⟩ := play_current hc hr
  obtain ⟨-, hqueue, hgap⟩ := play_keeps hp
  have hcell := cellPlayed_voiceFrame hp hserve hon
  rw [htrim, propext hlast] at hcell
  have hq := getQueue_voiceFrame hp
  refine ⟨⟨hcell, ?_⟩, _, handsOver_voiceFrame hp hserve, ?_⟩
  · rw [hq]
    exact ⟨hqueue, hgap, hnext, hend⟩
  · rw [htrim]
    exact scaledBy_scaleCell _ _

/-- R94: the head starts, and its first cell is played in the same frame. -/
theorem startFrame_head {b : Block} {x : Cell} {rest : List Cell} (hb : (getQueue s d).queue.head? = some b)
    (hr : b.cells = x :: rest) : headPlayed s (startFrame d s) d b x rest
      ∧ (getQueue (startFrame d s) d).gap = (getQueue s d).gap
      ∧ ∃ y, HandsOver s (startFrame d s) 1 d false y ∧ scaledBy b.trim x y := by
  have hq : getQueue (setQueue d (getQueue s d).startHead s) d = { getQueue s d with
      queue := (getQueue s d).queue.tail, current := some ⟨b.seq, b.cells, b.trim, b.releaseAfter, 0⟩
      cursor := some b.seq } := by
    rw [getQueue_setQueue, if_pos rfl, startHead_cons hb]
  have halike : OverAlike d s (setQueue d (getQueue s d).startHead s) :=
    ⟨rfl, by rw [hq], rfl, fun hhold => ⟨hhold, rfl⟩⟩
  obtain ⟨⟨hcell, hqueue, hgap, hnext, hend⟩, y, hfield, hscaled⟩ :=
    voiceFrame_current (s := setQueue d (getQueue s d).startHead s) hserve hon (congrArg DeskQueue.current hq) hr
  rw [hq] at hqueue hgap hnext
  exact ⟨⟨hcell.carried halike (.refl _), hqueue, hnext, hend⟩, hgap, y, hfield.from_frame rfl rfl rfl, hscaled⟩

/-- R96, R110: the gap is declared, and the head starts. -/
theorem gapFrame_head {b : Block} {x : Cell} {rest : List Cell} {c : Seq} (hb : (getQueue s d).queue.head? = some b)
    (hr : b.cells = x :: rest) (hc : (getQueue s d).cursor = some c) : headPlayed s (gapFrame d s) d b x rest
      ∧ gapCounted s (gapFrame d s) d b c ∧ ∃ y, HandsOver s (gapFrame d s) 1 d false y ∧ scaledBy b.trim x y := by
  let w := raiseDesk d .gap (setQueue d (getQueue s d).declareGap s)
  have hq : getQueue w d = { getQueue s d with
      gap := min ((getQueue s d).gap + (b.seq - c).toNat) 65535, cursor := some b.seq } := by
    rw [← declareGap_cons hb hc]
    exact (getQueue_setQueue d d _ s).trans (if_pos rfl)
  have halike : OverAlike d s w := ⟨rfl, by rw [hq], rfl, fun hhold => ⟨hhold, rfl⟩⟩
  obtain ⟨hhead, hgap, y, hfield, hscaled⟩ := startFrame_head (s := w) hserve hon (by rw [hq]; exact hb) hr
  have hflag : deskFlagSet (startFrame d w) d .gap :=
    (airStable_deskFlagSet d .gap).keeps_startFrame (deskFlagSet_raiseDesk d .gap _) d
  rw [hq] at hgap
  exact ⟨hhead.carried halike (.refl _) (by rw [hq]), ⟨hgap, hflag⟩, y, hfield.from_frame rfl rfl rfl, hscaled⟩

/-- R112: nothing is left to drain. -/
theorem drainFrame_ends (hhold : hasState s d .holding) : (drainFrame d s).air.state = .tail
    ∧ (drainFrame d s).air.tailRun = 0 ∧ (drainFrame d s).air.holdingEnded = true
    ∧ holdingEndedAt .done s (drainFrame d s) d := by
  have hhold' : hasState (decideFill s) d .holding := hhold
  obtain ⟨htail, hrun, hknown⟩ := endHolding_to_tail (s := decideFill s) hserve hon hhold' .done
  exact ⟨htail, hrun, hknown, holdingEndedAt_from (holdingEndedAt_endHolding (by decide) (by decide) hhold') rfl⟩

end

/-! ### The choice of R109, and the states that make it (R107, R108) -/

theorem primeTest_iff (s : State) (d : Desk) : primeTest s d = true ↔ canBegin s d := by
  simp [primeTest, effectivePrebuffer, endKnown, draining, canBegin]

theorem cellChoice_current {s : State} {d : Desk} {c : Current} {x : Cell} {rest : List Cell}
    (hc : (getQueue s d).current = some c) (hr : c.rest = x :: rest) : cellChoice s d = .playCell := by
  have hleft : 0 < (getQueue s d).left := by
    rw [DeskQueue.left, hc]
    simp [hr]
  exact if_pos hleft

section
variable {s : State} {d : Desk} (hnone : (getQueue s d).current = none)
include hnone

theorem left_of_current_none : (getQueue s d).left = 0 := by
  rw [DeskQueue.left, hnone]

theorem cellChoice_empty (hq : (getQueue s d).queue = []) : cellChoice s d = .emptyQueue := by
  simp [cellChoice, left_of_current_none hnone, hq]

theorem cellChoice_start {b : Block} (hb : (getQueue s d).queue.head? = some b)
    (hc : (getQueue s d).cursor = none ∨ (getQueue s d).cursor = some b.seq) : cellChoice s d = .startHead := by
  obtain ⟨rest, hq⟩ := List.head?_eq_some_iff.mp hb
  rcases hc with hc | hc
  · simp [cellChoice, left_of_current_none hnone, hq, hc]
  · simp [cellChoice, left_of_current_none hnone, hq, hc]

theorem cellChoice_later {b : Block} {c : Seq} (hb : (getQueue s d).queue.head? = some b)
    (hc : (getQueue s d).cursor = some c) (hne : b.seq ≠ c) :
    cellChoice s d = if primeTest s d then .declareGap else .waitForBlock := by
  obtain ⟨rest, hq⟩ := List.head?_eq_some_iff.mp hb
  simp [cellChoice, left_of_current_none hnone, hq, hc, hne]

end

theorem goState_self {s : State} {x : AirState} (h : s.air.state = x) : goState x s = s := by
  subst h
  rfl

theorem overAlike_goState (d : Desk) (s : State) (x : AirState) : OverAlike d s (goState x s) := ⟨rfl, rfl, rfl, fun hhold => ⟨hhold, rfl⟩⟩

/-- R107, R108: in ON, and where the over can begin at the end of LEAD or in PRIME, the decision is that of ON. -/
theorem airDecide_of_choosesCell {s : State} {d : Desk} (hserve : s.air.serving = some d) (h : choosesCell s d) :
    airDecide s = onDecide d (goState .on s) := by
  rcases h with hon | ⟨hprime | ⟨hlead, hdone, hpurpose⟩, hcan⟩
  · rw [goState_self hon]
    simp only [airDecide, hon, hserve]
  · have htest := (primeTest_iff s d).mpr hcan
    simp only [airDecide, hprime, hserve, primeDecide, htest, if_true]
  · have htest : primeTest (goState .prime s) d = true := (primeTest_iff s d).mpr hcan
    simp only [airDecide, hlead, leadDecide, if_neg (not_lt.mpr hdone), leadEnds, hpurpose, hserve, primeDecide, htest,
      if_true]
    rfl

section
variable {s : State} {d : Desk} (hserve : s.air.serving = some d) (hchoice : choosesCell s d)
include hserve hchoice

theorem airDecide_current {c : Current} {x : Cell} {rest : List Cell} (hc : (getQueue s d).current = some c)
    (hr : c.rest = x :: rest) : currentPlayed s (airDecide s) d c x rest
      ∧ ∃ y, HandsOver s (airDecide s) 1 d false y ∧ scaledBy c.trim x y := by
  have hplays : airDecide s = voiceFrame d (goState .on s) := by
    rw [airDecide_of_choosesCell hserve hchoice, onDecide, cellChoice_current (s := goState .on s) hc hr]
  obtain ⟨hplayed, y, hfield, hscaled⟩ := voiceFrame_current (s := goState .on s) hserve rfl hc hr
  rw [hplays]
  exact ⟨hplayed.carried (overAlike_goState d s .on) (.refl _) rfl, y, hfield.from_frame rfl rfl rfl, hscaled⟩

section
variable {b : Block} {x : Cell} {rest : List Cell} (hnone : (getQueue s d).current = none)
  (hb : (getQueue s d).queue.head? = some b) (hr : b.cells = x :: rest)
include hnone hb hr

theorem airDecide_head (hc : (getQueue s d).cursor = none ∨ (getQueue s d).cursor = some b.seq) :
    headPlayed s (airDecide s) d b x rest ∧ (getQueue (airDecide s) d).gap = (getQueue s d).gap
    ∧ ∃ y, HandsOver s (airDecide s) 1 d false y ∧ scaledBy b.trim x y := by
  have hstarts : airDecide s = startFrame d (goState .on s) := by
    rw [airDecide_of_choosesCell hserve hchoice, onDecide, cellChoice_start (s := goState .on s) hnone hb hc]
  obtain ⟨hplayed, hgap, y, hfield, hscaled⟩ := startFrame_head (s := goState .on s) hserve rfl hb hr
  rw [hstarts]
  exact ⟨hplayed.carried (overAlike_goState d s .on) (.refl _) rfl, hgap, y, hfield.from_frame rfl rfl rfl, hscaled⟩

theorem airDecide_gap {c : Seq} (hc : (getQueue s d).cursor = some c) (hne : b.seq ≠ c) (hcan : canBegin s d) :
    headPlayed s (airDecide s) d b x rest ∧ gapCounted s (airDecide s) d b c
    ∧ ∃ y, HandsOver s (airDecide s) 1 d false y ∧ scaledBy b.trim x y := by
  have htest : primeTest (goState .on s) d = true := (primeTest_iff s d).mpr hcan
  have hdeclares : airDecide s = gapFrame d (goState .on s) := by
    rw [airDecide_of_choosesCell hserve hchoice, onDecide, cellChoice_later (s := goState .on s) hnone hb hc hne,
      if_pos htest]
  obtain ⟨hplayed, hgap, y, hfield, hscaled⟩ := gapFrame_head (s := goState .on s) hserve rfl hb hr hc
  rw [hdeclares]
  exact ⟨hplayed.carried (overAlike_goState d s .on) (.refl _) rfl, hgap.carried (.refl _) rfl, y,
    hfield.from_frame rfl rfl rfl, hscaled⟩

end

theorem airDecide_empty (hnone : (getQueue s d).current = none) (hq : (getQueue s d).queue = []) :
    airDecide s = if (getDesk s d).drain then drainFrame d (goState .on s) else starveFrame d (goState .on s) := by
  rw [airDecide_of_choosesCell hserve hchoice, onDecide, cellChoice_empty (s := goState .on s) hnone hq]
  rfl

end

end Sys2Proof

namespace Sys2Proof
open Machine

/-! ## The rows of the air sequencer's limits (R105, R107 to R113, R116, R118) -/

/-! ### A row at its limit runs the decision of the state the sequencer is in (logs 5, 36) -/

theorem servingIn_of {s : State} {d : Desk} {x : AirState} {test : State → Desk → Bool} (hstate : s.air.state = x)
    (hserve : s.air.serving = some d) (htest : test s d = true) : servingIn x test s = true := by
  simp [servingIn, hstate, hserve, htest]

section
variable {s : State} (hruns : frameRuns s = true)
include hruns

/-- A row whose event arises runs the decision. -/
theorem airRow_eq {i : Instr} {test : State → Bool} (hi : exec i s = .next (whenRuns (frameRuns s && test s) airDecide s))
    (htest : test s = true) : exec i s = .next (airDecide s) := by
  rw [hi, whenRuns, hruns, htest]
  rfl

theorem exec_leadEnd (hlead : s.air.state = .lead) (hdone : s.setup.lead ≤ s.air.leadRun) :
    exec .leadEnd s = .next (airDecide s) :=
  airRow_eq hruns (test := leadDone) rfl (by simp [leadDone, hlead, hdone])

theorem exec_tailEnd (htail : s.air.state = .tail) (hdone : s.setup.tail ≤ s.air.tailRun) :
    exec .tailEnd s = .next (airDecide s) :=
  airRow_eq hruns (test := tailDone) rfl (by simp [tailDone, htail, hdone])

theorem exec_identEnd (hident : s.air.state = .ident) (hdone : s.pool.clip.length ≤ s.ident.clipIndex) :
    exec .identEnd s = .next (airDecide s) :=
  airRow_eq hruns (test := identDone) rfl (by simp [identDone, clipCells, hident, hdone])

section
variable {d : Desk} (hserve : s.air.serving = some d)
include hserve

theorem exec_primeToOn (hprime : s.air.state = .prime) (hcan : canBegin s d) :
    exec .primeToOn s = .next (airDecide s) :=
  airRow_eq hruns (test := servingIn .prime primeTest) rfl (servingIn_of hprime hserve ((primeTest_iff s d).mpr hcan))

theorem exec_gapDeclared (hon : s.air.state = .on) (hchoice : cellChoice s d = .declareGap) :
    exec .gapDeclared s = .next (airDecide s) :=
  airRow_eq hruns (test := servingIn .on choosesGap) rfl (servingIn_of hon hserve (by rw [choosesGap, hchoice]; rfl))

theorem exec_releaseAfterDone (hon : s.air.state = .on) (hlast : finishesOver s d = true) :
    exec .releaseAfterDone s = .next (airDecide s) :=
  airRow_eq hruns (test := servingIn .on finishesOver) rfl (servingIn_of hon hserve hlast)

theorem exec_drainComplete (hon : s.air.state = .on) (hchoice : cellChoice s d = .emptyQueue)
    (hdrain : (getDesk s d).drain = true) : exec .drainComplete s = .next (airDecide s) :=
  airRow_eq hruns (test := servingIn .on drainDone) rfl
    (servingIn_of hon hserve (by rw [drainDone, hchoice, draining, hdrain]; rfl))

theorem exec_starvation (hon : s.air.state = .on) (hchoice : cellChoice s d = .emptyQueue)
    (hdrain : (getDesk s d).drain = false) (hlimit : s.setup.silenceHold ≤ s.air.starveRun + 1) :
    exec .starvation s = .next (airDecide s) := by
  have hstarves : servingIn .on onStarves s = true :=
    servingIn_of hon hserve (by rw [onStarves, hchoice, draining, hdrain]; rfl)
  exact airRow_eq hruns (test := starvationReaches) rfl (by rw [starvationReaches, hstarves, decide_eq_true hlimit]; rfl)

end
end

/-! ### The ends of LEAD and PRIME, and a gap (R107 to R112) -/

/-- R107, R108: the end of LEAD, and PRIME, where the over can begin: the row runs a decision that chooses a cell. -/
theorem overBegins {s : State} {d : Desk} {i : Instr} (hruns : frameRuns s = true) (hserve : s.air.serving = some d)
    (hcan : canBegin s d)
    (hi : i = .leadEnd ∧ s.air.state = .lead ∧ s.setup.lead ≤ s.air.leadRun ∧ s.air.purpose = some .desk
      ∨ i = .primeToOn ∧ s.air.state = .prime) : exec i s = .next (airDecide s) ∧ choosesCell s d := by
  rcases hi with ⟨rfl, hlead, hdone, hpurpose⟩ | ⟨rfl, hprime⟩
  · exact ⟨exec_leadEnd hruns hlead hdone, .inr ⟨.inr ⟨hlead, hdone, hpurpose⟩, hcan⟩⟩
  · exact ⟨exec_primeToOn hruns hserve hprime hcan, .inr ⟨.inl hprime, hcan⟩⟩

/-- R107: a desk that cannot begin its over goes from LEAD to PRIME. -/
theorem airDecide_lead_to_prime {s : State} {d : Desk} (hlead : s.air.state = .lead) (hdone : s.setup.lead ≤ s.air.leadRun)
    (hpurpose : s.air.purpose = some .desk) (hserve : s.air.serving = some d) (hcannot : ¬ canBegin s d) :
    airDecide s = starveFrame d (goState .prime s) := by
  have htest : ¬ primeTest (goState .prime s) d = true := fun h => hcannot ((primeTest_iff s d).mp h)
  simp only [airDecide, hlead, leadDecide, if_neg (not_lt.mpr hdone), leadEnds, hpurpose, hserve, primeDecide, if_neg htest]

/-- R134, R118: a clip position in IDENT goes out as loaded. -/
theorem identDecide_plays {s : State} {x : Cell} (hx : s.pool.clip[s.ident.clipIndex]? = some x) :
    identDecide s = decideField kindIdent (decide (s.ident.clipIndex + 1 = s.pool.clip.length)) x true
      (s.setIdent { s.ident with clipIndex := s.ident.clipIndex + 1 }) := by
  obtain ⟨hlt, -⟩ := List.getElem?_eq_some_iff.mp hx
  have hcell : s.pool.clip.getD s.ident.clipIndex silence = x := by rw [List.getD_eq_getElem?_getD, hx]; rfl
  have hlast : (s.ident.clipIndex + 1 == clipCells s) = decide (s.ident.clipIndex + 1 = s.pool.clip.length) := rfl
  rw [identDecide, clipCells, if_pos hlt, identFrame, hcell, hlast]

/-- R119, R130: a tail identification goes from LEAD to IDENT with the first clip cell. -/
theorem airDecide_lead_to_ident {s : State} {x : Cell} (hlead : s.air.state = .lead)
    (hdone : s.setup.lead ≤ s.air.leadRun) (hpurpose : s.air.purpose = some .tailIdent) (hx : s.pool.clip[0]? = some x) :
    airDecide s = decideField kindIdent (decide (0 + 1 = s.pool.clip.length)) x true
      ((goState .ident s).setIdent { s.ident with phase := .playing, kind := some .tail, clipIndex := 1 }) := by
  simp only [airDecide, hlead, leadDecide, if_neg (not_lt.mpr hdone), leadEnds, hpurpose, beginTailIdent]
  exact identDecide_plays (s := (goState .ident s).setIdent
    { s.ident with phase := .playing, kind := some .tail, clipIndex := 0 }) hx

/-- Settles O50: at its limit each row runs the decision (`exec_leadEnd` and the others), and what that decision does is said by
`airDecide_lead_to_prime`, `airDecide_lead_to_ident`, `airDecide_current`, `airDecide_head`, `airDecide_gap`, `drainFrame_ends`. -/
theorem leadPrimeAndGap : Obligations.LeadPrimeAndGap := by
  intro s hruns
  refine ⟨fun d hlead hdone hpurpose hserve hcannot hbelow => ?_, fun hlead hdone hpurpose x hx => ?_,
    fun i d hserve hcan => ⟨fun hi => ?_, fun hi b x rest c hnone hb hr hc hne => ?_⟩⟩
  · obtain ⟨hair, hclaims, hpool⟩ := starveFrame_below (d := d) (s := goState .prime s) hbelow
    obtain ⟨hfill, -⟩ := starveFrame_fill d (goState .prime s)
    refine ⟨_, exec_leadEnd hruns hlead hdone, ?_⟩
    rw [airDecide_lead_to_prime hlead hdone hpurpose hserve hcannot, hair]
    exact ⟨rfl, rfl, hfill.kind_eq, hclaims, hpool⟩
  · refine ⟨_, exec_leadEnd hruns hlead hdone, ?_⟩
    rw [airDecide_lead_to_ident hlead hdone hpurpose hx]
    exact ⟨rfl, rfl, rfl, rfl, rfl, _, rfl, rfl, rfl⟩
  · obtain ⟨hexec, hchoice⟩ := overBegins hruns hserve hcan hi
    refine ⟨fun c x rest hc hr => ⟨_, hexec, (airDecide_current hserve hchoice hc hr).1⟩,
      fun b x rest hnone hb hr hc => ?_, fun hnone hq hdrain hhold => ⟨_, hexec, ?_⟩⟩
    · obtain ⟨hplayed, hgap, -⟩ := airDecide_head hserve hchoice hnone hb hr hc
      exact ⟨_, hexec, hplayed, hgap⟩
    · obtain ⟨htail, hrun, hknown, hended⟩ := drainFrame_ends (s := goState .on s) hserve rfl hhold
      rw [airDecide_empty hserve hchoice hnone hq, if_pos hdrain]
      exact ⟨holdingEndedAt_from hended rfl, htail, hrun, hknown, (drainFrame_fill d (goState .on s)).1.kind_eq⟩
  · have hrow : exec i s = .next (airDecide s) ∧ choosesCell s d := by
      rcases hi with hi | hi | ⟨rfl, hon⟩
      · exact overBegins hruns hserve hcan (.inl hi)
      · exact overBegins hruns hserve hcan (.inr hi)
      · have hgap := cellChoice_later hnone hb hc hne
        rw [if_pos ((primeTest_iff s d).mpr hcan)] at hgap
        exact ⟨exec_gapDeclared hruns hserve hon hgap, .inl hon⟩
    obtain ⟨hplayed, hgap, -⟩ := airDecide_gap hserve hrow.2 hnone hb hr hc hne hcan
    exact ⟨_, hrow.1, hplayed, hgap⟩

/-! ### The endings on the air (R111 to R113) -/

theorem finishesOver_last {s : State} {d : Desk} {c : Current} {x : Cell} (hc : (getQueue s d).current = some c)
    (hr : c.rest = [x]) (hafter : c.releaseAfter = true) : finishesOver s d = true := by
  rw [finishesOver, nextPlayed, cellChoice_current hc hr, play_current_last hc hr]
  exact hafter

/-- R113: a holding starves. -/
theorem starveFrame_ends {s : State} {d : Desk} (hserve : s.air.serving = some d) (hon : s.air.state = .on)
    (hhold : hasState s d .holding) (hlimit : s.setup.silenceHold ≤ s.air.starveRun + 1) :
    (starveFrame d s).air.state = .tail ∧ (starveFrame d s).air.tailRun = 0 ∧ (starveFrame d s).air.holdingEnded = true
    ∧ getDesk (starveFrame d s) d = (getDesk s d).ended .starved ∧ deskFlagSet (starveFrame d s) d .ended := by
  have hhold' : hasState (starveCounted s) d .holding := hhold
  obtain ⟨htail, hrun, hknown⟩ := endHolding_to_tail (s := starveCounted s) hserve hon hhold' .starved
  rw [starveFrame_at_limit hlimit, getDesk_endHolding, if_pos ⟨rfl, hhold'⟩]
  exact ⟨htail, hrun, hknown, rfl, deskFlagSet_endHolding .starved hhold'⟩

/-- Settles O51: in ON each of the three rows runs the decision, and the frame it makes ends the holding
(`voiceFrame_last`, `drainFrame_ends`, `starveFrame_ends`). -/
theorem endingsOnAir : Obligations.EndingsOnAir := by
  intro s d hruns hon hserve hhold
  have hchoice : choosesCell s d := .inl hon
  refine ⟨fun c x hc hr hafter => ⟨_, exec_releaseAfterDone hruns hserve hon (finishesOver_last hc hr hafter), ?_⟩,
    fun hnone hq => ⟨fun hdrain => ?_, fun hdrain hlimit => ?_⟩⟩
  · have hplay := play_current_last hc hr
    have hvoice : airDecide s = voiceFrame d s := by
      rw [airDecide_of_choosesCell hserve hchoice, goState_self hon, onDecide, cellChoice_current hc hr]
    obtain ⟨htail, hrun, hknown, hended⟩ := voiceFrame_last hplay hserve hon hafter hhold
    obtain ⟨-, hfree, -⟩ := cellPlayed_voiceFrame hplay hserve hon
    rw [hvoice, getQueue_voiceFrame hplay]
    exact ⟨htail, hrun, hknown, hended, rfl, rfl, rfl, hfree, (handsOver_voiceFrame hplay hserve).kind_eq⟩
  · obtain ⟨htail, hrun, hknown, hended⟩ := drainFrame_ends hserve hon hhold
    refine ⟨_, exec_drainComplete hruns hserve hon (cellChoice_empty hnone hq) hdrain, ?_⟩
    rw [airDecide_empty hserve hchoice hnone hq, if_pos hdrain, goState_self hon]
    exact ⟨htail, hrun, hknown, hended, (drainFrame_fill d s).1.kind_eq⟩
  · obtain ⟨htail, hrun, hknown, hdesk, hflag⟩ := starveFrame_ends hserve hon hhold hlimit
    refine ⟨_, exec_starvation hruns hserve hon (cellChoice_empty hnone hq) hdrain hlimit, ?_⟩
    rw [airDecide_empty hserve hchoice hnone hq, hdrain, goState_self hon]
    refine ⟨htail, hrun, hknown, ?_, ?_, ?_, hflag, (starveFrame_frame s d).2.2.2.2.1⟩
    all_goals
      rw [if_neg Bool.false_ne_true, hdesk]
      rfl

/-! ### The ends of TAIL and IDENT (R105, R116, R118, R129) -/

/-- R118: an identification whose clip has been played leaves IDENT. -/
theorem airDecide_leavesIdent {s : State} (hident : s.air.state = .ident) (hdone : s.pool.clip.length ≤ s.ident.clipIndex) :
    airDecide s = leaveIdent s := by
  have hover : ¬ s.ident.clipIndex < clipCells s := not_lt.mpr hdone
  simp only [airDecide, hident, identDecide, if_neg hover]

/-- R118: an identification of its own, or whose over has ended, is followed by a start that waits, or by TAIL. -/
theorem leaveIdent_over {s : State} (h : s.air.purpose = some .tailIdent ∨ s.air.holdingEnded = true) :
    (∀ d, s.air.pendingStart = some d → leaveIdent s = startTaken d (endIdent s))
    ∧ (s.air.pendingStart = none → leaveIdent s = beginTail (endIdent s)) := by
  refine ⟨fun d hd => ?_, fun hd => ?_⟩
  · simp only [leaveIdent, if_pos h, hd]
  · simp only [leaveIdent, if_pos h, hd]

/-- R118: an identification in an over returns to ON. -/
theorem leaveIdent_returns {s : State} {d : Desk} (hpurpose : s.air.purpose = some .desk)
    (hnot : s.air.holdingEnded = false) (hserve : s.air.serving = some d) :
    leaveIdent s = onDecide d (goState .on (endIdent s)) := by
  have h : ¬ (s.air.purpose = some .tailIdent ∨ s.air.holdingEnded = true) := by simp [hpurpose, hnot]
  simp only [leaveIdent, if_neg h, hserve]

theorem beginTail_of_pos {s : State} (h : 0 < s.setup.tail) :
    beginTail s = decideFill (s.setAir { s.air with state := .tail, tailRun := 1 }) := if_pos h

theorem beginTail_of_zero {s : State} (h : s.setup.tail = 0) :
    beginTail s = stopAir (s.setAir { s.air with state := .tail, tailRun := 0 }) :=
  if_neg (by rw [setAir_setup, h]; exact lt_irrefl 0)

/-- Settles O52: TAIL at its limit stops the sequencer; IDENT at the end of its clip is left by `leaveIdent_over` or
`leaveIdent_returns`. -/
theorem tailAndIdentEnd : Obligations.TailAndIdentEnd := by
  intro s hruns
  refine ⟨fun htail hdone => ⟨_, exec_tailEnd hruns htail hdone, ?_⟩, fun hident hdone => ?_⟩
  · have hstops : airDecide s = stopAir s := by simp only [airDecide, htail, tailDecide, if_neg (not_lt.mpr hdone)]
    rw [hstops]
    exact ⟨rfl, rfl, rfl, rfl, rfl, rfl, rfl⟩
  have hrow := exec_identEnd hruns hident hdone
  rw [airDecide_leavesIdent hident hdone] at hrow
  refine ⟨fun d hover hstart => ⟨_, hrow, ?_⟩, fun hover hstart htail => ⟨_, hrow, ?_⟩,
    fun hover hstart htail => ⟨_, hrow, ?_⟩, fun d c x y rest hpurpose hnot hserve hc hr => ⟨_, hrow, ?_⟩⟩
  · rw [(leaveIdent_over hover).1 d hstart]
    exact ⟨rfl, rfl, rfl, rfl, rfl, rfl⟩
  · rw [(leaveIdent_over hover).2 hstart, beginTail_of_pos (s := endIdent s) htail]
    exact ⟨rfl, rfl, rfl, rfl⟩
  · rw [(leaveIdent_over hover).2 hstart, beginTail_of_zero (s := endIdent s) htail]
    exact ⟨rfl, rfl, rfl⟩
  · have hvoice : leaveIdent s = voiceFrame d (goState .on (endIdent s)) := by
      rw [leaveIdent_returns hpurpose hnot hserve, onDecide, cellChoice_current (s := goState .on (endIdent s)) hc hr]
    obtain ⟨⟨⟨-, -, -, -, -, -, -, hgoesOn⟩, -, -, hnext, -⟩, -⟩ :=
      voiceFrame_current (s := goState .on (endIdent s)) hserve rfl hc hr
    have hident' := (voiceFrame_frame (goState .on (endIdent s)) d).2.2.2.2.1
    rw [hvoice, hident']
    exact ⟨rfl, rfl, hgoesOn (by simp), (hnext (by simp)).1⟩

end Sys2Proof

namespace Sys2Proof
open Machine

/-! ## A frame start of a MEMBER on the air (R102 to R119, R133) -/

/-! ### The state that the air sequencer works in at a frame start, and what is left of its work -/

/-- u is s as the air sequencer finds it at a frame start that follows s: the count advanced, runs counted, and where its report is
taken last, bars counted and records published. -/
structure AirReady (s u : State) : Prop where
  air : u.air = s.air
  pool : u.pool = s.pool
  setup : u.setup = s.setup
  count : ownCount u = nextCount s
  sync : u.sync.state = s.sync.state
  join : u.member.join = s.member.join
  sample : u.bus.sampNow = s.bus.sampNow
  clip : u.ident.clipIndex = s.ident.clipIndex
  drain : ∀ d, (getDesk u d).drain = (getDesk s d).drain
  holding : ∀ d, hasState s d .holding → hasState u d .holding ∧ (getDesk u d).record.cls = (getDesk s d).record.cls

theorem AirShown.trans {v w t : State} (h : AirShown v w) (k : AirShown w t) : AirShown v t where
  air := k.air.trans h.air
  pool := k.pool.trans h.pool
  ident := k.ident.trans h.ident
  latch := k.latch.trans h.latch
  keyl := k.keyl.trans h.keyl
  drive := k.drive.trans h.drive
  flags d f hf := k.flags d f (h.flags d f hf)
  record d hd := (k.record d (by rw [hasState, h.record d hd]; exact hd)).trans (h.record d hd)

theorem dueStep_clipIndex (s : State) : (dueStep s).ident.clipIndex = s.ident.clipIndex := by
  unfold dueStep
  split
  · dsimp only
    split <;> rfl
  · rfl

theorem airReady_runsCounted (s : State) : AirReady s (runsCounted (s.setSync (syncAdvanced s))) := by
  have hclaims : (runsCounted (s.setSync (syncAdvanced s))).claims = s.claims := by simp [runsCounted]
  have hdesk (d : Desk) := getDesk_of_claims hclaims d
  refine ⟨by simp [runsCounted], by simp [runsCounted], by simp [runsCounted], ?_, by simp [runsCounted, syncAdvanced], ?_,
    ?_, ?_, fun d => by rw [hdesk], fun d hhold => by rw [hasState, hdesk]; exact ⟨hhold, rfl⟩⟩
  · simp [runsCounted, ownCount, nextCount, syncAdvanced]
  · rw [runsCounted_member, joinRuns_member]; rfl
  · rw [runsCounted_bus]; rfl
  · simp [runsCounted, dueStep_clipIndex]

theorem barDesk_drain (coolOff : Nat) (o : OwnDesk) : (barDesk coolOff o).drain = o.drain := by
  unfold barDesk
  split
  · split <;> rfl
  · rfl

theorem publish_keeps (o : OwnDesk) (now : Count) :
    (o.publish now).drain = o.drain ∧ (o.publish now).record.cls = o.record.cls
    ∧ (o.record.state = .idle → (o.publish now).record = o.record) := by
  cases h : o.endPub with
  | some r => rw [publish_pending h]; exact ⟨rfl, rfl, fun _ => rfl⟩
  | none =>
    by_cases hst : (o.record.state = .waiting ∨ o.record.state = .holding) ∧ o.stampSet = false
    · rw [publish_unstamped h hst.1 hst.2]
      exact ⟨rfl, rfl, fun hidle => by rw [hidle] at hst; simp at hst⟩
    · rw [publish_record h hst]
      exact ⟨rfl, rfl, fun _ => rfl⟩

/-- R40, R53: the bar work and the publication, taken before the air sequencer's work. -/
theorem AirReady.published {s u : State} (h : AirReady s u) : AirReady s (publishAll (barWork u u)) := by
  have hdesk (d : Desk) : getDesk (publishAll (barWork u u)) d = (if hasState u d .barred then
      barDesk u.setup.coolOff (getDesk u d) else getDesk u d).publish (ownCount (barWork u u)) := by
    rw [getDesk_publishAll, getDesk_barWork]
  refine ⟨by simpa using h.air, by simpa using h.pool, by simpa using h.setup, by simpa [ownCount] using h.count,
    by simpa using h.sync, by simpa using h.join, by simpa using h.sample, by simpa using h.clip, fun d => ?_,
    fun d hhold => ?_⟩
  · rw [hdesk, (publish_keeps _ _).1, ← h.drain d]
    split
    · exact barDesk_drain _ _
    · rfl
  · obtain ⟨hstate, hcls⟩ := h.holding d hhold
    have hbar : ¬ hasState u d .barred := by rw [hasState, hstate]; decide
    rw [hasState, hdesk, if_neg hbar, publish_state, (publish_keeps _ _).2.1]
    exact ⟨hstate, hcls⟩

theorem airShown_latchFrame (v : State) : AirShown v (latchFrame v) :=
  ⟨rfl, rfl, rfl, rfl, rfl, rfl, fun _ _ h => h, fun _ _ => rfl⟩

theorem deskFlagSet_barWork_of {before v : State} {d : Desk} {f : DeskFlag} (h : deskFlagSet v d f) :
    deskFlagSet (barWork before v) d f := by
  refine fold_preserves (P := fun t => deskFlagSet t d f)
    (fun d s => if (getDesk before d).record.state = .barred then barStep d s else s) (fun c t ht => ?_) h
  unfold barStep testBar
  split
  · split
    · split
      · exact deskFlagSet_raiseDesk_of c .barLifted ht
      · exact ht
    · exact ht
  · exact ht

/-- R40, R53: the bar work and the publication, taken after the air sequencer's work. -/
theorem airShown_published (before v : State) : AirShown v (publishAll (barWork before v)) := by
  refine ⟨by simp, by simp, by simp, by simp, by simp, by simp, fun d f h => ?_, fun d hidle => ?_⟩
  · simpa [deskFlagSet] using deskFlagSet_barWork_of (before := before) h
  · have hbar : barDesk v.setup.coolOff (getDesk v d) = getDesk v d := barDesk_of_not (by rw [hidle]; decide) _
    rw [getDesk_publishAll, getDesk_barWork, hbar, ite_self]
    exact (publish_keeps _ _).2.2 hidle

/-- R19, R48, R102: in LOCKED and TIMING a frame start is the air sequencer's work in a state that is s for it, with nothing of
that work changed after it. -/
theorem frameStart_air {s : State} (hruns : frameRuns s = true) (hsync : s.sync.state = .locked ∨ s.sync.state = .timing)
    (b : Bool) : ∃ u t, AirReady s u ∧ AirShown (airFrame u) t ∧ exec (.frameStart b) s = .next t := by
  have hwait : waitGoesOn s := by rcases hsync with h | h <;> simp [waitGoesOn, h]
  have hready := airReady_runsCounted s
  have hexec := exec_frameStart_of_waitGoesOn hruns hwait b
  cases b with
  | false => exact ⟨_, _, hready.published, airShown_latchFrame _, hexec⟩
  | true => exact ⟨_, _, hready, (airShown_published _ _).trans (airShown_latchFrame _), hexec⟩

section
variable {s u : State} (h : AirReady s u)
include h

theorem AirReady.queue (d : Desk) : getQueue u d = getQueue s d := by rw [getQueue, h.pool]; rfl

theorem AirReady.overAlike (d : Desk) : OverAlike d s u :=
  ⟨by rw [h.pool], by rw [h.queue], by rw [h.air], h.holding d⟩

theorem AirReady.canBegin_iff (d : Desk) : canBegin u d ↔ canBegin s d := by
  simp only [canBegin, quotaOf, h.queue, h.drain, h.setup, h.pool]

theorem AirReady.choice {d : Desk} (hd : choosesCell s d) : choosesCell u d := by
  simpa only [choosesCell, h.canBegin_iff, h.air, h.setup] using hd

/-- R102: what a MEMBER's sequencer hands over goes out on the air. -/
theorem AirReady.onAir {v t : State} (hshown : AirShown v t) (hjoin : s.member.join = .member) {kind : BitVec 3} {d : Desk}
    {last : Bool} {x : Cell} (hfield : HandsOver u v kind d last x) : putsOnAir s t kind d last x := by
  have hfree : (u.member.join != .fenced) = true := by rw [h.join, hjoin]; rfl
  refine ⟨?_, by rw [hshown.keyl, hfield.keyl, hfree], by rw [hshown.drive, hfield.drive, hfree]⟩
  rw [hshown.latch, hfield.latch, airField, h.setup, h.count]
  rfl

end

end Sys2Proof

namespace Sys2Proof
open Machine

/-! ### With nothing pending, the decision of the state the sequencer is in (R102, R107, R109, R116, R118) -/

theorem airFrame_of_nothingPending {s : State} (h : nothingPending s) : airFrame s = airDecide s := by
  obtain ⟨hstart, hident, hdue⟩ := h
  simp [airFrame, applyWithdrawal, hdue, hstart, hident]

theorem airDecide_ident {s : State} {x : Cell} (hident : s.air.state = .ident)
    (hx : s.pool.clip[s.ident.clipIndex]? = some x) : airDecide s =
      decideField kindIdent (decide (s.ident.clipIndex + 1 = s.pool.clip.length)) x true
        (s.setIdent { s.ident with clipIndex := s.ident.clipIndex + 1 }) := by
  rw [← identDecide_plays hx]
  simp only [airDecide, hident]

/-- R107, R116: below their limits LEAD and TAIL are FILL, with IDENT_ACTIVE in the LEAD of a tail identification. -/
theorem airDecide_counts {s : State}
    (h : s.air.state = .lead ∧ s.air.leadRun < s.setup.lead ∨ s.air.state = .tail ∧ s.air.tailRun < s.setup.tail) :
    HandsOver s (airDecide s) 0 (s.air.serving.getD 0) false (.all 0)
    ∧ ((airDecide s).air.identActive = true ↔ s.air.state = .lead ∧ s.air.purpose = some .tailIdent) := by
  rcases h with ⟨hlead, hbelow⟩ | ⟨htail, hbelow⟩
  · have hfield : airDecide s = decideLead (s.setAir { s.air with leadRun := s.air.leadRun + 1 }) := by
      simp only [airDecide, hlead, leadDecide, if_pos hbelow]
    rw [hfield]
    refine ⟨(handsOver_decideField ..).from_frame rfl rfl rfl, ?_⟩
    rw [decideLead, decideField_air]
    simp [hlead]
  · have hfield : airDecide s = decideFill (s.setAir { s.air with tailRun := s.air.tailRun + 1 }) := by
      simp only [airDecide, htail, tailDecide, if_pos hbelow]
    rw [hfield]
    refine ⟨(handsOver_decideField ..).from_frame rfl rfl rfl, ?_⟩
    rw [decideFill, decideField_air]
    simp [htail]

/-- R108, R109, R112, R113: a desk that plays no cell is FILL. -/
theorem airDecide_fill {s : State} {d : Desk} (hserve : s.air.serving = some d)
    (h : s.air.state = .prime ∧ ¬ canBegin s d
      ∨ s.air.state = .on ∧ (getQueue s d).current = none ∧ (getQueue s d).queue = []
      ∨ s.air.state = .on ∧ (getQueue s d).current = none ∧ ¬ canBegin s d ∧ (∃ b c,
        (getQueue s d).queue.head? = some b ∧ (getQueue s d).cursor = some c ∧ b.seq ≠ c)) :
    HandsOver s (airDecide s) 0 d false (.all 0) ∧ (airDecide s).air.identActive = false := by
  have hstarve := starveFrame_fill d s
  have hdrain := drainFrame_fill d s
  have hdesk : s.air.serving.getD 0 = d := by rw [hserve]; rfl
  rw [hdesk] at hstarve hdrain
  rcases h with ⟨hprime, hcannot⟩ | ⟨hon, hnone, hq⟩ | ⟨hon, hnone, hcannot, b, c, hb, hc, hne⟩
  · have htest : ¬ primeTest s d = true := fun h => hcannot ((primeTest_iff s d).mp h)
    have hwaits : airDecide s = starveFrame d s := by
      simp only [airDecide, hprime, hserve, primeDecide, if_neg htest]
    rw [hwaits]
    exact hstarve
  · rw [airDecide_empty hserve (.inl hon) hnone hq, goState_self hon]
    split
    · exact hdrain
    · exact hstarve
  · have htest : ¬ primeTest s d = true := fun h => hcannot ((primeTest_iff s d).mp h)
    have hchoice := cellChoice_later hnone hb hc hne
    rw [if_neg htest] at hchoice
    rw [airDecide_of_choosesCell hserve (.inl hon), goState_self hon, onDecide, hchoice]
    exact hstarve

theorem airDecide_off {s : State} (hoff : s.air.state = .off) : airDecide s = decideOff s := by
  simp only [airDecide, hoff]

/-! ### A pending start (R105, R106) -/

theorem applyWithdrawal_of_not {s : State} (h : s.air.withdrawDue = false) : applyWithdrawal s = s := by
  simp [applyWithdrawal, h]

theorem airFrame_start {s : State} {d : Desk} (hstart : s.air.pendingStart = some d) (hnot : s.air.state ≠ .ident) :
    airFrame s = startTaken d (applyWithdrawal s) := by
  have hstart' : (applyWithdrawal s).air.pendingStart = some d := by
    unfold applyWithdrawal
    split
    · exact hstart
    · exact hstart
  have hnot' : ¬ (applyWithdrawal s).air.state = .ident := by
    unfold applyWithdrawal
    split
    · exact (nomatch ·)
    · exact hnot
  simp only [airFrame, hstart', if_neg hnot']

/-- R105: a start taken is the first LEAD frame, and what was pending or due beside it is dropped. -/
theorem airFrame_start_spec {s : State} {d : Desk} (hstart : s.air.pendingStart = some d) (hnot : s.air.state ≠ .ident) :
    HandsOver s (airFrame s) 0 d false (.all 0) ∧ (airFrame s).ident.phase = .nothing ∧ (airFrame s).ident.kind = none
    ∧ (airFrame s).air = { s.air with
        state := .lead, purpose := some .desk, serving := some d, holdingEnded := false, voiceSent := false
        leadRun := 1, starveRun := 0, pendingStart := none, pendingIdent := none, identActive := false
        withdrawDue := false } := by
  rw [airFrame_start hstart hnot]
  unfold applyWithdrawal
  split
  · exact ⟨(handsOver_decideField ..).from_frame rfl rfl rfl, rfl, rfl, rfl⟩
  · exact ⟨(handsOver_decideField ..).from_frame rfl rfl rfl, rfl, rfl, rfl⟩

/-- R106: a start found in IDENT stays pending. -/
theorem airFrame_start_in_ident {s : State} {d : Desk} (hstart : s.air.pendingStart = some d)
    (hdue : s.air.withdrawDue = false) (hident : s.air.state = .ident) : airFrame s = airDecide s := by
  simp only [airFrame, applyWithdrawal_of_not hdue, hstart, if_pos hident]

/-! ### A pending identification, and a withdrawal (R117, R119, R129, R133) -/

theorem orderConds_iff (s : State) : orderConds s = true ↔
    memberActive s = true ∧ s.bus.sampNow.clampl = false ∧ s.pool.clip ≠ [] := by
  simp [orderConds, clipCells, List.length_pos_iff, and_assoc]

theorem intervalConds_iff (s : State) : intervalConds s = true ↔
    (s.air.state = .on ∨ s.air.state = .tail) ∧ orderConds s = true := by
  simp [intervalConds]

theorem tailConds_iff (s : State) : tailConds s = true ↔
    s.air.state = .off ∧ s.air.pendingStart = none ∧ orderConds s = true := by
  simp [tailConds, and_assoc]

section
variable {s : State} (hstart : s.air.pendingStart = none) (hdue : s.air.withdrawDue = false)
include hstart hdue

theorem airFrame_interval (hident : s.air.pendingIdent = some .interval) : airFrame s = takeInterval s := by
  simp only [airFrame, applyWithdrawal_of_not hdue, hstart, hident]

theorem airFrame_tailIdent (hident : s.air.pendingIdent = some .tail) : airFrame s = takeTailIdent s := by
  simp only [airFrame, applyWithdrawal_of_not hdue, hstart, hident]

end

/-- R117: an interval identification begins with the first clip cell. -/
theorem takeInterval_begins {s : State} {x : Cell} (hconds : intervalConds s = true) (hx : s.pool.clip[0]? = some x) :
    takeInterval s = decideField kindIdent (decide (0 + 1 = s.pool.clip.length)) x true
      ((s.setAir { s.air with state := .ident, pendingIdent := none }).setIdent
        { s.ident with phase := .playing, kind := some .interval, clipIndex := 1 }) := by
  rw [takeInterval, if_pos hconds]
  exact identDecide_plays (s := (s.setAir { s.air with state := .ident, pendingIdent := none }).setIdent
    { s.ident with phase := .playing, kind := some .interval, clipIndex := 0 }) hx

/-- No identification is pending in the air sequencer or played by it. -/
def identDropped (s : State) : Prop := s.air.pendingIdent = none ∧ s.air.state ≠ .ident

theorem identDropped_endHolding {s : State} (h : identDropped s) (d : Desk) (r : EndReason) :
    identDropped (endHolding d r s) := by
  obtain ⟨hpending, hstate⟩ := h
  refine ⟨by rw [endHolding_air]; exact hpending, ?_⟩
  by_cases hhold : hasState s d .holding
  · obtain ⟨-, -, -, hserved, -, hother⟩ := endHolding_spec hhold r
    by_cases hserve : s.air.serving = some d
    · cases hs : s.air.state with
      | ident => exact absurd hs hstate
      | off | tail => rw [hother (by simp [hs]), hs]; decide
      | lead | prime | on => rw [((hserved hserve).1 (by simp [hs])).1]; decide
    · rw [hother (.inl hserve)]
      exact hstate
  · rw [endHolding_of_not hhold]
    exact hstate

section
variable {s : State} (h : identDropped s) (d : Desk)
include h

theorem identDropped_starveFrame : identDropped (starveFrame d s) := by
  have hcounted : identDropped (starveCounted s) := h
  rw [starveFrame_eq]
  split
  · exact identDropped_endHolding hcounted d .starved
  · exact hcounted

theorem identDropped_voiceFrame : identDropped (voiceFrame d s) := by
  cases hp : (getQueue s d).play with
  | none =>
    rw [voiceFrame, hp]
    exact h
  | some p =>
    have hout : identDropped (voiceOut d p s) := by
      rw [identDropped, (voiceOut_spec d p s).1]
      exact h
    rw [voiceFrame_eq hp]
    split
    · exact identDropped_endHolding hout d .done
    · exact hout

theorem identDropped_onDecide : identDropped (onDecide d s) := by
  unfold onDecide
  cases cellChoice s d with
  | playCell => exact identDropped_voiceFrame h d
  | emptyQueue =>
    dsimp only
    split
    · exact identDropped_endHolding (s := decideFill s) h d .done
    · exact identDropped_starveFrame h d
  | startHead => exact identDropped_voiceFrame (s := setQueue d _ s) h d
  | declareGap => exact identDropped_voiceFrame (s := setQueue d _ (raiseDesk d .gap (setQueue d _ s))) h d
  | waitForBlock => exact identDropped_starveFrame h d

theorem identDropped_primeDecide : identDropped (primeDecide d s) := by
  unfold primeDecide
  split
  · exact identDropped_onDecide (s := goState .on s) ⟨h.1, nofun⟩ d
  · exact identDropped_starveFrame h d

end

/-- R109, R116: out of LEAD and IDENT the decision begins no identification. -/
theorem airDecide_identDropped {s : State} (h : identDropped s) (hlead : s.air.state ≠ .lead) :
    identDropped (airDecide s) ∧ (airDecide s).ident = s.ident := by
  cases hstate : s.air.state with
  | lead => exact absurd hstate hlead
  | ident => exact absurd hstate h.2
  | off =>
    rw [airDecide_off hstate]
    exact ⟨h, rfl⟩
  | tail =>
    have htail : airDecide s = tailDecide s := by simp only [airDecide, hstate]
    rw [htail, (tailDecide_frame s).2.2.2.2.2.2.1]
    refine ⟨?_, rfl⟩
    unfold tailDecide
    split
    · exact h
    · exact ⟨h.1, nofun⟩
  | prime =>
    cases hserve : s.air.serving with
    | none =>
      have hstop : airDecide s = stopAir s := by simp only [airDecide, hstate, hserve]
      rw [hstop]
      exact ⟨⟨h.1, nofun⟩, rfl⟩
    | some d =>
      have hprime : airDecide s = primeDecide d s := by simp only [airDecide, hstate, hserve]
      rw [hprime]
      exact ⟨identDropped_primeDecide h d, (primeDecide_frame s d).2.2.2.2.1⟩
  | on =>
    cases hserve : s.air.serving with
    | none =>
      have hstop : airDecide s = stopAir s := by simp only [airDecide, hstate, hserve]
      rw [hstop]
      exact ⟨⟨h.1, nofun⟩, rfl⟩
    | some d =>
      have hon : airDecide s = onDecide d s := by simp only [airDecide, hstate, hserve]
      rw [hon]
      exact ⟨identDropped_onDecide h d, (onDecide_frame s d).2.2.2.2.1⟩

/-- R117, R129: an interval identification whose conditions fail is dropped, and the frame is that of the state. -/
theorem takeInterval_drops {s : State} (hconds : ¬ intervalConds s = true) (hident : s.air.state ≠ .ident)
    (hlead : s.air.state ≠ .lead) : identDropped (takeInterval s) ∧ (takeInterval s).ident.phase = .nothing
      ∧ (takeInterval s).ident.kind = none := by
  obtain ⟨hdropped, hunit⟩ := airDecide_identDropped (s := dropPendingIdent s) ⟨rfl, hident⟩ hlead
  rw [takeInterval, if_neg hconds, hunit]
  exact ⟨hdropped, rfl, rfl⟩

/-- R119: a tail identification begins with LEAD. -/
theorem takeTailIdent_begins {s : State} (hconds : tailConds s = true) :
    HandsOver s (takeTailIdent s) 0 0 false (.all 0)
    ∧ (takeTailIdent s).air = { s.air with
        state := .lead, purpose := some .tailIdent, serving := none, holdingEnded := false, leadRun := 1
        pendingIdent := none, identActive := true }
    ∧ (takeTailIdent s).ident.phase = .lead ∧ (takeTailIdent s).ident.kind = some .tail := by
  rw [takeTailIdent, if_pos hconds]
  exact ⟨(handsOver_decideField ..).from_frame rfl rfl rfl, rfl, rfl, rfl⟩

/-- R119, R129: a tail identification whose conditions fail is dropped. -/
theorem takeTailIdent_drops {s : State} (hconds : ¬ tailConds s = true) (hoff : s.air.state = .off) :
    takeTailIdent s = decideOff (dropPendingIdent s) := by
  rw [takeTailIdent, if_neg hconds, airDecide_off (s := dropPendingIdent s) hoff]

/-- R133: a withdrawal goes OFF before the decision. -/
theorem airFrame_withdrawal {s : State} (hdue : s.air.withdrawDue = true) (hstart : s.air.pendingStart = none)
    (hident : s.air.pendingIdent = none) : offAir (airFrame s) ∧ (airFrame s).air.purpose = none
      ∧ (airFrame s).air.withdrawDue = false := by
  have hoff : airFrame s = decideOff (applyWithdrawal s) := by
    simp only [airFrame, applyWithdrawal, hdue, if_true, setAir_air, hstart, hident, airDecide]
  rw [hoff, applyWithdrawal, if_pos hdue]
  exact ⟨⟨rfl, rfl, rfl⟩, rfl, rfl⟩

end Sys2Proof

namespace Sys2Proof
open Machine

/-! ### What goes on the air, from the state before the frame start -/

theorem AirReady.decision {s u t : State} (hready : AirReady s u) (hnothing : nothingPending s)
    (hshown : AirShown (airFrame u) t) : AirShown (airDecide u) t := by
  have hnothing' : nothingPending u := by rw [nothingPending, hready.air]; exact hnothing
  rw [← airFrame_of_nothingPending hnothing']
  exact hshown

/-- R117, R119: for a MEMBER in LOCKED or TIMING the shared conditions are the clamp line and the clip. -/
theorem AirReady.orders {s u : State} (hready : AirReady s u) (hsync : s.sync.state = .locked ∨ s.sync.state = .timing)
    (hjoin : s.member.join = .member) : orderConds u = true ↔ s.bus.sampNow.clampl = false ∧ s.pool.clip ≠ [] := by
  have hactive : memberActive u = true := (memberActive_iff u).mpr (by rw [hready.sync, hready.join]; exact ⟨hsync, hjoin⟩)
  rw [orderConds_iff, hready.sample, hready.pool, and_iff_right hactive]

/-- R133. -/
theorem frameStart_withdrawal {s u t : State} (hready : AirReady s u) (hshown : AirShown (airFrame u) t)
    (hdue : s.air.withdrawDue = true) (hstart : s.air.pendingStart = none) (hident : s.air.pendingIdent = none) :
    offAir t ∧ t.air.purpose = none ∧ t.air.withdrawDue = false := by
  rw [← hready.air] at hdue hstart hident
  obtain ⟨⟨hoff, hkeyl, hdrive⟩, hpurpose, hdone⟩ := airFrame_withdrawal hdue hstart hident
  rw [offAir, hshown.air, hshown.keyl, hshown.drive]
  exact ⟨⟨hoff, hkeyl, hdrive⟩, hpurpose, hdone⟩

theorem frameStart_off {s u t : State} (hready : AirReady s u) (hnothing : nothingPending s)
    (hshown : AirShown (airFrame u) t) (hoff : s.air.state = .off) : offAir t := by
  have hdecided := hready.decision hnothing hshown
  rw [← hready.air] at hoff
  rw [airDecide_off hoff] at hdecided
  refine ⟨?_, hdecided.keyl, hdecided.drive⟩
  rw [hdecided.air]
  exact hoff

section
variable {s u t : State} (hready : AirReady s u) (hjoin : s.member.join = .member)
include hready hjoin

section
variable (hnothing : nothingPending s) (hshown : AirShown (airFrame u) t)
include hnothing hshown

section
variable {d : Desk} (hserve : s.air.serving = some d) (hchoice : choosesCell s d)
include hserve hchoice

theorem frameStart_current {c : Current} {x : Cell} {rest : List Cell} (hc : (getQueue s d).current = some c)
    (hr : c.rest = x :: rest) : currentPlayed s t d c x rest ∧ ∃ y, putsOnAir s t 1 d false y ∧ scaledBy c.trim x y := by
  have hdecided := hready.decision hnothing hshown
  rw [← hready.air] at hserve
  rw [← hready.queue] at hc
  obtain ⟨hplayed, y, hfield, hscaled⟩ := airDecide_current hserve (hready.choice hchoice) hc hr
  exact ⟨hplayed.carried (hready.overAlike d) hdecided (hready.queue d), y, hready.onAir hdecided hjoin hfield, hscaled⟩

section
variable {b : Block} {x : Cell} {rest : List Cell} (hnone : (getQueue s d).current = none)
  (hb : (getQueue s d).queue.head? = some b) (hr : b.cells = x :: rest)
include hnone hb hr

theorem frameStart_head (hc : (getQueue s d).cursor = none ∨ (getQueue s d).cursor = some b.seq) :
    headPlayed s t d b x rest ∧ (getQueue t d).gap = (getQueue s d).gap
    ∧ ∃ y, putsOnAir s t 1 d false y ∧ scaledBy b.trim x y := by
  have hdecided := hready.decision hnothing hshown
  have hqueue : getQueue t d = getQueue (airDecide u) d := by rw [getQueue, hdecided.pool]; rfl
  rw [← hready.air] at hserve
  rw [← hready.queue] at hnone hb hc ⊢
  obtain ⟨hplayed, hgap, y, hfield, hscaled⟩ := airDecide_head hserve (hready.choice hchoice) hnone hb hr hc
  exact ⟨hplayed.carried (hready.overAlike d) hdecided (by rw [hready.queue]), by rw [hqueue]; exact hgap, y,
    hready.onAir hdecided hjoin hfield, hscaled⟩

theorem frameStart_gap {c : Seq} (hc : (getQueue s d).cursor = some c) (hne : b.seq ≠ c) (hcan : canBegin s d) :
    headPlayed s t d b x rest ∧ gapCounted s t d b c ∧ ∃ y, putsOnAir s t 1 d false y ∧ scaledBy b.trim x y := by
  have hdecided := hready.decision hnothing hshown
  rw [← hready.air] at hserve
  rw [← hready.queue] at hnone hb hc
  obtain ⟨hplayed, hgap, y, hfield, hscaled⟩ := airDecide_gap hserve (hready.choice hchoice) hnone hb hr hc hne
    ((hready.canBegin_iff d).mpr hcan)
  exact ⟨hplayed.carried (hready.overAlike d) hdecided (by rw [hready.queue]), hgap.carried hdecided (hready.queue d), y,
    hready.onAir hdecided hjoin hfield, hscaled⟩

end
end

theorem frameStart_fill {d : Desk} (hserve : s.air.serving = some d)
    (h : s.air.state = .prime ∧ ¬ canBegin s d
      ∨ s.air.state = .on ∧ (getQueue s d).current = none ∧ (getQueue s d).queue = []
      ∨ s.air.state = .on ∧ (getQueue s d).current = none ∧ ¬ canBegin s d ∧ (∃ b c,
        (getQueue s d).queue.head? = some b ∧ (getQueue s d).cursor = some c ∧ b.seq ≠ c)) :
    putsOnAir s t 0 d false (.all 0) ∧ t.air.identActive = false := by
  have hdecided := hready.decision hnothing hshown
  rw [← hready.canBegin_iff, ← hready.queue, ← hready.air] at h
  rw [← hready.air] at hserve
  obtain ⟨hfield, hactive⟩ := airDecide_fill hserve h
  exact ⟨hready.onAir hdecided hjoin hfield, by rw [hdecided.air]; exact hactive⟩

theorem frameStart_counts
    (h : s.air.state = .lead ∧ s.air.leadRun < s.setup.lead ∨ s.air.state = .tail ∧ s.air.tailRun < s.setup.tail) :
    putsOnAir s t 0 (s.air.serving.getD 0) false (.all 0)
    ∧ (t.air.identActive = true ↔ s.air.state = .lead ∧ s.air.purpose = some .tailIdent) := by
  have hdecided := hready.decision hnothing hshown
  rw [← hready.setup, ← hready.air] at h
  obtain ⟨hfield, hactive⟩ := airDecide_counts h
  rw [hdecided.air, ← hready.air]
  exact ⟨hready.onAir hdecided hjoin hfield, hactive⟩

end

/-- R118, R134: a clip cell in IDENT. -/
theorem frameStart_clipCell (hshown : AirShown (airDecide u) t) {x : Cell} (hident : s.air.state = .ident)
    (hx : s.pool.clip[s.ident.clipIndex]? = some x) :
    putsOnAir s t 2 (s.air.serving.getD 0) (decide (s.ident.clipIndex + 1 = s.pool.clip.length)) x
    ∧ t.air = { s.air with identActive := true } := by
  rw [← hready.air] at hident
  rw [← hready.clip, ← hready.pool] at hx ⊢
  rw [airDecide_ident hident hx] at hshown
  rw [← hready.air, hshown.air]
  exact ⟨hready.onAir hshown hjoin ((handsOver_decideField ..).from_frame rfl rfl rfl), rfl⟩

section
variable (hshown : AirShown (airFrame u) t)
include hshown

/-- R105. -/
theorem frameStart_start {d : Desk} (hstart : s.air.pendingStart = some d) (hnot : s.air.state ≠ .ident) :
    putsOnAir s t 0 d false (.all 0) ∧ t.ident.phase = .nothing ∧ t.ident.kind = none
    ∧ t.air = { s.air with
        state := .lead, purpose := some .desk, serving := some d, holdingEnded := false, voiceSent := false
        leadRun := 1, starveRun := 0, pendingStart := none, pendingIdent := none, identActive := false
        withdrawDue := false } := by
  rw [← hready.air] at hstart hnot ⊢
  obtain ⟨hfield, hphase, hkind, hair⟩ := airFrame_start_spec hstart hnot
  rw [hshown.ident, hshown.air]
  exact ⟨hready.onAir hshown hjoin hfield, hphase, hkind, hair⟩

/-- R106. -/
theorem frameStart_start_in_ident {d : Desk} {x : Cell} (hstart : s.air.pendingStart = some d)
    (hident : s.air.state = .ident) (hdue : s.air.withdrawDue = false) (hx : s.pool.clip[s.ident.clipIndex]? = some x) :
    t.air.state = .ident ∧ t.air.pendingStart = some d
    ∧ putsOnAir s t 2 (s.air.serving.getD 0) (decide (s.ident.clipIndex + 1 = s.pool.clip.length)) x := by
  have hframe : airFrame u = airDecide u :=
    airFrame_start_in_ident (by rw [hready.air]; exact hstart) (by rw [hready.air]; exact hdue)
      (by rw [hready.air]; exact hident)
  rw [hframe] at hshown
  obtain ⟨hfield, hair⟩ := frameStart_clipCell hready hjoin hshown hident hx
  rw [hair]
  exact ⟨hident, hstart, hfield⟩

section
variable (hstart : s.air.pendingStart = none) (hdue : s.air.withdrawDue = false)
  (hsync : s.sync.state = .locked ∨ s.sync.state = .timing)
include hstart hdue hsync

/-- R117. -/
theorem frameStart_interval {x : Cell} (hident : s.air.pendingIdent = some .interval)
    (hstate : s.air.state = .on ∨ s.air.state = .tail) (hclamp : s.bus.sampNow.clampl = false)
    (hx : s.pool.clip[0]? = some x) :
    putsOnAir s t 2 (s.air.serving.getD 0) (decide (s.pool.clip.length = 1)) x ∧ t.pool = s.pool
    ∧ t.air = { s.air with state := .ident, pendingIdent := none, identActive := true }
    ∧ t.ident.phase = .playing ∧ t.ident.kind = some .interval ∧ t.ident.clipIndex = 1 := by
  have hclip : s.pool.clip ≠ [] := by rintro hnil; rw [hnil] at hx; cases hx
  have hconds : intervalConds u = true := (intervalConds_iff u).mpr
    ⟨by rw [hready.air]; exact hstate, (hready.orders hsync hjoin).mpr ⟨hclamp, hclip⟩⟩
  have hlast : decide (s.pool.clip.length = 1) = decide (0 + 1 = u.pool.clip.length) := by
    rw [hready.pool]
    simp [eq_comm]
  rw [← hready.pool] at hx
  rw [airFrame_interval (by rw [hready.air]; exact hstart) (by rw [hready.air]; exact hdue)
    (by rw [hready.air]; exact hident), takeInterval_begins hconds hx] at hshown
  rw [hlast, ← hready.air, ← hready.pool, hshown.air, hshown.pool, hshown.ident]
  exact ⟨hready.onAir hshown hjoin ((handsOver_decideField ..).from_frame rfl rfl rfl), rfl, rfl, rfl, rfl, rfl⟩

/-- R117, R129. -/
theorem frameStart_interval_dropped (hident : s.air.pendingIdent = some .interval)
    (hstate : s.air.state = .off ∨ s.air.state = .prime
      ∨ (s.air.state = .on ∨ s.air.state = .tail) ∧ (s.bus.sampNow.clampl = true ∨ s.pool.clip = [])) :
    t.air.pendingIdent = none ∧ t.air.state ≠ .ident ∧ t.ident.phase = .nothing ∧ t.ident.kind = none := by
  have hconds : ¬ intervalConds u = true := by
    rw [intervalConds_iff, hready.orders hsync hjoin, hready.air]
    rintro ⟨hon, hclamp, hclip⟩
    rcases hstate with hoff | hprime | ⟨-, hfails | hfails⟩
    · simp [hoff] at hon
    · simp [hprime] at hon
    · simp [hclamp] at hfails
    · exact hclip hfails
  have hnot : u.air.state ≠ .ident ∧ u.air.state ≠ .lead := by
    rw [hready.air]
    rcases hstate with h | h | ⟨h | h, -⟩ <;> simp [h]
  obtain ⟨⟨hpending, hout⟩, hphase, hkind⟩ := takeInterval_drops hconds hnot.1 hnot.2
  rw [airFrame_interval (by rw [hready.air]; exact hstart) (by rw [hready.air]; exact hdue)
    (by rw [hready.air]; exact hident)] at hshown
  rw [hshown.air, hshown.ident]
  exact ⟨hpending, hout, hphase, hkind⟩

/-- R119, R129. -/
theorem frameStart_tailIdent (hident : s.air.pendingIdent = some .tail) (hoff : s.air.state = .off) :
    (s.bus.sampNow.clampl = false → s.pool.clip ≠ [] → putsOnAir s t 0 0 false (.all 0)
      ∧ t.air = { s.air with
        state := .lead, purpose := some .tailIdent, serving := none, holdingEnded := false, leadRun := 1
        pendingIdent := none, identActive := true }
      ∧ t.ident.phase = .lead ∧ t.ident.kind = some .tail)
    ∧ (s.bus.sampNow.clampl = true ∨ s.pool.clip = [] → offAir t ∧ t.air.pendingIdent = none
      ∧ t.ident.phase = .nothing ∧ t.ident.kind = none) := by
  have hconds : tailConds u = true ↔ s.bus.sampNow.clampl = false ∧ s.pool.clip ≠ [] := by
    rw [tailConds_iff, hready.air, hready.orders hsync hjoin, and_iff_right hoff,
      and_iff_right hstart]
  rw [airFrame_tailIdent (by rw [hready.air]; exact hstart) (by rw [hready.air]; exact hdue)
    (by rw [hready.air]; exact hident)] at hshown
  refine ⟨fun hclamp hclip => ?_, fun hfails => ?_⟩
  · obtain ⟨hfield, hair, hphase, hkind⟩ := takeTailIdent_begins (hconds.mpr ⟨hclamp, hclip⟩)
    rw [← hready.air, hshown.ident, hshown.air]
    exact ⟨hready.onAir hshown hjoin hfield, hair, hphase, hkind⟩
  · have hnot : ¬ tailConds u = true := by
      rw [hconds]
      rintro ⟨hclamp, hclip⟩
      rcases hfails with hfails | hfails
      · simp [hclamp] at hfails
      · exact hclip hfails
    rw [takeTailIdent_drops hnot (by rw [hready.air]; exact hoff)] at hshown
    rw [offAir, hshown.air, hshown.ident, hshown.keyl, hshown.drive]
    exact ⟨⟨by rw [← hready.air] at hoff; exact hoff, rfl, rfl⟩, rfl, rfl, rfl⟩

end
end
end

/-- Settles O32: by `frameStart_air` the frame start is the air sequencer's work, and each clause is the part of that work that
its hypotheses choose. -/
theorem frameStartPutsOnAir : Obligations.FrameStartPutsOnAir := by
  intro s b hruns hsync hjoin
  obtain ⟨u, t, hready, hshown, hexec⟩ := frameStart_air hruns hsync b
  refine ⟨t, hexec, fun hnothing => ⟨fun d hserve hchoice => ⟨?_, fun b x rest hnone hb hr => ⟨?_, ?_⟩⟩, ?_, ?_, ?_, ?_⟩,
    fun d hstart => ⟨?_, ?_⟩, fun hstart hdue hident => ⟨?_, ?_⟩, ?_, ?_⟩
  · intro c x rest hc hr
    exact frameStart_current hready hjoin hnothing hshown hserve hchoice hc hr
  · exact frameStart_head hready hjoin hnothing hshown hserve hchoice hnone hb hr
  · intro c hc hne hcan
    exact frameStart_gap hready hjoin hnothing hshown hserve hchoice hnone hb hr hc hne hcan
  · intro x hident hx
    obtain ⟨hfield, hair⟩ := frameStart_clipCell hready hjoin (hready.decision hnothing hshown) hident hx
    exact ⟨by rw [hair], hfield⟩
  · exact frameStart_counts hready hjoin hnothing hshown
  · intro d hserve
    exact frameStart_fill hready hjoin hnothing hshown hserve
  · exact frameStart_off hready hnothing hshown
  · exact frameStart_start hready hjoin hshown hstart
  · intro x hident hdue hx
    exact frameStart_start_in_ident hready hjoin hshown hstart hident hdue hx
  · intro x hstate hclamp hx
    exact frameStart_interval hready hjoin hshown hstart hdue hsync hident hstate hclamp hx
  · exact frameStart_interval_dropped hready hjoin hshown hstart hdue hsync hident
  · intro hstart hdue hident hoff
    exact frameStart_tailIdent hready hjoin hshown hstart hdue hsync hident hoff
  · exact frameStart_withdrawal hready hshown

end Sys2Proof

namespace Sys2Proof
open Machine

/-! ## The reports of the link (R121, R156, R179 to R182) -/

/-! ### The lengths of encodings (R179) -/

@[simp] theorem length_numBytes (n x : Nat) : (numBytes n x).length = n := by
  induction n with
  | zero => rfl
  | succ n ih => rw [numBytes, List.length_cons, ih]

@[simp] theorem length_byteOf (n : Nat) : (byteOf n).length = 1 := length_numBytes 1 n

@[simp] theorem length_markByte (b : Bool) : (markByte b).length = 1 := rfl

@[simp] theorem length_ones (n : Nat) : (ones n).length = n := List.length_replicate

@[simp] theorem length_orOnes (n : Nat) (x : Option Nat) : (orOnes n x).length = n := by
  cases x with
  | none => exact length_ones n
  | some v => exact length_numBytes n v

@[simp] theorem length_orAbsent (n : Nat) (x : Option Nat) : (orAbsent n x).length = n + 1 := by
  cases x with
  | none => exact congrArg (· + 1) (length_ones n)
  | some v => exact congrArg (· + 1) (length_numBytes n v)

@[simp] theorem length_wordBytes {w : Nat} (x : BitVec w) : (wordBytes x).length = 2 := rfl

@[simp] theorem length_bytes16 (x : Word16) : (bytes16 x).length = 2 := rfl

@[simp] theorem length_deskBytes (k : Station) (d : Desk) : (deskBytes k d).length = 2 := rfl

/-- A list of reports of one length. -/
theorem length_flatMap_const {α : Type} {f : α → List Byte} {n : Nat} (hf : ∀ x, (f x).length = n) (xs : List α) :
    (xs.flatMap f).length = xs.length * n := by
  simp [List.length_flatMap, hf]

/-! ### DESK_STATUS (R62, R100, R121, R180) -/

@[simp] theorem length_recordReport (r : Record) : (recordReport r).length = 6 := by simp [recordReport]

@[simp] theorem length_deskClaimReport (s : State) (d : Desk) : (deskClaimReport s d).length = 21 := by
  simp [deskClaimReport]

@[simp] theorem length_deskAirReport (s : State) (d : Desk) : (deskAirReport s d).length = 2 := by
  unfold deskAirReport
  split <;> rfl

@[simp] theorem length_blockReport (x : Option (Seq × Nat)) : (blockReport x).length = 4 := by
  cases x <;> rfl

@[simp] theorem length_deskPoolReport (s : State) (d : Desk) : (deskPoolReport s d).length = 30 := by
  simp [deskPoolReport]

theorem length_deskStatusBody (s : State) (d : Desk) : (deskStatusBody s d).length = 57 := by simp [deskStatusBody]

/-- R121: a desk that is served reports the sequencer's state; any other reads OFF. -/
theorem deskAirReport_unserved {s : State} {d : Desk} (h : s.air.serving ≠ some d) :
    deskAirReport s d = [0, if reportsFreeMark s d && Config.freeVoiceMark s.freeIx then 1 else 0] := by
  have hnot : ¬ serves s d = true := by simpa [serves] using h
  rw [deskAirReport, if_neg hnot]
  rfl

/-- Log 18: the voice sent mark is free after the close, of a desk that is not served. -/
theorem reportsFreeMark_iff (s : State) (d : Desk) :
    reportsFreeMark s d = true ↔ s.setup.closed = true ∧ s.air.serving ≠ some d := by
  simp [reportsFreeMark, serves]

/-! ### SITE_STATUS (R181, Table 10-6) -/

theorem length_setupReport (s : State) : (setupReport s).length = 7 := by simp [setupReport]

theorem length_syncReport (s : State) : (syncReport s).length = 10 := by simp [syncReport]

theorem length_joinReport (s : State) : (joinReport s).length = 4 := by simp [joinReport]

theorem length_presenceReport (s : State) (k : Station) : (presenceReport s k).length = 5 := by
  unfold presenceReport
  dsimp only
  split <;> simp

theorem length_headerReport (s : State) (k : Station) : (headerReport s k).length = 11 := by
  unfold headerReport
  split <;> simp

theorem length_programReport (s : State) : (programReport s).length = 3 := by simp [programReport]

theorem length_clampReport (s : State) : (clampReport s).length = 8 := by simp [clampReport]

theorem length_airReport (s : State) : (airReport s).length = 10 := by simp [airReport]

theorem length_identReport (s : State) : (identReport s).length = 21 := by simp [identReport]

theorem length_poolReport (s : State) : (poolReport s).length = 6 := by simp [poolReport]

theorem length_historyReport (s : State) : (historyReport s).length = 3 := by simp [historyReport]

theorem length_flagReport (s : State) : (flagReport s).length = 12 := by
  rw [flagReport, List.length_append, length_flatMap_const (fun d => length_wordBytes (s.link.deskMasks.get d))]
  rfl

theorem length_siteStatusBody (s : State) : (siteStatusBody s).length = 212 := by
  simp only [siteStatusBody, List.length_append, length_setupReport, length_syncReport, length_joinReport,
    length_flatMap_const (length_presenceReport s), length_flatMap_const (length_headerReport s), length_programReport,
    length_clampReport, length_airReport, length_identReport, length_poolReport, length_historyReport, length_flagReport]
  rfl

/-! ### FLOOR_VIEW, HISTORY, GUARD_READ (R156, R182) -/

theorem length_seatReport (now : Count) (x : Seat) : (seatReport now x).length = 6 := by simp [seatReport]

theorem length_insertSeat (now : Count) (x : Seat) (ys : List Seat) : (insertSeat now x ys).length = ys.length + 1 := by
  induction ys with
  | nil => rfl
  | cons y ys ih =>
    unfold insertSeat
    split
    · rfl
    · rw [List.length_cons, ih, List.length_cons]

theorem length_floorSort (now : Count) (xs : List Seat) : (floorSort now xs).length = xs.length := by
  induction xs with
  | nil => rfl
  | cons x xs ih => rw [floorSort, List.foldr_cons, length_insertSeat, List.length_cons, ← ih, floorSort]

/-- A site has 32 desks, so no more of them wait. -/
theorem length_snapWaiting_le (s : State) : (snapWaiting s).length ≤ 32 := by
  have hseats : (seats s.claims.snap.recs).length = 32 := by
    rw [seats_eq, List.length_map]
    rfl
  rw [snapWaiting, waitingList, inState, length_floorSort, ← hseats]
  exact List.length_filter_le _ _

theorem length_floorViewBody_le (s : State) : (floorViewBody s).length ≤ 212 := by
  have hwaiting := length_snapWaiting_le s
  simp only [floorViewBody, List.length_append, length_flatMap_const (length_seatReport s.claims.snap.count), length_byteOf,
    length_bytes16, List.length_singleton]
  split
  all_goals
    split
    all_goals
      simp only [length_seatReport, length_ones, length_deskBytes]
      omega

theorem length_historyBody (s : State) : (historyBody s).length = 3 + s.history.ring.length * 10 := by
  have hentry (e : HistoryEntry) : (entryReport e).length = 10 := by simp [entryReport]
  simp only [historyBody, List.length_append, length_bytes16, length_byteOf, length_flatMap_const hentry]

theorem length_guardBody (s : State) : (guardBody s).length = 24 := by
  unfold guardBody
  simp only [List.length_append, length_markByte, length_byteOf, length_numBytes, length_orAbsent,
    List.length_cons, List.length_nil]

/-! ### The requests -/

/-- R179 to R182: a report answers OK with its body. -/
theorem exec_report {i : Instr} {s : State} {w : Bool} {body : State → List Byte} (hup : linkUp s = true)
    (hi : exec i s = .next (takeRequest w 0 (report body) s)) : exec i s = .next (replied w s s 0 .ok (body s)) := by
  rw [hi, takeRequest_up hup]
  rfl

theorem exec_deskStatus {s : State} {d : Desk} {sel : Byte} (hup : linkUp s = true) (hsel : sel.toNat = d.val) (w : Bool) :
    exec (.deskStatus sel w) s = .next (replied w s
      (if reportsFreeMark s d then s.setFreeIx (s.freeIx + 1) else s) 0 .ok (deskStatusBody s d)) := by
  have hexec : exec (.deskStatus sel w) s = .next (takeRequest w 0 (forDesk sel deskStatusRequest) s) := rfl
  rw [hexec, takeRequest_up hup, forDesk_of hsel]
  rfl

/-- Settles O23: `exec_report` and `exec_deskStatus` say what each report leaves, and the length of each body is the sum of the
lengths of its parts. -/
theorem reportsChangeNothing : Obligations.ReportsChangeNothing := by
  intro s d sel w hup hsel
  have hdesk := exec_deskStatus hup hsel w
  refine ⟨exec_report hup rfl, exec_report hup rfl, ?_, exec_report hup rfl, fun h => ?_, fun h hclosed => ?_, fun h => ?_,
    ?_, ?_, ?_, ?_, fun hring => ?_⟩
  · exact exec_report (body := historyBody) hup rfl
  · have hmark : ¬ reportsFreeMark s d = true := by
      rw [reportsFreeMark_iff]
      rintro ⟨hclosed, hnot⟩
      rcases h with h | h
      · exact hnot h
      · rw [h] at hclosed
        cases hclosed
    rw [hdesk, if_neg hmark]
  · rw [hdesk, if_pos ((reportsFreeMark_iff s d).mpr ⟨hclosed, h⟩)]
    rfl
  · refine ⟨if reportsFreeMark s d && Config.freeVoiceMark s.freeIx then 1 else 0, fun hopen => ?_, ?_⟩
    · simp [reportsFreeMark, hopen]
    · rw [deskStatusBody, deskAirReport_unserved h]
  · rw [length_deskStatusBody]
    decide
  · rw [length_siteStatusBody]
    decide
  · exact (length_floorViewBody_le s).trans (by decide)
  · rw [length_guardBody]
    decide
  · rw [ringLaw] at hring
    rw [length_historyBody]
    omega

end Sys2Proof

namespace Sys2Proof
open Machine

/-! ## The identification unit (R124 to R133) -/

/-! ### The field that completes the interval, and the due age (R124 to R126) -/

/-- R124: s with the identification fallen due, a due period begun. -/
def fallenDue (s : State) : State := s.setIdent { s.ident with a := s.ident.a + 1, due := true, dueAge := 0 }

theorem countVoice_completes {s : State} (hdue : s.ident.due = false) (ha : s.ident.a + 1 = interval s)
    (hlt : s.ident.a < 16777215) : countVoice s = fallenDue s := by
  have hcount : capAdd s.ident.a 1 16777215 = s.ident.a + 1 := Nat.min_eq_left hlt
  have hfalls : interval s ≤ capAdd s.ident.a 1 16777215 ∧ s.ident.due = false := ⟨by rw [hcount, ha], hdue⟩
  unfold countVoice
  dsimp only
  rw [if_pos hfalls, hcount]
  rfl

/-- R124, R126: the row of the due identification; the station of the field's holder acts. -/
theorem exec_idDue {s : State} (hp : pointsRun s = true) (hm : s.member.join = .member)
    (hdue : s.ident.due = false) (ha : s.ident.a + 1 = interval s) (hlt : s.ident.a < 16777215) (k : Station) :
    exec (.idDue k) s = .next (if k = s.setup.station then actOnDue (fallenDue s) else fallenDue s) := by
  have hruns : dueReaches s = true := by simp [dueReaches, hp, hm, hdue, ha]
  have hholder : (fallenDue s).ident.due = true ∧ (BitVec.ofNat 3 k.val).toNat = (ownStation s).val
      ↔ k = s.setup.station := by
    simp [fallenDue, ownStation, Fin.ext_iff]
  rw [exec_of_runs (i := .idDue k) rfl hruns, voiceReceived, if_pos hm, countVoice_completes hdue ha hlt]
  simp only [hholder]

theorem actOnDue_of_phase {s : State} (h : s.ident.phase ≠ .nothing) : actOnDue s = s := if_pos h

/-- R126: without a clip the holder's station ends the holding on the air. -/
theorem actOnDue_without_clip {s : State} {d : Desk} (hphase : s.ident.phase = .nothing) (hclip : s.pool.clip = [])
    (hon : s.air.state = .on) (hserve : s.air.serving = some d) (hended : s.air.holdingEnded = false) :
    actOnDue s = endHolding d .noIdent s := by
  simp [actOnDue, clipCells, hphase, hclip, hon, hserve, hended]

/-- R126: with a clip the holder's station orders the interval identification. -/
theorem actOnDue_with_clip {s : State} (hphase : s.ident.phase = .nothing) (hclip : s.pool.clip ≠ [])
    (hair : s.air.state = .on ∨ s.air.state = .tail) : actOnDue s = orderInterval s := by
  simp [actOnDue, clipCells, hphase, hclip, hair]

/-- R117, R127: an interval order that is taken. -/
theorem orderInterval_taken {s : State} (hpending : s.air.pendingIdent = none) (hphase : s.ident.phase = .nothing)
    (hconds : intervalConds s = true) : orderInterval s =
      (s.setAir { s.air with pendingIdent := some .interval }).setIdent
        { s.ident with phase := .ordered, kind := some .interval } := by
  simp [orderInterval, hpending, hphase, hconds]

/-- R125: the due age reaches its limit for the first time in the due period. -/
theorem dueStep_overdue {s : State} (hdue : s.ident.due = true) (hover : s.ident.overdue = false)
    (hage : s.ident.dueAge = 99) :
    dueStep s = raiseSite .idOverdue (s.setIdent { s.ident with dueAge := 100, overdue := true }) := by
  simp [dueStep, hdue, hover, hage, capAdd, Config.overdueAge]

/-! ### The tail-wait run (R128) -/

theorem hasHolding_iff (r : Records) : hasHolding r = true ↔ ∃ k d, holdsFloor r k d := by
  have hrows : r.toList = allStations.map r.get := rfl
  simp only [hasHolding, hrows, List.any_map, List.any_eq_true, Function.comp_apply, mem_allStations, mem_allDesks,
    true_and, beq_iff_eq, holdsFloor]

theorem tailWaitCounts_iff (s : State) : tailWaitCounts s = true ↔
    memberActive s = true ∧ joinedStale s = false ∧ s.ident.a ≠ 0 ∧ (∀ k d, ¬ holdsFloor s.claims.snap.recs k d)
    ∧ identOnBus s = false ∧ s.bus.sampNow.keyl = false := by
  have hfree : hasHolding s.claims.snap.recs = false ↔ ∀ k d, ¬ holdsFloor s.claims.snap.recs k d := by
    rw [← Bool.not_eq_true, hasHolding_iff]
    push Not
    rfl
  simp [tailWaitCounts, hfree, and_assoc]

/-- R128: the tail-wait run after a snapshot complete, by the first line whose condition holds. -/
def tailWaitNext (s : State) : Nat :=
  if memberActive s = false then 0
  else if joinedStale s = true then s.ident.tailWait
  else if tailWaitCounts s = true then min (s.ident.tailWait + 1) s.setup.tailWait
  else 0

/-- s with the tail-wait run of the frame counted. -/
def waitCounted (s : State) : State := s.setIdent { s.ident with tailWait := tailWaitNext s }

theorem tailWaitStep_eq (s : State) : tailWaitStep s = waitCounted s := by
  unfold tailWaitStep waitCounted tailWaitNext
  cases memberActive s <;> cases joinedStale s <;> cases tailWaitCounts s <;> rfl

/-! ### The choice of the identifying station (R131) -/

/-- The search over the stations finds the lowest. -/
theorem find_allStations (p : Station → Bool) (k : Station) :
    allStations.find? p = some k ↔ p k = true ∧ ∀ j, j < k → p j = false := by
  have hall : allStations = List.finRange 8 := rfl
  rw [hall, List.find?_eq_some_iff_getElem]
  simp only [List.getElem_finRange, Bool.not_eq_true']
  refine and_congr_right fun _ => ⟨?_, fun hleast => ?_⟩
  · rintro ⟨i, hi, rfl, hleast⟩ j hj
    exact hleast j.val hj
  · exact ⟨k.val, by simp, rfl, fun j hj => hleast _ hj⟩

theorem chooseStation_newest {s : State} {e : HistoryEntry} (hhead : s.history.ring.head? = some e)
    (h : qualifies s e.station = true) : chooseStation s = some e.station := by
  simp only [chooseStation, hhead, h, if_true]

/-- R131: where the newest entry's station does not qualify, or there is no entry, the lowest that qualifies is chosen. -/
theorem chooseStation_lowest {s : State} (h : ∀ e, s.history.ring.head? = some e → qualifies s e.station = false) :
    chooseStation s = allStations.find? (qualifies s) := by
  unfold chooseStation
  split
  next e hhead => rw [if_neg (by rw [h e hhead]; exact Bool.false_ne_true)]
  next => rfl

/-! ### The tail order (R119, R132) -/

/-- R131, R132: s with the choice of the identifying station stored. -/
def stationChosen (s : State) : State := s.setIdent { s.ident with choice := chooseStation s }

theorem tailConsidered_iff (s : State) : tailConsidered s = true ↔ s.ident.tailWait = s.setup.tailWait
    ∧ joinedStale s = false ∧ s.ident.phase = .nothing ∧ s.clamp.settleRun = 10 := by
  simp [tailConsidered, notClamped, Config.settleSamples, and_assoc]

theorem considerTail_considered {s : State} (h : tailConsidered s = true) : considerTail s =
    if chooseStation s = some s.setup.station then orderTail (stationChosen s) else stationChosen s := if_pos h

theorem considerTail_of_not {s : State} (h : tailConsidered s = false) : considerTail s = s :=
  if_neg (by rw [h]; exact Bool.false_ne_true)

/-- R119, R127: a tail order that is taken. -/
theorem orderTail_taken {s : State} (hpending : s.air.pendingIdent = none) (hphase : s.ident.phase = .nothing)
    (hconds : tailConds s = true) : orderTail s =
      (s.setAir { s.air with pendingIdent := some .tail }).setIdent
        { s.ident with phase := .ordered, kind := some .tail } := by
  simp [orderTail, hpending, hphase, hconds]

theorem orderTail_ident (s : State) : (orderTail s).ident = { s.ident with
    phase := (orderTail s).ident.phase, kind := (orderTail s).ident.kind } := by
  unfold orderTail
  split <;> rfl

theorem considerTail_ident (s : State) : (considerTail s).ident = { s.ident with
    choice := (considerTail s).ident.choice
    phase := (considerTail s).ident.phase
    kind := (considerTail s).ident.kind } := by
  cases h : tailConsidered s with
  | false => rw [considerTail_of_not h]
  | true =>
    rw [considerTail_considered h]
    split
    · rw [orderTail_ident]; rfl
    · rfl

theorem considerTail_choice {s : State} (h : tailConsidered s = true) :
    (considerTail s).ident.choice = chooseStation s := by
  rw [considerTail_considered h]
  split
  · rw [orderTail_ident]; rfl
  · rfl

/-- R132: the chosen station itself orders its tail identification. -/
theorem considerTail_orders {s : State} (h : tailConsidered s = true) (hown : chooseStation s = some s.setup.station)
    (hpending : s.air.pendingIdent = none) (hconds : tailConds s = true) :
    (considerTail s).ident.phase = .ordered ∧ (considerTail s).ident.kind = some .tail
      ∧ (considerTail s).air.pendingIdent = some .tail := by
  obtain ⟨-, -, hphase, -⟩ := (tailConsidered_iff s).mp h
  rw [considerTail_considered h, if_pos hown, orderTail_taken (s := stationChosen s) hpending hphase hconds]
  exact ⟨rfl, rfl, rfl⟩

theorem considerTail_other {s : State} (h : tailConsidered s = true)
    (hother : chooseStation s ≠ some s.setup.station) : considerTail s = stationChosen s := by
  rw [considerTail_considered h, if_neg hother]

/-! ### The withdrawal (R133) -/

theorem freshHeader_eq_some_iff (s : State) (k : Station) (h : Header) : freshHeader s k = some h ↔
    k ≠ s.setup.station ∧ s.bus.judge.get k = .fresh ∧ s.bus.headers.get k = some h := by
  rw [freshHeader, ← and_assoc, ← judgedFresh_iff]
  split <;> simp_all

theorem lowerIdentifies_iff (s : State) : lowerIdentifies s = true ↔ lowerStationIdentifies s := by
  simp only [lowerIdentifies, List.any_eq_true, mem_allStations, true_and, Bool.and_eq_true, decide_eq_true_iff,
    lowerStationIdentifies]
  refine exists_congr fun k => ?_
  constructor
  · rintro ⟨hlt, hident⟩
    split at hident
    next h hfresh =>
      obtain ⟨-, hjudge, hheader⟩ := (freshHeader_eq_some_iff s k h).mp hfresh
      rw [Bool.and_eq_true, beq_iff_eq] at hident
      exact ⟨h, hlt, hjudge, hheader, hident.1, hident.2⟩
    next => cases hident
  · rintro ⟨h, hlt, hjudge, hheader, hjoin, hflag⟩
    refine ⟨hlt, ?_⟩
    rw [(freshHeader_eq_some_iff s k h).mpr ⟨hlt.ne, hjudge, hheader⟩]
    exact Bool.and_eq_true_iff.mpr ⟨beq_iff_eq.mpr hjoin, hflag⟩
theorem withdrawTail_of_not {s : State}
    (h : s.ident.phase = .playing ∨ s.ident.kind ≠ some .tail ∨ lowerIdentifies s = false) : withdrawTail s = s := by
  unfold withdrawTail
  split
  next hw =>
    rcases h with h | h | h
    · rw [h]
    · exact absurd hw.1 h
    · rw [h] at hw; cases hw.2
  next => rfl

theorem withdrawTail_ordered {s : State} (hphase : s.ident.phase = .ordered) (hkind : s.ident.kind = some .tail)
    (hlower : lowerIdentifies s = true) : withdrawTail s = endIdent (s.setAir { s.air with pendingIdent := none }) := by
  simp [withdrawTail, hphase, hkind, hlower]

theorem withdrawTail_lead {s : State} (hphase : s.ident.phase = .lead) (hkind : s.ident.kind = some .tail)
    (hlower : lowerIdentifies s = true) : withdrawTail s = endIdent (s.setAir { s.air with withdrawDue := true }) := by
  simp [withdrawTail, hphase, hkind, hlower]

theorem withdrawTail_ident (s : State) : (withdrawTail s).ident = { s.ident with
    phase := (withdrawTail s).ident.phase
    kind := (withdrawTail s).ident.kind
    clipIndex := (withdrawTail s).ident.clipIndex } := by
  unfold withdrawTail
  split
  · split <;> rfl
  · rfl

end Sys2Proof

namespace Sys2Proof
open Machine

/-! ### What the unit reads, and what the rest of a snapshot complete keeps for it -/

/-- What the identification unit reads of the site, but for the snapshot and the history, is the same in s and t. -/
structure SiteAlike (s t : State) : Prop where
  setup : t.setup = s.setup
  sync : t.sync = s.sync
  member : t.member = s.member
  pool : t.pool = s.pool
  judge : t.bus.judge = s.bus.judge
  headers : t.bus.headers = s.bus.headers
  ownSlot : t.bus.ownSlot = s.bus.ownSlot
  sampNow : t.bus.sampNow = s.bus.sampNow

section
variable {s t : State} (h : SiteAlike s t)
include h

theorem SiteAlike.ownStation_eq : ownStation t = ownStation s := congrArg Setup.station h.setup

theorem SiteAlike.clipCells_eq : clipCells t = clipCells s := congrArg (fun p => p.clip.length) h.pool

theorem SiteAlike.judgedFresh_eq (k : Station) : judgedFresh t k = judgedFresh s k := by
  simp only [judgedFresh, h.ownStation_eq, h.judge]

theorem SiteAlike.freshHeader_eq (k : Station) : freshHeader t k = freshHeader s k := by
  simp only [freshHeader, h.judgedFresh_eq, h.headers]

theorem SiteAlike.joined_eq (k : Station) : joined t k = joined s k := by
  simp only [joined, h.ownStation_eq, h.member]

theorem SiteAlike.memberActive_eq : memberActive t = memberActive s := by
  simp only [memberActive, syncActive, h.sync, h.member]

theorem SiteAlike.joinedStale_eq : joinedStale t = joinedStale s := by
  simp only [joinedStale, h.joined_eq, h.judgedFresh_eq]

theorem SiteAlike.identOnBus_eq : identOnBus t = identOnBus s := by
  simp only [identOnBus, h.freshHeader_eq, h.ownSlot]

theorem SiteAlike.lowerIdentifies_eq : lowerIdentifies t = lowerIdentifies s := by
  simp only [lowerIdentifies, h.freshHeader_eq, h.ownStation_eq]

theorem SiteAlike.orderConds_eq : orderConds t = orderConds s := by
  simp only [orderConds, h.memberActive_eq, h.sampNow, h.clipCells_eq]

/-- R131: the choice is read from the site and the history. -/
theorem SiteAlike.chooseStation_eq (hhistory : t.history = s.history) : chooseStation t = chooseStation s := by
  have hqualifies : qualifies t = qualifies s := by
    funext k
    simp only [qualifies, h.freshHeader_eq, h.joined_eq, h.ownStation_eq, h.member, h.clipCells_eq]
  simp only [chooseStation, hqualifies, hhistory]

end

/-- R105, R115: endings and grants leave the identification that is pending and the withdrawal due, and a sequencer in OFF
stays there. -/
structure IdentPendingKept (a b : Air) : Prop where
  pendingIdent : b.pendingIdent = a.pendingIdent
  withdrawDue : b.withdrawDue = a.withdrawDue
  off : a.state = .off → b.state = .off

theorem IdentPendingKept.of_eq {a b : Air} (h : b = a) : IdentPendingKept a b := by
  subst h
  exact ⟨rfl, rfl, id⟩

theorem IdentPendingKept.trans {a b c : Air} (h : IdentPendingKept a b) (k : IdentPendingKept b c) :
    IdentPendingKept a c :=
  ⟨k.pendingIdent.trans h.pendingIdent, k.withdrawDue.trans h.withdrawDue, k.off ∘ h.off⟩

theorem identPendingKept_endHolding (d : Desk) (r : EndReason) (s : State) :
    IdentPendingKept s.air (endHolding d r s).air := by
  refine ⟨by rw [endHolding_air], by rw [endHolding_air], fun hoff => ?_⟩
  by_cases hhold : hasState s d .holding
  · obtain ⟨-, -, -, -, hother⟩ := endHolding_spec hhold r
    rw [hother.2 (.inr (.inl hoff)), hoff]
  · rwa [endHolding_of_not hhold]

/-- A fold over the desks of steps that keep what is pending. -/
theorem identPendingKept_foldl (f : Desk → State → State) (hf : ∀ d t, IdentPendingKept t.air (f d t).air)
    (s : State) : IdentPendingKept s.air (allDesks.foldl (fun s d => f d s) s).air :=
  fold_preserves (P := fun t => IdentPendingKept s.air t.air) f (fun d _ ht => ht.trans (hf d _)) (.of_eq rfl)

theorem identPendingKept_ite {s t : State} (c : Prop) [Decidable c] (h : IdentPendingKept s.air t.air) :
    IdentPendingKept s.air (if c then t else s).air := by
  split
  · exact h
  · exact .of_eq rfl

theorem identPendingKept_endReplaced (formed kept : Records) (s : State) :
    IdentPendingKept s.air (endReplaced formed kept s).air :=
  identPendingKept_foldl (fun d s => if replacedAt formed kept (ownStation s) d then endHolding d .split s else s)
    (fun d t => identPendingKept_ite _ (identPendingKept_endHolding d _ t)) s

theorem identPendingKept_applyTimeLimit (s : State) : IdentPendingKept s.air (applyTimeLimit s).air :=
  identPendingKept_foldl
    (fun d s => if ageAtLeast (deskAge s (getDesk s d)) s.setup.totLimit then endHolding d .timeout s else s)
    (fun d t => identPendingKept_ite _ (identPendingKept_endHolding d _ t)) s

theorem identPendingKept_releaseSplit (s : State) : IdentPendingKept s.air (releaseSplit s).air :=
  identPendingKept_ite _ (identPendingKept_foldl (fun d s => endHolding d .split s)
    (fun d t => identPendingKept_endHolding d _ t) s)

theorem identPendingKept_preempt (s : State) : IdentPendingKept s.air (preempt s).air := by
  unfold preempt
  split
  · exact identPendingKept_endHolding _ _ s
  · exact .of_eq rfl

theorem identPendingKept_grantStep (s : State) : IdentPendingKept s.air (grantStep s).air := by
  unfold grantStep grantDesk
  split
  · exact identPendingKept_ite _ (identPendingKept_ite _ ⟨rfl, rfl, id⟩)
  · exact .of_eq rfl

theorem identPendingKept_floorDecisions (fenceNow : Bool) (s : State) :
    IdentPendingKept s.air (floorDecisions fenceNow s).air := by
  have hlimit : IdentPendingKept s.air (enforceTot fenceNow (applyTimeLimit (setVerdict s))).air := by
    simpa using identPendingKept_applyTimeLimit (setVerdict s)
  exact hlimit.trans ((identPendingKept_releaseSplit _).trans ((identPendingKept_preempt _).trans
    (identPendingKept_grantStep _)))

/-- From s to t the site as the unit reads it, the unit itself and what is pending for it stand. -/
structure IdentSpared (s t : State) : Prop extends SiteAlike s t where
  ident : t.ident = s.ident
  air : IdentPendingKept s.air t.air

theorem IdentSpared.trans {s t u : State} (h : IdentSpared s t) (k : IdentSpared t u) : IdentSpared s u where
  setup := k.setup.trans h.setup
  sync := k.sync.trans h.sync
  member := k.member.trans h.member
  pool := k.pool.trans h.pool
  judge := k.judge.trans h.judge
  headers := k.headers.trans h.headers
  ownSlot := k.ownSlot.trans h.ownSlot
  sampNow := k.sampNow.trans h.sampNow
  ident := k.ident.trans h.ident
  air := h.air.trans k.air

theorem identSpared_floorDecisions (fenceNow : Bool) (s : State) : IdentSpared s (floorDecisions fenceNow s) := by
  exact ⟨by constructor <;> simp, by simp, identPendingKept_floorDecisions fenceNow s⟩

theorem identSpared_orphanStep (s : State) : IdentSpared s (orphanStep s) := by
  exact ⟨by constructor <;> simp, by simp, .of_eq (by simp)⟩

theorem identSpared_expireWaits (s : State) : IdentSpared s (expireWaits s) := by
  exact ⟨by constructor <;> simp, by simp, .of_eq (by simp)⟩

theorem identSpared_digestedState (s : State) : IdentSpared s (digestedState s) := by
  have hair : IdentPendingKept s.air (digestedState s).air := by
    have hformed := identPendingKept_endReplaced (formedRecords s) (keptRecords s)
      ((testedState s).setClaims (formedClaims s))
    rw [← formedState_eq] at hformed
    simpa [digestedState, testedState] using hformed
  have hbus : (putFenceRun (fenceRunNext s) s).bus = { s.bus with fenceRun := fenceRunNext s } := rfl
  exact ⟨by constructor <;> simp [digestedState, formedState, testedState, hbus],
    by simp [digestedState, formedState, testedState], hair⟩

/-! ### The unit's place in a snapshot complete (R57, R65) -/

/-- The state that the identification unit works on at a snapshot complete. -/
def identStart (identFirst : Bool) (s : State) : State :=
  if identFirst then expireWaits (digestedState s) else floorDecisions false (expireWaits (digestedState s))

theorem identStart_identFirst (s : State) : identStart true s = expireWaits (digestedState s) := if_pos rfl

theorem identStart_identLast (s : State) : identStart false s = floorDecisions false (expireWaits (digestedState s)) :=
  if_neg Bool.false_ne_true

theorem identSpared_identStart (b : Bool) (s : State) : IdentSpared s (identStart b s) := by
  have hwaits := (identSpared_digestedState s).trans (identSpared_expireWaits _)
  unfold identStart
  split
  · exact hwaits
  · exact hwaits.trans (identSpared_floorDecisions false _)

/-- What follows the unit's work. -/
theorem identSpared_decided (b : Bool) (s : State) :
    IdentSpared (identWork (identStart b s)) (decidedState b (digestedState s)) := by
  cases b with
  | false => rw [decided_identLast, identStart_identLast]; exact identSpared_orphanStep _
  | true =>
    rw [decided_identFirst, identStart_identFirst]
    exact (identSpared_floorDecisions false _).trans (identSpared_orphanStep _)

theorem snapshotStands_expireWaits (s : State) : SnapshotStands s (expireWaits s) :=
  (decisionsKeep_snapshotStands s).keeps_expireWaits ⟨rfl, rfl, fun _ h => h⟩

theorem snapshotStands_identStart (b : Bool) (s : State) : SnapshotStands (digestedState s) (identStart b s) := by
  have hwaits := snapshotStands_expireWaits (digestedState s)
  cases b with
  | false => rw [identStart_identLast]; exact (decisionsKeep_snapshotStands _).keeps_floorDecisions hwaits false
  | true => rw [identStart_identFirst]; exact hwaits

/-- The unit reads the snapshot and the history that the snapshot complete leaves. -/
theorem identStart_snapshot (b : Bool) (s : State) :
    (identStart b s).claims.snap = (decidedState b (digestedState s)).claims.snap
    ∧ (identStart b s).history = (decidedState b (digestedState s)).history := by
  have hstart := snapshotStands_identStart b s
  have hdecided := snapshotStands_decided b (digestedState s)
  constructor
  · rw [hstart.claims, hdecided.claims]
  · rw [hstart.history, hdecided.history]

theorem settleRun_enforceTot (fenceNow : Bool) (s : State) :
    (enforceTot fenceNow s).clamp.settleRun = s.clamp.settleRun := by
  unfold enforceTot
  split
  · exact (seenKept_putCauses _ s).settleRun
  · rfl

theorem settleRun_identStart (b : Bool) (s : State) : (identStart b s).clamp.settleRun = s.clamp.settleRun := by
  cases b <;> simp [identStart, floorDecisions, settleRun_enforceTot, digestedState, formedState, testedState]

/-- A start that is not pending when the snapshot complete begins and ends is not pending when the unit works. -/
theorem pendingStart_identStart {b : Bool} {s : State} (hoff : s.air.state = .off) (hs : s.air.pendingStart = none)
    (ht : (decidedState b (digestedState s)).air.pendingStart = none) : (identStart b s).air.pendingStart = none := by
  cases b with
  | false =>
    have horphan (u : State) : (orphanStep u).air = u.air := by simp
    rwa [decided_identLast, horphan, pendingStart_identWork, ← identStart_identLast] at ht
  | true =>
    have hformed : (formedState s).air = s.air := by
      have hsame := fold_preserves (P := fun t => t.air = s.air)
        (fun d t => if replacedAt (formedRecords s) (keptRecords s) (ownStation t) d then endHolding d .split t else t)
        (fun d t ht => by
          split
          · rw [endHolding_air_off _ (by rw [ht, hoff]) (by rw [ht, hs]), ht]
          · exact ht) (s := (testedState s).setClaims (formedClaims s)) (by simp [testedState])
      rw [formedState_eq]
      exact hsame
    simp [identStart_identFirst, digestedState, hformed, hs]

end Sys2Proof

namespace Sys2Proof
open Machine

/-! ### The unit's work at a snapshot complete (R128, R132, R133) -/

/-- The unit counts the tail-wait run; A and the due period stand. -/
theorem identWork_counts (s : State) : (identWork s).ident.a = s.ident.a ∧ (identWork s).ident.due = s.ident.due
    ∧ (identWork s).ident.dueAge = s.ident.dueAge ∧ (identWork s).ident.overdue = s.ident.overdue
    ∧ (identWork s).ident.tailWait = tailWaitNext s := by
  rw [identWork, withdrawTail_ident, considerTail_ident, tailWaitStep_eq]
  exact ⟨rfl, rfl, rfl, rfl, rfl⟩

/-- R128, R132: the order is considered after the run is counted, and leaves it. -/
theorem considerTail_tailWait (s : State) : (considerTail (tailWaitStep s)).ident.tailWait = tailWaitNext s := by
  rw [considerTail_ident, tailWaitStep_eq]
  rfl

/-- R132: with an own identification the tail order is not considered. -/
theorem identWork_of_phase {s : State} (h : s.ident.phase ≠ .nothing) : identWork s = withdrawTail (tailWaitStep s) := by
  have hnot : tailConsidered (tailWaitStep s) = false := by
    rw [tailWaitStep_eq, ← Bool.not_eq_true, tailConsidered_iff]
    exact fun hc => h hc.2.2.1
  rw [identWork, considerTail_of_not hnot]

/-- R133: an own tail identification ORDERED or in LEAD is withdrawn. -/
theorem identWork_withdraws {s : State} (hphase : s.ident.phase = .ordered ∨ s.ident.phase = .lead)
    (hkind : s.ident.kind = some .tail) (hlower : lowerIdentifies s = true) :
    (identWork s).ident.phase = .nothing ∧ (identWork s).ident.kind = none ∧ (identWork s).ident.clipIndex = 0
    ∧ (s.ident.phase = .ordered → (identWork s).air.pendingIdent = none
      ∧ (identWork s).air.withdrawDue = s.air.withdrawDue)
    ∧ (s.ident.phase = .lead → (identWork s).air.withdrawDue = true
      ∧ (identWork s).air.pendingIdent = s.air.pendingIdent) := by
  have hsome : s.ident.phase ≠ .nothing := by rcases hphase with h | h <;> rw [h] <;> decide
  rw [identWork_of_phase hsome, tailWaitStep_eq]
  rcases hphase with h | h
  · rw [withdrawTail_ordered (s := waitCounted s) h hkind hlower, h]
    exact ⟨rfl, rfl, rfl, fun _ => ⟨rfl, rfl⟩, nofun⟩
  · rw [withdrawTail_lead (s := waitCounted s) h hkind hlower, h]
    exact ⟨rfl, rfl, rfl, nofun, fun _ => ⟨rfl, rfl⟩⟩

/-- R133: any other own identification is kept. -/
theorem identWork_keeps {s : State} (hphase : s.ident.phase ≠ .nothing)
    (h : s.ident.phase = .playing ∨ s.ident.kind ≠ some .tail ∨ lowerIdentifies s = false) :
    identWork s = tailWaitStep s := by
  rw [identWork_of_phase hphase, tailWaitStep_eq]
  exact withdrawTail_of_not h

/-- Where no lower station identifies, the unit's work is to count and to consider the tail order. -/
theorem identWork_of_not_lower {s : State} (h : lowerIdentifies s = false) :
    identWork s = considerTail (tailWaitStep s) := by
  have hsite : SiteAlike s (considerTail (tailWaitStep s)) := by constructor <;> simp
  exact withdrawTail_of_not (.inr (.inr (hsite.lowerIdentifies_eq.trans h)))

/-- R132: at the end of the tail wait of a settled site the order is considered. -/
theorem tailConsidered_tailWaitStep_iff {s : State} (hphase : s.ident.phase = .nothing) :
    tailConsidered (tailWaitStep s) = true ↔
      tailWaitNext s = s.setup.tailWait ∧ joinedStale s = false ∧ s.clamp.settleRun = 10 := by
  rw [tailWaitStep_eq, tailConsidered_iff]
  exact ⟨fun ⟨hwait, hstale, _, hrun⟩ => ⟨hwait, hstale, hrun⟩,
    fun ⟨hwait, hstale, hrun⟩ => ⟨hwait, hstale, hphase, hrun⟩⟩

/-- The station chosen after the tail-wait run is counted is the one that s chooses. -/
theorem chooseStation_tailWaitStep (s : State) : chooseStation (tailWaitStep s) = chooseStation s := by
  have hsite : SiteAlike s (tailWaitStep s) := by constructor <;> simp
  exact hsite.chooseStation_eq (by simp)

section
variable {s : State} (h : tailConsidered (tailWaitStep s) = true)
include h

/-- R131, R132: the choice is made and, by the chosen station, the tail order given. -/
theorem considered_choice : (considerTail (tailWaitStep s)).ident.choice = chooseStation s := by
  rw [considerTail_choice h, chooseStation_tailWaitStep]

theorem considered_orders (hown : chooseStation s = some s.setup.station) (hoff : s.air.state = .off)
    (hstart : s.air.pendingStart = none) (hident : s.air.pendingIdent = none) (hconds : orderConds s = true) :
    (considerTail (tailWaitStep s)).ident.phase = .ordered
    ∧ (considerTail (tailWaitStep s)).ident.kind = some .tail
    ∧ (considerTail (tailWaitStep s)).air.pendingIdent = some .tail := by
  refine considerTail_orders h ?_ (by simpa using hident) ?_
  · rw [chooseStation_tailWaitStep, hown]
    simp
  · rw [tailWaitStep_eq]
    exact (tailConds_iff _).mpr ⟨hoff, hstart, hconds⟩

theorem considered_other (hphase : s.ident.phase = .nothing) (hother : chooseStation s ≠ some s.setup.station) :
    (considerTail (tailWaitStep s)).ident.phase = .nothing ∧ (considerTail (tailWaitStep s)).air = s.air := by
  have hother' : chooseStation (tailWaitStep s) ≠ some (tailWaitStep s).setup.station := by
    rw [chooseStation_tailWaitStep]
    simpa using hother
  rw [considerTail_other h hother', tailWaitStep_eq]
  exact ⟨hphase, rfl⟩

end

/-! ### The row of the tail wait (R128, R131, R132) -/

theorem exec_tailWaitComplete {s : State} (hp : pointsRun s = true) (hcounts : tailWaitCounts s = true)
    (hrun : s.ident.tailWait + 1 = s.setup.tailWait) :
    exec .tailWaitComplete s = .next (considerTail (tailWaitStep s)) ∧ tailWaitNext s = s.setup.tailWait := by
  have hruns : tailWaitReaches s = true := by simp [tailWaitReaches, hp, hcounts, reaches, hrun]
  obtain ⟨hactive, hstale, -⟩ := (tailWaitCounts_iff s).mp hcounts
  refine ⟨exec_of_runs (i := .tailWaitComplete) rfl hruns, ?_⟩
  simp [tailWaitNext, hactive, hstale, hcounts, hrun]

end Sys2Proof

namespace Sys2Proof
open Machine

/-! ### What a snapshot complete leaves of the unit -/

section
variable (b : Bool) (s : State)

theorem decided_ident : (decidedState b (digestedState s)).ident = (identWork (identStart b s)).ident :=
  (identSpared_decided b s).ident

theorem decided_pending :
    (decidedState b (digestedState s)).air.pendingIdent = (identWork (identStart b s)).air.pendingIdent
    ∧ (decidedState b (digestedState s)).air.withdrawDue = (identWork (identStart b s)).air.withdrawDue :=
  ⟨(identSpared_decided b s).air.pendingIdent, (identSpared_decided b s).air.withdrawDue⟩

theorem decided_dueKept : (decidedState b (digestedState s)).ident.a = s.ident.a
    ∧ (decidedState b (digestedState s)).ident.due = s.ident.due
    ∧ (decidedState b (digestedState s)).ident.dueAge = s.ident.dueAge
    ∧ (decidedState b (digestedState s)).ident.overdue = s.ident.overdue := by
  obtain ⟨ha, hdue, hage, hover, -⟩ := identWork_counts (identStart b s)
  rw [decided_ident, ha, hdue, hage, hover, (identSpared_identStart b s).ident]
  exact ⟨rfl, rfl, rfl, rfl⟩

theorem decided_tailWaitNext : (decidedState b (digestedState s)).ident.tailWait = tailWaitNext (identStart b s) := by
  obtain ⟨-, -, -, -, hwait⟩ := identWork_counts (identStart b s)
  rw [decided_ident, hwait]

/-- R128: when the run counts, on the snapshot that is left. -/
theorem tailWaitCounts_identStart_iff : tailWaitCounts (identStart b s) = true ↔
    memberActive s = true ∧ joinedStale s = false ∧ s.ident.a ≠ 0
    ∧ (∀ k d, ¬ holdsFloor (decidedState b (digestedState s)).claims.snap.recs k d)
    ∧ identOnBus s = false ∧ s.bus.sampNow.keyl = false := by
  have hspared := identSpared_identStart b s
  have hsite := hspared.toSiteAlike
  obtain ⟨hsnap, -⟩ := identStart_snapshot b s
  rw [tailWaitCounts_iff, hsite.memberActive_eq, hsite.joinedStale_eq, hsite.identOnBus_eq, hspared.ident,
    hspared.sampNow, hsnap]

/-- R128: the tail-wait run after a snapshot complete, line by line. -/
theorem decided_tailWait :
    (memberActive s = false → (decidedState b (digestedState s)).ident.tailWait = 0)
    ∧ (memberActive s = true → joinedStale s = true →
      (decidedState b (digestedState s)).ident.tailWait = s.ident.tailWait)
    ∧ (memberActive s = true → joinedStale s = false →
      (s.ident.a = 0 ∨ (∃ k d, holdsFloor (decidedState b (digestedState s)).claims.snap.recs k d)
          ∨ identOnBus s = true ∨ s.bus.sampNow.keyl = true →
        (decidedState b (digestedState s)).ident.tailWait = 0)
      ∧ (s.ident.a ≠ 0 → (∀ k d, ¬ holdsFloor (decidedState b (digestedState s)).claims.snap.recs k d) →
        identOnBus s = false → s.bus.sampNow.keyl = false →
        (decidedState b (digestedState s)).ident.tailWait = min (s.ident.tailWait + 1) s.setup.tailWait)) := by
  have hspared := identSpared_identStart b s
  have hsite := hspared.toSiteAlike
  have hcounts := tailWaitCounts_identStart_iff b s
  rw [decided_tailWaitNext, tailWaitNext, hsite.memberActive_eq, hsite.joinedStale_eq, hspared.ident, hspared.setup]
  refine ⟨fun hm => if_pos hm, fun hm hst => ?_, fun hm hst => ⟨fun hbusy => ?_, fun ha hfree hquiet hkey => ?_⟩⟩
  · rw [hm, hst]
    rfl
  · have hnot : ¬ tailWaitCounts (identStart b s) = true := by
      rw [hcounts]
      rintro ⟨-, -, ha, hfree, hquiet, hkey⟩
      rcases hbusy with h | ⟨k, d, h⟩ | h | h
      · exact ha h
      · exact hfree k d h
      · rw [h] at hquiet; cases hquiet
      · rw [h] at hkey; cases hkey
    rw [hm, hst, if_neg hnot]
    rfl
  · rw [hm, hst, if_pos (hcounts.mpr ⟨hm, hst, ha, hfree, hquiet, hkey⟩)]
    rfl

end

section
variable {s : State} (b : Bool)

theorem lowerIdentifies_identStart : lowerIdentifies (identStart b s) = true ↔ lowerStationIdentifies s := by
  rw [(identSpared_identStart b s).toSiteAlike.lowerIdentifies_eq, lowerIdentifies_iff]

/-- R133: an own tail identification ORDERED or in LEAD is withdrawn. -/
theorem decided_withdraws (hphase : s.ident.phase = .ordered ∨ s.ident.phase = .lead)
    (hkind : s.ident.kind = some .tail) (hlower : lowerStationIdentifies s) :
    (decidedState b (digestedState s)).ident.phase = .nothing
    ∧ (decidedState b (digestedState s)).ident.kind = none ∧ (decidedState b (digestedState s)).ident.clipIndex = 0
    ∧ (s.ident.phase = .ordered → (decidedState b (digestedState s)).air.pendingIdent = none
      ∧ (decidedState b (digestedState s)).air.withdrawDue = s.air.withdrawDue)
    ∧ (s.ident.phase = .lead → (decidedState b (digestedState s)).air.withdrawDue = true
      ∧ (decidedState b (digestedState s)).air.pendingIdent = s.air.pendingIdent) := by
  have hspared := identSpared_identStart b s
  have hwork := identWork_withdraws (s := identStart b s) (by rwa [hspared.ident]) (by rwa [hspared.ident])
    ((lowerIdentifies_identStart b).mpr hlower)
  obtain ⟨hpending, hdue⟩ := decided_pending b s
  rw [decided_ident, hpending, hdue]
  rwa [hspared.ident, hspared.air.pendingIdent, hspared.air.withdrawDue] at hwork

/-- R133: any other own identification is kept. -/
theorem decided_keeps (hphase : s.ident.phase ≠ .nothing)
    (h : s.ident.phase = .playing ∨ s.ident.kind ≠ some .tail ∨ ¬ lowerStationIdentifies s) :
    (decidedState b (digestedState s)).ident.phase = s.ident.phase
    ∧ (decidedState b (digestedState s)).ident.kind = s.ident.kind
    ∧ (decidedState b (digestedState s)).ident.clipIndex = s.ident.clipIndex
    ∧ (decidedState b (digestedState s)).air.pendingIdent = s.air.pendingIdent
    ∧ (decidedState b (digestedState s)).air.withdrawDue = s.air.withdrawDue := by
  have hspared := identSpared_identStart b s
  have hwork : identWork (identStart b s) = waitCounted (identStart b s) := by
    rw [← tailWaitStep_eq]
    refine identWork_keeps (by rwa [hspared.ident]) ?_
    rwa [hspared.ident, ← Bool.not_eq_true, lowerIdentifies_identStart]
  obtain ⟨hpending, hdue⟩ := decided_pending b s
  rw [decided_ident, hpending, hdue, hwork, ← hspared.ident, ← hspared.air.pendingIdent, ← hspared.air.withdrawDue]
  exact ⟨rfl, rfl, rfl, rfl, rfl⟩

/-- R131: the choice is made on the site and the history that the snapshot complete leaves. -/
theorem chooseStation_identStart :
    chooseStation (decidedState b (digestedState s)) = chooseStation (identStart b s) := by
  have hwork : SiteAlike (identStart b s) (identWork (identStart b s)) := by constructor <;> simp
  obtain ⟨-, hhistory⟩ := identStart_snapshot b s
  rw [(identSpared_decided b s).toSiteAlike.chooseStation_eq (by rw [← hhistory]; simp),
    hwork.chooseStation_eq (by simp)]

theorem identWork_identStart (hlower : ¬ lowerStationIdentifies s) : identWork (identStart b s) =
    considerTail (tailWaitStep (identStart b s)) :=
  identWork_of_not_lower (by rwa [← Bool.not_eq_true, lowerIdentifies_identStart])

theorem tailConsidered_identStart_iff (hphase : s.ident.phase = .nothing) :
    tailConsidered (tailWaitStep (identStart b s)) = true ↔
      (decidedState b (digestedState s)).ident.tailWait = s.setup.tailWait ∧ joinedStale s = false
      ∧ s.clamp.settleRun = 10 := by
  have hspared := identSpared_identStart b s
  rw [tailConsidered_tailWaitStep_iff (by rwa [hspared.ident]), hspared.toSiteAlike.joinedStale_eq, hspared.setup,
    settleRun_identStart, decided_tailWaitNext]

section
variable (hphase : s.ident.phase = .nothing) (hlower : ¬ lowerStationIdentifies s)
include hphase hlower

/-- R131, R132: with the run complete and the site settled the choice is made and the tail order given. -/
theorem decided_considers (hwait : (decidedState b (digestedState s)).ident.tailWait = s.setup.tailWait)
    (hstale : joinedStale s = false) (hsettled : s.clamp.settleRun = 10) :
    (decidedState b (digestedState s)).ident.choice = chooseStation (decidedState b (digestedState s))
    ∧ ((decidedState b (digestedState s)).ident.choice = some s.setup.station → memberActive s = true →
      s.air.state = .off → s.air.pendingStart = none → (decidedState b (digestedState s)).air.pendingStart = none →
      s.air.pendingIdent = none → s.bus.sampNow.clampl = false → s.pool.clip ≠ [] →
      (decidedState b (digestedState s)).ident.phase = .ordered
      ∧ (decidedState b (digestedState s)).ident.kind = some .tail
      ∧ (decidedState b (digestedState s)).air.pendingIdent = some .tail)
    ∧ ((decidedState b (digestedState s)).ident.choice ≠ some s.setup.station →
      (decidedState b (digestedState s)).ident.phase = .nothing
      ∧ (decidedState b (digestedState s)).air.pendingIdent = s.air.pendingIdent) := by
  have hspared := identSpared_identStart b s
  have hconsidered := (tailConsidered_identStart_iff b hphase).mpr ⟨hwait, hstale, hsettled⟩
  obtain ⟨hpending, -⟩ := decided_pending b s
  rw [decided_ident, hpending, chooseStation_identStart, identWork_identStart b hlower,
    considered_choice hconsidered, ← hspared.setup]
  refine ⟨rfl, fun hown hactive hoff hstart hstart' hnone hclamp hclip => ?_, fun hother => ?_⟩
  · refine considered_orders hconsidered hown (hspared.air.off hoff) (pendingStart_identStart hoff hstart hstart')
      (by rw [hspared.air.pendingIdent, hnone]) ?_
    rw [hspared.toSiteAlike.orderConds_eq]
    exact (orderConds_iff s).mpr ⟨hactive, hclamp, hclip⟩
  · obtain ⟨hstill, hair⟩ := considered_other hconsidered (by rwa [hspared.ident]) hother
    exact ⟨hstill, by rw [hair, hspared.air.pendingIdent]⟩

theorem decided_not_considers (hnot : (decidedState b (digestedState s)).ident.tailWait ≠ s.setup.tailWait
      ∨ joinedStale s = true ∨ s.clamp.settleRun ≠ 10) :
    (decidedState b (digestedState s)).ident.choice = s.ident.choice
    ∧ (decidedState b (digestedState s)).ident.phase = .nothing
    ∧ (decidedState b (digestedState s)).air.pendingIdent = s.air.pendingIdent := by
  have hspared := identSpared_identStart b s
  have hunconsidered : tailConsidered (tailWaitStep (identStart b s)) = false := by
    rw [← Bool.not_eq_true, tailConsidered_identStart_iff b hphase]
    rintro ⟨hwait, hstale, hsettled⟩
    rcases hnot with h | h | h
    · exact h hwait
    · rw [h] at hstale; cases hstale
    · exact h hsettled
  obtain ⟨hpending, -⟩ := decided_pending b s
  rw [decided_ident, hpending, identWork_identStart b hlower, considerTail_of_not hunconsidered,
    tailWaitStep_eq, ← hphase, ← hspared.ident, ← hspared.air.pendingIdent]
  exact ⟨rfl, rfl, rfl⟩

end

end

/-! ### The rows of the unit -/

/-- R126: a due identification without a clip ends the holding on the air with NO_IDENT. -/
theorem idDue_ends_holding {s : State} {d : Desk} (hphase : s.ident.phase = .nothing) (hclip : s.pool.clip = [])
    (hon : s.air.state = .on) (hserve : s.air.serving = some d) (hended : s.air.holdingEnded = false)
    (hhold : hasState s d .holding) : (actOnDue (fallenDue s)).ident = (fallenDue s).ident
      ∧ holdingEndedAt .noIdent s (actOnDue (fallenDue s)) d ∧ (actOnDue (fallenDue s)).air.state = .tail := by
  have hhold' : hasState (fallenDue s) d .holding := hhold
  rw [actOnDue_without_clip (s := fallenDue s) hphase hclip hon hserve hended]
  obtain ⟨htail, -, -⟩ := endHolding_to_tail (s := fallenDue s) hserve hon hhold' .noIdent
  exact ⟨by simp, holdingEndedAt_from (holdingEndedAt_endHolding (by decide) (by decide) hhold') rfl, htail⟩

/-- R117, R126: a due identification with a clip in ON or TAIL orders the interval identification. -/
theorem idDue_orders {s : State} (hm : s.member.join = .member) (hphase : s.ident.phase = .nothing)
    (hclip : s.pool.clip ≠ []) (hair : s.air.state = .on ∨ s.air.state = .tail) (hpending : s.air.pendingIdent = none)
    (hsync : s.sync.state = .locked ∨ s.sync.state = .timing) (hclamp : s.bus.sampNow.clampl = false) :
    actOnDue (fallenDue s) = { s with
      ident := { s.ident with
        a := s.ident.a + 1, due := true, dueAge := 0, phase := .ordered, kind := some .interval }
      air := { s.air with pendingIdent := some .interval } } := by
  have hactive : memberActive (fallenDue s) = true := (memberActive_iff _).mpr ⟨hsync, hm⟩
  have hconds : intervalConds (fallenDue s) = true :=
    (intervalConds_iff _).mpr ⟨hair, (orderConds_iff _).mpr ⟨hactive, hclamp, hclip⟩⟩
  rw [actOnDue_with_clip (s := fallenDue s) hphase hclip hair, orderInterval_taken (s := fallenDue s) hpending hphase hconds]
  rfl

/-- R125: the row of the overdue identification. -/
theorem exec_idOverdue {s : State} (hf : frameRuns s = true) (hdue : s.ident.due = true)
    (hover : s.ident.overdue = false) (hage : s.ident.dueAge = 99) : exec .idOverdue s =
      .next (raiseSite .idOverdue (s.setIdent { s.ident with dueAge := 100, overdue := true })) := by
  have hruns : overdueReaches s = true := by simp [overdueReaches, hf, hdue, hover, hage, reaches, Config.overdueAge]
  rw [exec_of_runs (i := .idOverdue) rfl hruns, dueStep_overdue hdue hover hage]

/-- R128: at the end of the tail wait of a site that is not settled, or with an own identification, the run is all. -/
theorem tailWaitComplete_counts {s : State} (hnext : tailWaitNext s = s.setup.tailWait)
    (h : s.ident.phase ≠ .nothing ∨ s.clamp.settleRun ≠ 10) :
    considerTail (tailWaitStep s) = s.setIdent { s.ident with tailWait := s.setup.tailWait } := by
  rw [tailWaitStep_eq, waitCounted, hnext, considerTail_of_not]
  rw [← Bool.not_eq_true, tailConsidered_iff]
  rintro ⟨-, -, hphase, hsettled⟩
  rcases h with h | h
  · exact h hphase
  · exact h hsettled

/-- R131: whom the station of a quiet site chooses. -/
theorem chooseStation_spec (s : State) :
    (∀ e k, s.history.ring.head? = some e → e.station = k → qualifies s k = true → chooseStation s = some k)
    ∧ ((∀ e, s.history.ring.head? = some e → qualifies s e.station = false) →
      (∀ k, chooseStation s = some k ↔ qualifies s k = true ∧ ∀ j, j < k → qualifies s j = false)
      ∧ (chooseStation s = none ↔ ∀ k, qualifies s k = false)) := by
  refine ⟨fun e k hhead hk hq => ?_, fun hnone => ?_⟩
  · subst hk
    exact chooseStation_newest hhead hq
  · rw [chooseStation_lowest hnone]
    exact ⟨find_allStations _, by simp [List.find?_eq_none, mem_allStations]⟩

/-- Settles O53: the rows by `exec_idDue`, `exec_idOverdue` and `exec_tailWaitComplete`; at a snapshot complete the
unit's work is `identWork` on the state `identStart`, which the rest of the work spares. -/
theorem identificationLimitsAct : Obligations.IdentificationLimitsAct := by
  intro s
  refine ⟨fun hp hm hdue ha hlt k => ?_, fun hf hdue hover hage => exec_idOverdue hf hdue hover hage,
    fun hp hactive hstale ha hfree hquiet hkey hrun => ?_, fun hp hnf o b => ?_⟩
  · rw [exec_idDue hp hm hdue ha hlt k]
    refine ⟨fun h => ?_, fun d hk hphase hclip hon hserve hended hhold => ?_,
      fun hk hphase hclip hair hpending hsync hclamp => ?_⟩
    · rcases h with h | h
      · rw [if_neg h]; rfl
      · rw [actOnDue_of_phase (s := fallenDue s) h, ite_self]; rfl
    · rw [if_pos hk]
      exact ⟨_, rfl, idDue_ends_holding hphase hclip hon hserve hended hhold⟩
    · rw [if_pos hk, idDue_orders hm hphase hclip hair hpending hsync hclamp]
  · have hcounts := (tailWaitCounts_iff s).mpr ⟨hactive, hstale, ha, hfree, hquiet, hkey⟩
    obtain ⟨hexec, hnext⟩ := exec_tailWaitComplete hp hcounts hrun
    rw [hexec]
    refine ⟨fun h => by rw [tailWaitComplete_counts hnext h], fun hphase hsettled => ⟨_, rfl, ?_⟩⟩
    have hwait : (considerTail (tailWaitStep s)).ident.tailWait = s.setup.tailWait :=
      (considerTail_tailWait s).trans hnext
    have hconsidered := (tailConsidered_tailWaitStep_iff hphase).mpr ⟨hnext, hstale, hsettled⟩
    obtain ⟨hnewest, hlowest⟩ := chooseStation_spec s
    rw [considered_choice hconsidered]
    refine ⟨hwait, hnewest, hlowest, fun hown hoff hstart hnone hclamp hclip => ?_,
      considered_other hconsidered hphase⟩
    exact considered_orders hconsidered hown hoff hstart hnone ((orderConds_iff s).mpr ⟨hactive, hclamp, hclip⟩)
  · obtain ⟨ha, hdue, hage, hover⟩ := decided_dueKept b s
    obtain ⟨hout, hkept, hcounts⟩ := decided_tailWait b s
    exact ⟨_, exec_snapshotComplete hp hnf o b, ha, hdue, hage, hover, hout, hkept, hcounts, decided_withdraws b,
      decided_keeps b, fun hphase hlower => ⟨decided_considers b hphase hlower, decided_not_considers b hphase hlower⟩⟩

end Sys2Proof

namespace Sys2Proof
open Machine

/-! ## The clamp causes, one change at a time (R137) -/

theorem causesBecome_same {x : Byte} {s : State} (h : x = s.clamp.causes) : causesBecome x s = s := if_pos h

theorem causeMask_disjoint {c e : Cause} (h : c ≠ e) : c.mask &&& e.mask = 0#8 := by
  revert h
  cases c <;> cases e <;> decide

/-- A cause set leaves every other as it was. -/
theorem or_causeMask_and {c e : Cause} (h : c ≠ e) (x : Byte) : (x ||| c.mask) &&& e.mask = x &&& e.mask := by
  rw [BitVec.and_or_distrib_right, causeMask_disjoint h, BitVec.or_zero]

/-- A cause cleared leaves every other as it was. -/
theorem and_not_causeMask_and {c e : Cause} (h : c ≠ e) (x : Byte) : (x &&& ~~~ c.mask) &&& e.mask = x &&& e.mask := by
  have hin : ~~~ c.mask &&& e.mask = e.mask := by
    revert h
    cases c <;> cases e <;> decide
  rw [BitVec.and_assoc, hin]

theorem guardCausesBecome_same {x : Byte} {s : State} (h : x = s.clamp.causes) : guardCausesBecome x s = s := if_pos h

theorem guardCausesBecome_guard (x : Byte) (s : State) : (guardCausesBecome x s).guard = s.guard := by
  unfold guardCausesBecome
  split <;> rfl

theorem guardCausesBecome_setup (x : Byte) (s : State) : (guardCausesBecome x s).setup = s.setup := by
  unfold guardCausesBecome
  split <;> rfl

/-- The guard meter's own state and the causes change apart. -/
theorem setGuard_guardCausesBecome (x : Byte) (g : Guard) (s : State) :
    (guardCausesBecome x s).setGuard g = guardCausesBecome x (s.setGuard g) := by
  unfold guardCausesBecome
  rw [setGuard_clamp]
  split <;> rfl

/-- R137: of the clamp unit only the causes change. -/
theorem causesBecome_clamp (x : Byte) (s : State) : (causesBecome x s).clamp = { s.clamp with causes := x } := by
  unfold causesBecome
  split
  next h => rw [h]
  next => rfl

theorem guardCausesBecome_clamp (x : Byte) (s : State) :
    (guardCausesBecome x s).clamp = { s.clamp with causes := x } := by
  unfold guardCausesBecome
  split
  next h => rw [h]
  next => rfl

theorem siteFlagSet_causesBecome {x : Byte} {s : State} (h : x ≠ s.clamp.causes) :
    siteFlagSet (causesBecome x s) .clampChange := by
  rw [causesBecome, if_neg h]
  exact siteFlagSet_raiseSite .clampChange s

theorem siteFlagSet_guardCausesBecome {x : Byte} {s : State} (h : x ≠ s.clamp.causes) :
    siteFlagSet (guardCausesBecome x s) .guard ∧ siteFlagSet (guardCausesBecome x s) .clampChange := by
  rw [guardCausesBecome, if_neg h]
  exact ⟨siteFlagSet_raiseSite .guard (raiseSite .clampChange s),
    siteFlagSet_raiseSite_of .guard (siteFlagSet_raiseSite .clampChange s)⟩

end Sys2Proof

namespace Sys2Proof
open Machine

/-! ## The requests of the clamp unit and the guard meter (R140, R141, R150) -/

theorem openControl_iff (s : State) (d : Desk) :
    openControl s d = true ↔ ¬ hasState s d .absent ∧ (getDesk s d).record.cls = .control := by
  simp [openControl, hasState]

theorem not_openControl_iff (s : State) (d : Desk) :
    openControl s d = false ↔ hasState s d .absent ∨ (getDesk s d).record.cls = .normal := by
  rw [← Bool.not_eq_true, openControl_iff]
  cases (getDesk s d).record.cls <;> simp

/-- R140, R141: before the close, and from a desk that is no open CONTROL desk, both requests are refused alike. -/
theorem clampRequests_refused (d : Desk) {s : State} {st : Status}
    (h : s.setup.closed = false ∧ st = .notReady
      ∨ s.setup.closed = true ∧ openControl s d = false ∧ st = .notControl) :
    clampRequest d s = ⟨s, st, []⟩ ∧ unclampRequest d s = ⟨s, st, []⟩ := by
  rcases h with ⟨hc, rfl⟩ | ⟨hc, ho, rfl⟩
  · simp [clampRequest, unclampRequest, hc, Answer.refuse]
  · simp [clampRequest, unclampRequest, hc, ho, Answer.refuse]

/-- R140: a CLAMP that passes its checks sets OPERATOR. -/
theorem clampRequest_taken {d : Desk} {s : State} (hc : s.setup.closed = true) (ho : openControl s d = true) :
    clampRequest d s = ⟨causesBecome (s.clamp.causes ||| 0x80) s, .ok, []⟩ := by
  simp only [clampRequest, hc, ho, Bool.not_true, Bool.false_eq_true, if_false, Answer.ok]
  rfl

/-- R141: an UNCLAMP that passes its checks starts the publication of the order. -/
theorem unclampRequest_taken {d : Desk} {s : State} (hc : s.setup.closed = true) (ho : openControl s d = true) :
    unclampRequest d s = ⟨s.setClamp { s.clamp with unclampCtr := 4 }, .ok, []⟩ := by
  simp [unclampRequest, hc, ho, Answer.ok]

/-- Settles O24: the two checks of R140, then OPERATOR set or found set, and the counter of R141. -/
theorem clampSetsOperator : Obligations.ClampSetsOperator := by
  intro s d sel w hup hsel
  have clampAnswer {t : State} {st : Status} (hact : clampRequest d s = ⟨t, st, []⟩) :=
    exec_of_answer (i := .clamp sel w) rfl hup hsel hact
  have unclampAnswer {t : State} {st : Status} (hact : unclampRequest d s = ⟨t, st, []⟩) :=
    exec_of_answer (i := .unclamp sel w) rfl hup hsel hact
  have refused {st : Status} (h : s.setup.closed = false ∧ st = .notReady
      ∨ s.setup.closed = true ∧ openControl s d = false ∧ st = .notControl) :=
    And.intro (clampAnswer (clampRequests_refused d h).1) (unclampAnswer (clampRequests_refused d h).2)
  refine ⟨fun hc => refused (.inl ⟨hc, rfl⟩), fun hc hno => refused (.inr ⟨hc, (not_openControl_iff s d).mpr hno, rfl⟩),
    fun hc hopen hcls => ?_⟩
  have ho := (openControl_iff s d).mpr ⟨hopen, hcls⟩
  have hset_iff : s.clamp.causes ||| 0x80 = s.clamp.causes ↔ s.clamp.causes &&& 0x80 ≠ 0 := or_causeMask_eq .operator _
  rw [clampAnswer (clampRequest_taken hc ho)]
  refine ⟨unclampAnswer (unclampRequest_taken hc ho), fun hset => ?_, fun hclear => ?_⟩
  · rw [causesBecome_same (hset_iff.mpr hset)]
  · rw [causesBecome, if_neg fun he => hset_iff.mp he hclear]

/-- R150: guard-on becomes set once. -/
theorem startGuard_of_on {s : State} (h : s.guard.on = true) : startGuard s = s := if_pos h

theorem startGuard_of_off {s : State} (h : s.guard.on = false) : startGuard s =
    raiseSite .guard (s.setGuard { s.guard with on := true, phase := .idle, since := 0, beginDue := true }) := by
  rw [startGuard, if_neg (by rw [h]; exact Bool.false_ne_true)]

theorem exec_guardOn {s : State} (hup : linkUp s = true) (w : Bool) : exec (.guardOn w) s =
    .next (replied w s (guardOnRequest s).state 0 (guardOnRequest s).status (guardOnRequest s).body) :=
  congrArg Host.Outcome.next (takeRequest_up hup w 0 guardOnRequest)

/-- Settles O13: the check of R150, then guard-on found set or set. -/
theorem guardOnIsSetOnce : Obligations.GuardOnIsSetOnce := by
  intro s w hup
  have taken (hc : s.setup.closed = true) : guardOnRequest s = .ok (startGuard s) := by
    simp [guardOnRequest, hc]
  rw [exec_guardOn hup]
  refine ⟨fun hc => ?_, fun hc hon => ?_, fun hc hoff => ?_⟩
  · simp [guardOnRequest, hc, Answer.refuse]
  · rw [taken hc, startGuard_of_on hon]; rfl
  · rw [taken hc, startGuard_of_off hoff]; rfl

end Sys2Proof

namespace Sys2Proof
open Machine

/-! ## The guard meter (R151 to R155) -/

/-- R153: SENSOR where an ending records a fault. -/
theorem sensorIf_eq (fault : Bool) (s : State) :
    sensorIf fault s = guardCausesBecome (if fault then s.clamp.causes ||| 0x02 else s.clamp.causes) s := by
  cases fault with
  | false => exact (guardCausesBecome_same rfl).symm
  | true => exact setGuardCause_eq .sensor s

/-! ### Discharges and their endings (R153, R154) -/

section
variable {s : State} (n : Nat) (done opened short : Bool)

/-- R153: the ending of a reference discharge; the measurement charge begins. -/
theorem endDischarge_ref (h : s.guard.phase = .dischargeRef) : endDischarge n done opened short s =
    guardCausesBecome (if opened || short then s.clamp.causes ||| 0x02 else s.clamp.causes) (s.setGuard
      { s.guard with
        nRef := n, doneRef := done, openRef := opened, shortRef := short, phase := .chargeMeas, ticks := 0 }) := by
  unfold endDischarge
  rw [h]
  exact sensorIf_eq _ _

/-- R154: the ratio step of a cycle with a fault. -/
theorem ratioStep_faulted (h : guardFault s.guard = true) :
    ratioStep s = s.setGuard { s.guard with phase := .idle, heatRun := 0 } := by
  unfold ratioStep
  rw [if_pos h]
  rfl

/-- R154: the ratio step of a cycle without a fault clears SENSOR and applies the ratio to HEAT. -/
theorem ratioStep_sound (h : guardFault s.guard = false) : ratioStep s = heatStep (ratioOf s.guard)
    (guardCausesBecome (s.clamp.causes &&& 0xFD)
      (s.setGuard { s.guard with phase := .idle, ratio := some (ratioOf s.guard) })) := by
  have hsensor (t : State) : clearGuardCause .sensor t = guardCausesBecome (t.clamp.causes &&& 0xFD) t :=
    clearGuardCause_eq .sensor t
  unfold ratioStep
  rw [if_neg (by rw [h]; exact Bool.false_ne_true)]
  dsimp only
  rw [hsensor]
  rfl

/-- The guard meter with a measurement recorded. -/
def measured (g : Guard) (n : Nat) (done opened short : Bool) : Guard :=
  { g with nMeas := n, doneMeas := done, openMeas := opened, shortMeas := short }

theorem guardFault_measured (g : Guard) : guardFault (measured g n done opened short) = true ↔
    g.openRef = true ∨ g.shortRef = true ∨ opened = true ∨ short = true := by
  simp [guardFault, measured, or_assoc]

theorem endDischarge_meas (h : s.guard.phase = .dischargeMeas) : endDischarge n done opened short s =
    ratioStep (guardCausesBecome (if opened || short then s.clamp.causes ||| 0x02 else s.clamp.causes)
      (s.setGuard (measured s.guard n done opened short))) := by
  unfold endDischarge
  rw [h]
  exact congrArg ratioStep (sensorIf_eq _ _)

/-- R153, R154: the ending of a measurement discharge with a fault in either channel. -/
theorem endDischarge_meas_faulted (h : s.guard.phase = .dischargeMeas)
    (hfault : s.guard.openRef = true ∨ s.guard.shortRef = true ∨ opened = true ∨ short = true) :
    endDischarge n done opened short s =
      guardCausesBecome (if opened || short then s.clamp.causes ||| 0x02 else s.clamp.causes)
        (s.setGuard { measured s.guard n done opened short with phase := .idle, heatRun := 0 }) := by
  rw [endDischarge_meas n done opened short h, ratioStep_faulted, setGuard_guardCausesBecome, guardCausesBecome_guard]
  · rfl
  · rw [guardCausesBecome_guard]
    exact (guardFault_measured n done opened short s.guard).mpr hfault

end

/-- R153: the comparator's edge ends a reference discharge at the count n. -/
theorem edgeEnding_ref {s : State} (h : s.guard.phase = .dischargeRef) (n : Nat) : edgeEnding n s =
    guardCausesBecome (if n < 64 then s.clamp.causes ||| 0x02 else s.clamp.causes) (s.setGuard
      { s.guard with
        phase := .chargeMeas, ticks := 0, high := BitVec.ofNat 8 (n / 256), low := BitVec.ofNat 8 n
        nRef := n, doneRef := true, openRef := false, shortRef := decide (n < 64) }) := by
  have hend := endDischarge_ref (s := s.setGuard (putCounter n s.guard)) n true false (decide (n < 64)) h
  rw [Bool.false_or] at hend
  simp only [decide_eq_true_iff] at hend
  exact hend

/-- R153, R154: the comparator's edge ends the measurement discharge of a cycle with a fault. -/
theorem edgeEnding_meas_faulted {s : State} (h : s.guard.phase = .dischargeMeas) {n : Nat}
    (hfault : n < 64 ∨ s.guard.openRef = true ∨ s.guard.shortRef = true) : edgeEnding n s =
    guardCausesBecome (if n < 64 then s.clamp.causes ||| 0x02 else s.clamp.causes) (s.setGuard
      { s.guard with
        phase := .idle, high := BitVec.ofNat 8 (n / 256), low := BitVec.ofNat 8 n
        nMeas := n, doneMeas := true, openMeas := false, shortMeas := decide (n < 64), heatRun := 0 }) := by
  have hany : s.guard.openRef = true ∨ s.guard.shortRef = true ∨ false = true ∨ decide (n < 64) = true := by
    rw [decide_eq_true_iff]
    tauto
  have hend := endDischarge_meas_faulted (s := s.setGuard (putCounter n s.guard)) n true false (decide (n < 64)) h hany
  rw [Bool.false_or] at hend
  simp only [decide_eq_true_iff] at hend
  exact hend

/-- R153, R154: the comparator's edge ends the measurement discharge of a cycle without a fault. -/
theorem edgeEnding_meas_sound {s : State} (h : s.guard.phase = .dischargeMeas) {n : Nat} (hlow : 64 ≤ n) :
    edgeEnding n s = ratioStep (s.setGuard (measured (putCounter n s.guard) n true false false)) := by
  have hshort : decide (n < Config.shortBelow) = false := decide_eq_false (Nat.not_lt.mpr hlow)
  rw [edgeEnding, hshort, endDischarge_meas (s := s.setGuard (putCounter n s.guard)) n true false false h]
  exact congrArg ratioStep (guardCausesBecome_same rfl)

/-- R153: a reference discharge overflows. -/
theorem overflowEnding_ref {s : State} (h : s.guard.phase = .dischargeRef) : overflowEnding s =
    guardCausesBecome (s.clamp.causes ||| 0x02) (s.setGuard
      { s.guard with
        phase := .chargeMeas, ticks := 0, high := 0, low := 0, nRef := 65535, doneRef := false, openRef := true
        shortRef := false }) :=
  endDischarge_ref (s := s.setGuard (putCounter Config.carryOut s.guard)) 65535 false true false h

/-- R153, R154: a measurement discharge overflows, and ends the cycle. -/
theorem overflowEnding_meas {s : State} (h : s.guard.phase = .dischargeMeas) : overflowEnding s =
    guardCausesBecome (s.clamp.causes ||| 0x02) (s.setGuard
      { s.guard with
        phase := .idle, high := 0, low := 0, nMeas := 65535, doneMeas := false, openMeas := true, shortMeas := false
        heatRun := 0 }) :=
  endDischarge_meas_faulted (s := s.setGuard (putCounter Config.carryOut s.guard)) 65535 false true false h
    (.inr (.inr (.inl rfl)))

theorem discharging_iff (s : State) : discharging s = true ↔
    s.guard.phase = .dischargeRef ∨ s.guard.phase = .dischargeMeas := by
  simp [discharging]

theorem exec_dischargeEnd {s : State} (h : s.guard.phase = .dischargeRef ∨ s.guard.phase = .dischargeMeas) {n : Nat}
    (hlt : counterOf s.guard + n < 65536) :
    exec (.dischargeEnd n) s = .next (edgeEnding (counterOf s.guard + n) s) := by
  have hends : dischargeEnds n s = edgeEnding (counterOf s.guard + n) s := by
    rw [dischargeEnds, if_pos ((discharging_iff s).mpr h)]
    exact if_pos hlt
  rw [← hends]
  rfl

theorem exec_dischargeOverflow {s : State} (h : s.guard.phase = .dischargeRef ∨ s.guard.phase = .dischargeMeas) :
    exec .dischargeOverflow s = .next (overflowEnding s) :=
  congrArg Host.Outcome.next (if_pos ((discharging_iff s).mpr h))

/-- R152, R153: GCMP already below its threshold ends the discharge that begins as a SHORT. -/
theorem beginDischarge_below (x : GuardPhase) (s : State) : beginDischarge x false s =
    endDischarge 0 false false true (s.setGuard { putCounter 0 s.guard with phase := x }) := rfl

theorem exec_chargePhaseEnd_ref {s : State} (h : s.guard.phase = .chargeRef) (gcmpAbove : Bool) :
    exec (.chargePhaseEnd gcmpAbove) s = .next (beginDischarge .dischargeRef gcmpAbove s) := by
  have hends : chargeEnds gcmpAbove s = beginDischarge .dischargeRef gcmpAbove s := by
    unfold chargeEnds
    rw [h]
  rw [← hends]
  rfl

theorem exec_chargePhaseEnd_meas {s : State} (h : s.guard.phase = .chargeMeas) (gcmpAbove : Bool) :
    exec (.chargePhaseEnd gcmpAbove) s = .next (beginDischarge .dischargeMeas gcmpAbove s) := by
  have hends : chargeEnds gcmpAbove s = beginDischarge .dischargeMeas gcmpAbove s := by
    unfold chargeEnds
    rw [h]
  rw [← hends]
  rfl

/-! ### The begin of a cycle (R151) -/

/-- R151: a cycle begins at the next frame start after guard-on, and at the hundredth after a begin. -/
theorem guardFrameStart_begins {s : State} (hon : s.guard.on = true)
    (h : s.guard.beginDue = true ∨ 99 ≤ s.guard.since ∧ s.guard.phase = .idle) : guardFrameStart s = beginCycle s := by
  unfold guardFrameStart
  rw [if_neg (by rw [hon]; decide)]
  split
  · rfl
  next hdue =>
    obtain ⟨hsince, hidle⟩ := h.resolve_left hdue
    have hlast : ¬ s.guard.since + 1 < Config.cycleFrames := by unfold Config.cycleFrames; omega
    rw [if_neg hlast, if_pos hidle]

theorem cycleBegins_of {s : State} (hf : frameRuns s = true) (hon : s.guard.on = true)
    (h : s.guard.beginDue = true ∨ 99 ≤ s.guard.since ∧ s.guard.phase = .idle) : cycleBegins s = true := by
  simpa [cycleBegins, hf, hon, Config.cycleFrames] using h

/-- Settles O55: each row runs the ending of the phase it finds, and what each ending leaves is said once for the reference
channel and once for the measurement channel. -/
theorem guardCyclePhases : Obligations.GuardCyclePhases := by
  intro s
  refine ⟨fun hf hon hbegin => ?_, fun h => ?_, fun h => ?_, fun h => ?_, fun h => ?_⟩
  · rw [exec_of_runs (i := .guardCycleBegin) rfl (cycleBegins_of hf hon hbegin), guardFrameStart_begins hon hbegin]
    rfl
  · rw [exec_chargePhaseEnd_ref h, exec_chargePhaseEnd_ref h, beginDischarge_below]
    refine ⟨rfl, ?_⟩
    rw [endDischarge_ref (s := s.setGuard _) 0 false false true rfl]
    rfl
  · rw [exec_chargePhaseEnd_meas h, exec_chargePhaseEnd_meas h, beginDischarge_below]
    refine ⟨rfl, ?_⟩
    rw [endDischarge_meas_faulted (s := s.setGuard _) 0 false false true rfl (by simp)]
    rfl
  · refine ⟨fun n hlt => ?_, ?_⟩
    · rw [exec_dischargeEnd (.inl h) hlt, edgeEnding_ref h]
    · rw [exec_dischargeOverflow (.inl h), overflowEnding_ref h]
  · refine ⟨fun n hlt hfault => ?_, ?_⟩
    · rw [exec_dischargeEnd (.inr h) hlt, edgeEnding_meas_faulted h hfault]
    · rw [exec_dischargeOverflow (.inr h), overflowEnding_meas h]

/-! ### The ratio and HEAT (R154, R155) -/

/-- R155: the causes c after a ratio r that finds the heat reading run at a number. -/
def heatCauses (u : Setup) (run r : Nat) (c : Byte) : Byte :=
  if r ≤ u.heatTrip then if 1 ≤ run then c ||| 0x04 else c
  else if u.heatClear ≤ r then c &&& 0xFB else c

/-- R155: the heat reading run after a ratio r. -/
def heatRunNext (u : Setup) (run r : Nat) : Nat := if r ≤ u.heatTrip then min (run + 1) 2 else 0

/-- R154, R155: the guard meter g after the ratio r. -/
def rated (u : Setup) (g : Guard) (r : Nat) : Guard :=
  { g with phase := .idle, ratio := some r, heatRun := heatRunNext u g.heatRun r }

theorem heatStep_eq (r : Nat) (s : State) : heatStep r s =
    guardCausesBecome (heatCauses s.setup s.guard.heatRun r s.clamp.causes)
      (s.setGuard { s.guard with heatRun := heatRunNext s.setup s.guard.heatRun r }) := by
  have hsets (t : State) : setGuardCause .heat t = guardCausesBecome (t.clamp.causes ||| 0x04) t := setGuardCause_eq .heat t
  have hclears (t : State) : clearGuardCause .heat t = guardCausesBecome (t.clamp.causes &&& 0xFB) t :=
    clearGuardCause_eq .heat t
  have hsame (t : State) : t = guardCausesBecome t.clamp.causes t := (guardCausesBecome_same rfl).symm
  unfold heatStep heatCauses heatRunNext
  dsimp only
  by_cases htrip : r ≤ s.setup.heatTrip
  · simp only [if_pos htrip]
    by_cases hrun : 1 ≤ s.guard.heatRun
    · rw [if_pos hrun, if_pos (by omega), hsets]
      rfl
    · rw [if_neg hrun, if_neg (by omega)]
      exact hsame (s.setGuard _)
  · simp only [if_neg htrip]
    by_cases hclear : s.setup.heatClear ≤ r
    · rw [if_pos hclear, if_pos hclear, hclears]
      rfl
    · rw [if_neg hclear, if_neg hclear]
      exact hsame (s.setGuard _)

/-- R155 moves HEAT only. -/
theorem heatCauses_sensor (u : Setup) (run r : Nat) (c : Byte) : heatCauses u run r c &&& 0x02 = c &&& 0x02 := by
  have hset : (c ||| 0x04) &&& 0x02 = c &&& 0x02 := or_causeMask_and (c := .heat) (e := .sensor) (by decide) c
  have hclear : (c &&& 0xFB) &&& 0x02 = c &&& 0x02 := and_not_causeMask_and (c := .heat) (e := .sensor) (by decide) c
  unfold heatCauses
  split
  · split
    · exact hset
    · rfl
  · split
    · exact hclear
    · rfl

/-- R154, R155: the ratio step of a cycle without a fault, SENSOR cleared and HEAT by the ratio in one change. -/
theorem ratioStep_heat {s : State} {r : Nat} (h : guardFault s.guard = false) (hr : ratioOf s.guard = r) :
    ratioStep s = guardCausesBecome (heatCauses s.setup s.guard.heatRun r (s.clamp.causes &&& 0xFD))
      (s.setGuard (rated s.setup s.guard r)) := by
  have hundone (y : Byte) (hy : y &&& 0x02 = (s.clamp.causes &&& 0xFD) &&& 0x02) (he : y = s.clamp.causes) :
      s.clamp.causes &&& 0xFD = s.clamp.causes := by
    refine (and_not_causeMask_eq .sensor _).mpr ((congrArg (· &&& 0x02#8) he).symm.trans (hy.trans ?_))
    rw [BitVec.and_assoc]
    exact BitVec.and_zero
  rw [ratioStep_sound h, hr, heatStep_eq, guardCausesBecome_guard, guardCausesBecome_setup, guardCausesBecome_causes,
    setGuard_guardCausesBecome, guardCausesBecome_twice]
  · rfl
  · exact hundone _ (heatCauses_sensor _ _ _ _)

theorem heatReaches_of {s : State} {r : Nat} (hon : s.guard.on = true) (hr : s.guard.ratio = some r)
    (htrip : r ≤ s.setup.heatTrip) (hrun : s.guard.heatRun = 1) : heatReaches s = some r := by
  simp [heatReaches, hr, hon, htrip, hrun, reaches]

theorem exec_heatSet {s : State} {r : Nat} (h : heatReaches s = some r) : exec .heatSet s = .next (heatStep r s) := by
  have hevent : heatEvent s = heatStep r s := by
    unfold heatEvent
    rw [h]
  rw [← hevent]
  rfl

/-- R154: the meter that a measurement discharge without a fault leaves to the ratio step. -/
theorem measured_sound {g : Guard} (hopen : g.openRef = false) (hshort : g.shortRef = false) (n : Nat) :
    guardFault (measured (putCounter n g) n true false false) = false := by
  simp [guardFault, measured, putCounter, hopen, hshort]

/-- R155: HEAT and the run, by the three ranges of the ratio. -/
theorem heat_ranges {u : Setup} (hfields : u.heatTrip < u.heatClear) (run r : Nat) (c : Byte) :
    (r ≤ u.heatTrip → heatRunNext u run r = min (run + 1) 2
      ∧ (1 ≤ run → heatCauses u run r c = c ||| 0x04) ∧ (run = 0 → heatCauses u run r c = c))
    ∧ (u.heatTrip < r → r < u.heatClear → heatRunNext u run r = 0 ∧ heatCauses u run r c = c)
    ∧ (u.heatClear ≤ r → heatRunNext u run r = 0 ∧ heatCauses u run r c = c &&& 0xFB) := by
  unfold heatRunNext heatCauses
  refine ⟨fun htrip => ?_, fun htrip hclear => ?_, fun hclear => ?_⟩
  · simp +contextual [htrip]
  · simp [Nat.not_le.mpr htrip, Nat.not_le.mpr hclear]
  · simp [Nat.not_le.mpr (hfields.trans_le hclear), hclear]

/-- Settles O56: the ratio step by `ratioStep_heat`, the row by `heatStep_eq`; the three ranges by `heat_ranges`. -/
theorem heatFromRatio : Obligations.HeatFromRatio := by
  intro s hfields
  refine ⟨fun n r hphase hopen hshort hlow hlt _ hr => ?_, fun r hon hratio htrip hrun => ?_⟩
  · have hmask : (s.clamp.causes &&& 0xFD) &&& 0xFB = s.clamp.causes &&& 0xF9 := BitVec.and_assoc ..
    obtain ⟨htrip, hbetween, hclear⟩ := heat_ranges hfields s.guard.heatRun r (s.clamp.causes &&& 0xFD)
    rw [hmask] at hclear
    refine ⟨rated s.setup (measured (putCounter (counterOf s.guard + n) s.guard) (counterOf s.guard + n) true false false) r,
      heatCauses s.setup s.guard.heatRun r (s.clamp.causes &&& 0xFD), ?_, rfl, htrip, hbetween, hclear⟩
    rw [exec_dischargeEnd (.inr hphase) hlt, edgeEnding_meas_sound hphase hlow]
    exact congrArg Host.Outcome.next (ratioStep_heat (s := s.setGuard _) (measured_sound hopen hshort _) hr.symm)
  · obtain ⟨hranges, -⟩ := heat_ranges hfields s.guard.heatRun r s.clamp.causes
    obtain ⟨hnext, hsets, -⟩ := hranges htrip
    rw [exec_heatSet (heatReaches_of hon hratio htrip hrun), heatStep_eq, hsets hrun.ge, hnext, hrun]
    rfl
end Sys2Proof

namespace Sys2Proof
open Machine

/-! ## The supervision runs of the clamp unit (R143, R145 to R147, R149) -/

/-! ### The stuck run (R145) -/

theorem stuckCounts_iff (s : State) : stuckCounts s = true ↔
    s.member.join = .member ∧ s.bus.sampNow.rfon = true ∧ s.bus.sampNow.keyl = false := by
  simp [stuckCounts, and_assoc]

theorem stuckStep_unsensed {s : State} (h : s.setup.rfSense = false) : stuckStep s = s := by
  simp [stuckStep, h]

section
variable {s : State} (h : s.setup.rfSense = true)
include h

theorem stuckStep_rests (hno : ¬ stuckCounts s = true) :
    stuckStep s = s.setClamp { s.clamp with stuckRun := 0 } := by
  simp [stuckStep, h, hno]

theorem stuckStep_counts (hc : stuckCounts s = true) (hrun : s.clamp.stuckRun ≠ 19) :
    stuckStep s = s.setClamp { s.clamp with stuckRun := min (s.clamp.stuckRun + 1) 20 } := by
  simp [stuckStep, h, hc, reaches, hrun, capAdd, Config.watchLimit]

/-- R145: the twentieth sample sets STUCK. -/
theorem stuckStep_sets (hc : stuckCounts s = true) (hrun : s.clamp.stuckRun = 19) :
    stuckStep s = causesBecome (s.clamp.causes ||| 0x20) (s.setClamp { s.clamp with stuckRun := 20 }) := by
  simp only [stuckStep, h, hc, hrun, Bool.not_true, Bool.false_eq_true, if_false, if_true]
  rfl

end

/-- The stuck run's step moves the stuck run and STUCK only. -/
theorem stuckStep_clamp (s : State) : (stuckStep s).clamp = { s.clamp with
    stuckRun := (stuckStep s).clamp.stuckRun, causes := (stuckStep s).clamp.causes }
    ∧ (stuckStep s).clamp.causes &&& 0x01 = s.clamp.causes &&& 0x01 := by
  cases h : s.setup.rfSense with
  | false => rw [stuckStep_unsensed h]; exact ⟨rfl, rfl⟩
  | true =>
    by_cases hc : stuckCounts s = true
    · by_cases hrun : s.clamp.stuckRun = 19
      · rw [stuckStep_sets h hc hrun, causesBecome_clamp]
        exact ⟨rfl, or_causeMask_and (c := .stuck) (e := .reflect) (by decide) _⟩
      · rw [stuckStep_counts h hc hrun]; exact ⟨rfl, rfl⟩
    · rw [stuckStep_rests h hc]; exact ⟨rfl, rfl⟩

/-! ### The no-RF run (R147) -/

theorem noRfCounts_iff (s : State) : noRfCounts s = true ↔
    s.bus.sampNow.keyl = true ∧ s.bus.sampNow.clampl = false ∧ s.bus.sampNow.rfon = false := by
  simp [noRfCounts, and_assoc]

theorem noRfStep_unsensed {s : State} (h : s.setup.rfSense = false) : noRfStep s = s := by
  simp [noRfStep, h]

section
variable {s : State} (h : s.setup.rfSense = true)
include h

theorem noRfStep_rests (hno : ¬ noRfCounts s = true) : noRfStep s = s.setClamp { s.clamp with noRfRun := 0 } := by
  simp [noRfStep, h, hno]

theorem noRfStep_counts (hc : noRfCounts s = true) (hrun : s.clamp.noRfRun + 1 ≠ s.setup.lead + 50) :
    noRfStep s = s.setClamp { s.clamp with noRfRun := min (s.clamp.noRfRun + 1) (s.setup.lead + 50) } := by
  have hreach : reaches s.clamp.noRfRun (noRfLimit s) = false := by simpa [reaches, noRfLimit, Config.noRfMargin] using hrun
  simp only [noRfStep, h, hc, hreach, Bool.not_true, Bool.false_eq_true, if_false, if_true]
  rfl

/-- R147: the last sample of the run raises NO_RF. -/
theorem noRfStep_raises (hc : noRfCounts s = true) (hrun : s.clamp.noRfRun + 1 = s.setup.lead + 50) :
    noRfStep s = raiseSite .noRf (s.setClamp { s.clamp with noRfRun := s.setup.lead + 50 }) := by
  have hreach : reaches s.clamp.noRfRun (noRfLimit s) = true := by simpa [reaches, noRfLimit, Config.noRfMargin] using hrun
  have hcap : capAdd s.clamp.noRfRun 1 (noRfLimit s) = s.setup.lead + 50 := by
    rw [capAdd, hrun]
    exact min_self _
  simp only [noRfStep, h, hc, hreach, hcap, Bool.not_true, Bool.false_eq_true, if_false, if_true]

end

/-- The no-RF run's step moves the no-RF run only. -/
theorem noRfStep_clamp (s : State) :
    (noRfStep s).clamp = { s.clamp with noRfRun := (noRfStep s).clamp.noRfRun } := by
  cases h : s.setup.rfSense with
  | false => rw [noRfStep_unsensed h]
  | true =>
    by_cases hc : noRfCounts s = true
    · by_cases hrun : s.clamp.noRfRun + 1 = s.setup.lead + 50
      · rw [noRfStep_raises h hc hrun]; rfl
      · rw [noRfStep_counts h hc hrun]; rfl
    · rw [noRfStep_rests h hc]; rfl

/-! ### REFLECT (R149) -/

theorem causeSet_reflect_iff (s : State) : causeSet s .reflect = true ↔ s.clamp.causes &&& 0x01 ≠ 0 := by
  rw [causeSet, bne_iff_ne]
  rfl

theorem reflectStep_off {s : State} (h : s.guard.on = false) : reflectStep s = s := by simp [reflectStep, h]

/-- R149: the step while REFLECT is clear. -/
theorem reflectStep_clear {s : State} (hon : s.guard.on = true) (hclear : s.clamp.causes &&& 0x01 = 0) : reflectStep s =
    if s.bus.sampNow.refl = false then s.setClamp { s.clamp with reflSet := 0, reflClear := 0 }
    else if s.clamp.reflSet + 1 < 2 then s.setClamp { s.clamp with reflSet := s.clamp.reflSet + 1, reflClear := 0 }
    else guardCausesBecome (s.clamp.causes ||| 0x01) (s.setClamp { s.clamp with reflSet := 0, reflClear := 0 }) := by
  have hno : causeSet s .reflect = false := by
    rw [← Bool.not_eq_true, causeSet_reflect_iff]
    exact not_not.mpr hclear
  simp only [reflectStep, hon, hno, setGuardCause_eq, Bool.not_true, Bool.not_eq_true', Bool.false_eq_true, if_false]
  rfl

/-- R149: the step while REFLECT is set. -/
theorem reflectStep_set {s : State} (hon : s.guard.on = true) (hset : s.clamp.causes &&& 0x01 ≠ 0) : reflectStep s =
    if s.bus.sampNow.refl = true then s.setClamp { s.clamp with reflSet := 0, reflClear := 0 }
    else if s.clamp.reflClear + 1 < 100 then
      s.setClamp { s.clamp with reflSet := 0, reflClear := s.clamp.reflClear + 1 }
    else guardCausesBecome (s.clamp.causes &&& 0xFE) (s.setClamp { s.clamp with reflSet := 0, reflClear := 0 }) := by
  have hyes : causeSet s .reflect = true := (causeSet_reflect_iff s).mpr hset
  simp only [reflectStep, hon, hyes, clearGuardCause_eq, Bool.not_true, Bool.false_eq_true, if_false, if_true]
  rfl

/-- The REFLECT step moves the reflect runs and REFLECT only. -/
theorem reflectStep_clamp (s : State) : (reflectStep s).clamp = { s.clamp with
    reflSet := (reflectStep s).clamp.reflSet
    reflClear := (reflectStep s).clamp.reflClear
    causes := (reflectStep s).clamp.causes }
    ∧ (reflectStep s).clamp.causes &&& 0x20 = s.clamp.causes &&& 0x20 := by
  cases hon : s.guard.on with
  | false => rw [reflectStep_off hon]; exact ⟨rfl, rfl⟩
  | true =>
    by_cases hcause : s.clamp.causes &&& 0x01 = 0
    · rw [reflectStep_clear hon hcause]
      split
      · exact ⟨rfl, rfl⟩
      split
      · exact ⟨rfl, rfl⟩
      · rw [guardCausesBecome_clamp]
        exact ⟨rfl, or_causeMask_and (c := .reflect) (e := .stuck) (by decide) _⟩
    · rw [reflectStep_set hon hcause]
      split
      · exact ⟨rfl, rfl⟩
      split
      · exact ⟨rfl, rfl⟩
      · rw [guardCausesBecome_clamp]
        exact ⟨rfl, and_not_causeMask_and (c := .reflect) (e := .stuck) (by decide) _⟩

/-! ### The runs at a key sample (R145, R147, R149) -/

/-- The settle moves the state seen and the settle run only. -/
theorem settleStep_clamp (s : State) : (settleStep s).clamp = { s.clamp with
    seen := (settleStep s).clamp.seen, settleRun := (settleStep s).clamp.settleRun } := by
  have hput (x : ClampSeen) (n : Nat) :
      (putSeen x n s).clamp = { s.clamp with seen := (putSeen x n s).clamp.seen, settleRun := (putSeen x n s).clamp.settleRun } := by
    unfold putSeen
    split <;> rfl
  cases h : s.bus.sampNow.clampl with
  | true => rw [settleStep_asserted h]; exact hput _ _
  | false => rw [settleStep_negated h]; exact hput _ _

section
variable (x : Lines) (s : State)

/-- The state in which a key sample finds the supervision runs. -/
theorem sampleSettled_spec : (sampleSettled x s).setup = s.setup ∧ (sampleSettled x s).member = s.member
    ∧ (sampleSettled x s).guard = s.guard ∧ (sampleSettled x s).bus.sampNow = x
    ∧ (sampleSettled x s).clamp = { s.clamp with
      seen := (sampleSettled x s).clamp.seen, settleRun := (sampleSettled x s).clamp.settleRun } := by
  have hclamp := settleStep_clamp (clampedSample (keepSample x s))
  rw [clampedSample_clamp] at hclamp
  refine ⟨by simp [sampleSettled], by simp [sampleSettled], by simp [sampleSettled], ?_, hclamp⟩
  have hbus : (sampleSettled x s).bus = (clampedSample (keepSample x s)).bus := by simp [sampleSettled]
  rw [hbus, (clampedSample_samples _).1]
  rfl

/-- The state in which a key sample finds the reflect runs. -/
def sampleWatched : State := noRfStep (stuckStep (sampleSettled x s))

theorem keySampleWork_eq : keySampleWork x s = reflectStep (sampleWatched x s) := rfl

theorem keySampleWork_stuckRun :
    (keySampleWork x s).clamp.stuckRun = (stuckStep (sampleSettled x s)).clamp.stuckRun
    ∧ (keySampleWork x s).clamp.causes &&& 0x20 = (stuckStep (sampleSettled x s)).clamp.causes &&& 0x20 := by
  obtain ⟨hreflect, hstuck⟩ := reflectStep_clamp (sampleWatched x s)
  have hnorf : (sampleWatched x s).clamp = _ := noRfStep_clamp (stuckStep (sampleSettled x s))
  rw [keySampleWork_eq]
  constructor
  · rw [hreflect, hnorf]
  · rw [hstuck, hnorf]

theorem keySampleWork_noRfRun : (keySampleWork x s).clamp.noRfRun = (sampleWatched x s).clamp.noRfRun
    ∧ (siteFlagSet (sampleWatched x s) .noRf → siteFlagSet (keySampleWork x s) .noRf) := by
  rw [keySampleWork_eq]
  exact ⟨by rw [(reflectStep_clamp _).1], (seenKept_reflectStep _).siteFlags .noRf⟩

/-- R145 at a key sample, rf_sense set. -/
theorem keySampleWork_stuck (h : s.setup.rfSense = true) :
    (s.member.join = .member → x.rfon = true → x.keyl = false →
      (keySampleWork x s).clamp.stuckRun = min (s.clamp.stuckRun + 1) 20
      ∧ (s.clamp.stuckRun = 19 → (keySampleWork x s).clamp.causes &&& 0x20 ≠ 0))
    ∧ (s.member.join ≠ .member ∨ x.rfon = false ∨ x.keyl = true → (keySampleWork x s).clamp.stuckRun = 0) := by
  obtain ⟨hsetup, hmember, -, hlines, hclamp⟩ := sampleSettled_spec x s
  obtain ⟨hrun, hcause⟩ := keySampleWork_stuckRun x s
  have hcounts := stuckCounts_iff (sampleSettled x s)
  have hstood : (sampleSettled x s).clamp.stuckRun = s.clamp.stuckRun := by rw [hclamp]
  rw [hmember, hlines] at hcounts
  rw [hrun, hcause]
  rw [← hsetup] at h
  refine ⟨fun hm hrf hkey => ?_, fun hno => ?_⟩
  · have hc := hcounts.mpr ⟨hm, hrf, hkey⟩
    by_cases h19 : s.clamp.stuckRun = 19
    · rw [stuckStep_sets h hc (hstood.trans h19), causesBecome_clamp, h19]
      exact ⟨rfl, fun _ => or_and_self_ne_zero (by decide)⟩
    · rw [stuckStep_counts h hc (by rwa [hstood]), ← hstood]
      exact ⟨rfl, fun he => absurd (hstood.symm.trans he) h19⟩
  · rw [stuckStep_rests h]
    · rfl
    · rw [hcounts]
      rintro ⟨hm, hrf, hkey⟩
      simp [hm, hrf, hkey] at hno

/-- R147 at a key sample, rf_sense set. -/
theorem keySampleWork_noRf (h : s.setup.rfSense = true) :
    (x.keyl = true → x.clampl = false → x.rfon = false →
      (keySampleWork x s).clamp.noRfRun = min (s.clamp.noRfRun + 1) (s.setup.lead + 50)
      ∧ (s.clamp.noRfRun + 1 = s.setup.lead + 50 → siteFlagSet (keySampleWork x s) .noRf))
    ∧ (x.clampl = true ∨ x.rfon = true ∨ x.keyl = false → (keySampleWork x s).clamp.noRfRun = 0) := by
  obtain ⟨hsetup, -, -, hlines, hclamp⟩ := sampleSettled_spec x s
  obtain ⟨hrun, hflag⟩ := keySampleWork_noRfRun x s
  have hsetup' : (stuckStep (sampleSettled x s)).setup = s.setup := by simp [hsetup]
  have hstood : (stuckStep (sampleSettled x s)).clamp.noRfRun = s.clamp.noRfRun := by
    rw [(stuckStep_clamp _).1, hclamp]
  have hcounts := noRfCounts_iff (stuckStep (sampleSettled x s))
  have hlines' : (stuckStep (sampleSettled x s)).bus.sampNow = x := by simp [hlines]
  rw [hlines'] at hcounts
  rw [← hsetup'] at h
  rw [hrun]
  refine ⟨fun hkey hcl hrf => ?_, fun hno => ?_⟩
  · have hc := hcounts.mpr ⟨hkey, hcl, hrf⟩
    by_cases hlast : s.clamp.noRfRun + 1 = s.setup.lead + 50
    · have hraised := noRfStep_raises h hc (by rwa [hstood, hsetup'])
      refine ⟨?_, fun _ => hflag ?_⟩
      · rw [sampleWatched, hraised, hlast, hsetup', min_self]
        rfl
      · rw [sampleWatched, hraised]
        exact siteFlagSet_raiseSite .noRf _
    · rw [sampleWatched, noRfStep_counts h hc (by rwa [hstood, hsetup']), hstood, hsetup']
      exact ⟨rfl, fun he => absurd he hlast⟩
  · rw [sampleWatched, noRfStep_rests h]
    · rfl
    · rw [hcounts]
      rintro ⟨hkey, hcl, hrf⟩
      simp [hkey, hcl, hrf] at hno

theorem keySampleWork_unsensed (h : s.setup.rfSense = false) :
    (keySampleWork x s).clamp.stuckRun = s.clamp.stuckRun ∧ (keySampleWork x s).clamp.noRfRun = s.clamp.noRfRun := by
  obtain ⟨hsetup, -, -, -, hclamp⟩ := sampleSettled_spec x s
  rw [← hsetup] at h
  rw [(keySampleWork_stuckRun x s).1, (keySampleWork_noRfRun x s).1, sampleWatched, stuckStep_unsensed h,
    noRfStep_unsensed h, hclamp]
  exact ⟨rfl, rfl⟩

/-- The stuck and the no-RF run leave what the REFLECT step reads. -/
theorem sampleWatched_spec : (sampleWatched x s).guard = s.guard ∧ (sampleWatched x s).bus.sampNow = x
    ∧ (sampleWatched x s).clamp.reflSet = s.clamp.reflSet ∧ (sampleWatched x s).clamp.reflClear = s.clamp.reflClear
    ∧ (sampleWatched x s).clamp.causes &&& 0x01 = s.clamp.causes &&& 0x01 := by
  obtain ⟨-, -, hguard, hlines, hclamp⟩ := sampleSettled_spec x s
  obtain ⟨hstuck, hcause⟩ := stuckStep_clamp (sampleSettled x s)
  have hnorf : (sampleWatched x s).clamp = _ := noRfStep_clamp (stuckStep (sampleSettled x s))
  refine ⟨by simp [sampleWatched, hguard], by simp [sampleWatched, hlines], ?_, ?_, ?_⟩
  · rw [hnorf, hstuck, hclamp]
  · rw [hnorf, hstuck, hclamp]
  · rw [hnorf, hcause, hclamp]

theorem keySampleWork_reflect_off (h : s.guard.on = false) :
    (keySampleWork x s).clamp.reflSet = s.clamp.reflSet
    ∧ (keySampleWork x s).clamp.reflClear = s.clamp.reflClear := by
  obtain ⟨hguard, -, hreflSet, hreflClear, -⟩ := sampleWatched_spec x s
  rw [keySampleWork_eq, reflectStep_off (by rwa [hguard])]
  exact ⟨hreflSet, hreflClear⟩

/-- R149 at a key sample, guard-on set and REFLECT clear. -/
theorem keySampleWork_reflect_clear (hon : s.guard.on = true) (hclear : s.clamp.causes &&& 0x01 = 0) :
    (x.refl = false → (keySampleWork x s).clamp.reflSet = 0 ∧ (keySampleWork x s).clamp.causes &&& 0x01 = 0)
    ∧ (x.refl = true → s.clamp.reflSet = 0 →
      (keySampleWork x s).clamp.reflSet = 1 ∧ (keySampleWork x s).clamp.causes &&& 0x01 = 0)
    ∧ (x.refl = true → s.clamp.reflSet = 1 →
      (keySampleWork x s).clamp.causes &&& 0x01 ≠ 0 ∧ (keySampleWork x s).clamp.reflSet = 0
      ∧ siteFlagSet (keySampleWork x s) .guard ∧ siteFlagSet (keySampleWork x s) .clampChange) := by
  obtain ⟨hguard, hlines, hreflSet, -, hcause⟩ := sampleWatched_spec x s
  have hclear' := hcause.trans hclear
  rw [keySampleWork_eq, reflectStep_clear (by rwa [hguard]) hclear', hlines, hreflSet]
  refine ⟨fun hr => ?_, fun hr hrun => ?_, fun hr hrun => ?_⟩
  · rw [if_pos hr]
    exact ⟨rfl, hclear'⟩
  · rw [if_neg (by simp [hr]), hrun, if_pos (by decide)]
    exact ⟨rfl, hclear'⟩
  · have hchange : (sampleWatched x s).clamp.causes ||| 0x01 ≠ (sampleWatched x s).clamp.causes :=
      fun he => (or_causeMask_eq .reflect _).mp he hclear'
    rw [if_neg (by simp [hr]), hrun, if_neg (by decide), guardCausesBecome_clamp]
    exact ⟨or_and_self_ne_zero (by decide), rfl, siteFlagSet_guardCausesBecome (s := State.setClamp _ _) hchange⟩

/-- R149 at a key sample, guard-on and REFLECT set. -/
theorem keySampleWork_reflect_set (hon : s.guard.on = true) (hset : s.clamp.causes &&& 0x01 ≠ 0) :
    (x.refl = true → (keySampleWork x s).clamp.reflClear = 0 ∧ (keySampleWork x s).clamp.causes &&& 0x01 ≠ 0)
    ∧ (x.refl = false → s.clamp.reflClear < 99 →
      (keySampleWork x s).clamp.reflClear = s.clamp.reflClear + 1
      ∧ (keySampleWork x s).clamp.causes &&& 0x01 ≠ 0)
    ∧ (x.refl = false → 99 ≤ s.clamp.reflClear →
      (keySampleWork x s).clamp.causes &&& 0x01 = 0 ∧ (keySampleWork x s).clamp.reflClear = 0
      ∧ siteFlagSet (keySampleWork x s) .guard ∧ siteFlagSet (keySampleWork x s) .clampChange) := by
  obtain ⟨hguard, hlines, -, hreflClear, hcause⟩ := sampleWatched_spec x s
  have hset' : (sampleWatched x s).clamp.causes &&& 0x01 ≠ 0 := by rwa [hcause]
  rw [keySampleWork_eq, reflectStep_set (by rwa [hguard]) hset', hlines, hreflClear]
  refine ⟨fun hr => ?_, fun hr hrun => ?_, fun hr hrun => ?_⟩
  · rw [if_pos hr]
    exact ⟨rfl, hset'⟩
  · rw [if_neg (by simp [hr]), if_pos (by omega)]
    exact ⟨rfl, hset'⟩
  · have hchange : (sampleWatched x s).clamp.causes &&& 0xFE ≠ (sampleWatched x s).clamp.causes :=
      fun he => hset' ((and_not_causeMask_eq .reflect _).mp he)
    rw [if_neg (by simp [hr]), if_neg (by omega), guardCausesBecome_clamp]
    refine ⟨?_, rfl, siteFlagSet_guardCausesBecome (s := State.setClamp _ _) hchange⟩
    exact (BitVec.and_assoc ..).trans BitVec.and_zero

end

/-- R1, R15: KEYL is sampled asserted where it is driven from outside or by the part. -/
theorem linesSeen_keyl_iff (s : State) (keyl clampl rfon refl : Bool) :
    ((linesSeen s keyl clampl rfon refl).keyl = true ↔ keyl = true ∨ s.bus.keylDrive = true)
    ∧ ((linesSeen s keyl clampl rfon refl).keyl = false ↔ keyl = false ∧ s.bus.keylDrive = false) := by
  simp [linesSeen]

theorem linesSeen_clampl_iff (s : State) (keyl clampl rfon refl : Bool) :
    ((linesSeen s keyl clampl rfon refl).clampl = true ↔ clampl = true ∨ s.clamp.causes ≠ 0)
    ∧ ((linesSeen s keyl clampl rfon refl).clampl = false ↔ clampl = false ∧ s.clamp.causes = 0) := by
  rw [linesSeen_clampl]
  simp

/-- Settles O37: the three runs of a key sample, each as its own lemma says for the lines that are seen. -/
theorem keySampleRuns : Obligations.KeySampleRuns := by
  intro s keyl clampl rfon refl hruns
  obtain ⟨hkeyed, hunkeyed⟩ := linesSeen_keyl_iff s keyl clampl rfon refl
  obtain ⟨hclamped, hunclamped⟩ := linesSeen_clampl_iff s keyl clampl rfon refl
  have hrfon : (linesSeen s keyl clampl rfon refl).rfon = rfon := rfl
  have hrefl : (linesSeen s keyl clampl rfon refl).refl = refl := rfl
  refine ⟨_, exec_keySample_of_runs hruns keyl clampl rfon refl, ?_⟩
  generalize linesSeen s keyl clampl rfon refl = x at *
  subst hrfon hrefl
  refine ⟨keySampleWork_unsensed x s, fun hsense => ?_, keySampleWork_reflect_off x s,
    keySampleWork_reflect_clear x s, keySampleWork_reflect_set x s⟩
  obtain ⟨hstuck, hstuck0⟩ := keySampleWork_stuck x s hsense
  obtain ⟨hnorf, hnorf0⟩ := keySampleWork_noRf x s hsense
  refine ⟨fun hm hrf hkey hdrive => hstuck hm hrf (hunkeyed.mpr ⟨hkey, hdrive⟩), fun hno => hstuck0 ?_,
    fun hkey hcl hcauses => hnorf (hkeyed.mpr hkey) (hunclamped.mpr ⟨hcl, hcauses⟩), fun hno => hnorf0 ?_⟩
  · rwa [hkeyed]
  · rwa [hclamped, hunkeyed, or_assoc]

end Sys2Proof

namespace Sys2Proof
open Machine

/-! ## The rows of the clamp unit's limits (R139, R143, R145 to R147, R149) -/

/-! ### The orphan run (R143) -/

theorem orphanCounts_iff (s : State) : orphanCounts s = true ↔
    s.member.join = .member ∧ joinedStale s = false ∧ s.bus.sampNow.keyl = true
    ∧ (∀ k d, ¬ holdsFloor s.claims.snap.recs k d) ∧ identOnBus s = false := by
  have hfree : hasHolding s.claims.snap.recs = false ↔ ∀ k d, ¬ holdsFloor s.claims.snap.recs k d := by
    rw [← Bool.not_eq_true, hasHolding_iff]
    push Not
    rfl
  simp [orphanCounts, hfree, and_assoc]

theorem orphanStep_stale {s : State} (hm : s.member.join = .member) (h : joinedStale s = true) : orphanStep s = s := by
  rw [orphanStep, if_neg (not_not.mpr hm), if_pos h]

theorem orphanStep_rests {s : State} (hm : s.member.join = .member) (h : joinedStale s = false)
    (hno : ¬ orphanCounts s = true) : orphanStep s = s.setClamp { s.clamp with orphanRun := 0 } := by
  rw [orphanStep, if_neg (not_not.mpr hm), if_neg (by rw [h]; exact Bool.false_ne_true), if_neg hno]

section
variable {s : State} (h : orphanCounts s = true)
include h

theorem orphanStep_counts (hrun : s.clamp.orphanRun + 1 ≠ s.setup.tail + 8) : orphanStep s =
    s.setClamp { s.clamp with orphanRun := min (s.clamp.orphanRun + 1) (s.setup.tail + 8) } := by
  obtain ⟨hm, hstale, -⟩ := (orphanCounts_iff s).mp h
  have hreach : ¬ reaches s.clamp.orphanRun (orphanLimit s) = true := by
    simpa [reaches, orphanLimit, Config.orphanMargin] using hrun
  rw [orphanStep, if_neg (not_not.mpr hm), if_neg (by rw [hstale]; exact Bool.false_ne_true), if_pos h]
  exact if_neg hreach

/-- R143: the last frame of the run sets ORPHAN. -/
theorem orphanStep_sets (hrun : s.clamp.orphanRun + 1 = s.setup.tail + 8) : orphanStep s =
    causesBecome (s.clamp.causes ||| 0x40) (s.setClamp { s.clamp with orphanRun := s.setup.tail + 8 }) := by
  obtain ⟨hm, hstale, -⟩ := (orphanCounts_iff s).mp h
  have hreach : reaches s.clamp.orphanRun (orphanLimit s) = true := by
    simpa [reaches, orphanLimit, Config.orphanMargin] using hrun
  have hcap : capAdd s.clamp.orphanRun 1 (orphanLimit s) = s.setup.tail + 8 := by
    rw [capAdd, hrun]
    exact min_self _
  rw [orphanStep, if_neg (not_not.mpr hm), if_neg (by rw [hstale]; exact Bool.false_ne_true), if_pos h, hcap]
  exact if_pos hreach

end

/-! ### The orphan run at a snapshot complete (R143) -/

/-- The state in which a snapshot complete finds the orphan run. -/
def orphanStart (identFirst : Bool) (s : State) : State :=
  if identFirst then floorDecisions false (identWork (expireWaits (digestedState s)))
  else identWork (floorDecisions false (expireWaits (digestedState s)))

theorem orphanStart_identFirst (s : State) :
    orphanStart true s = floorDecisions false (identWork (expireWaits (digestedState s))) :=
  if_pos rfl

theorem orphanStart_identLast (s : State) :
    orphanStart false s = identWork (floorDecisions false (expireWaits (digestedState s))) :=
  if_neg Bool.false_ne_true

theorem decided_orphanStep (b : Bool) (s : State) :
    decidedState b (digestedState s) = orphanStep (orphanStart b s) := by
  cases b with
  | false => rw [orphanStart_identLast, decided_identLast]
  | true => rw [orphanStart_identFirst, decided_identFirst]

theorem SiteAlike.trans {s t u : State} (h : SiteAlike s t) (k : SiteAlike t u) : SiteAlike s u where
  setup := k.setup.trans h.setup
  sync := k.sync.trans h.sync
  member := k.member.trans h.member
  pool := k.pool.trans h.pool
  judge := k.judge.trans h.judge
  headers := k.headers.trans h.headers
  ownSlot := k.ownSlot.trans h.ownSlot
  sampNow := k.sampNow.trans h.sampNow

theorem siteAlike_identWork (s : State) : SiteAlike s (identWork s) := by constructor <;> simp

theorem siteAlike_orphanStart (b : Bool) (s : State) : SiteAlike s (orphanStart b s) := by
  have hwork := (identSpared_identStart b s).toSiteAlike.trans (siteAlike_identWork (identStart b s))
  cases b with
  | false =>
    rw [orphanStart_identLast, ← identStart_identLast]
    exact hwork
  | true =>
    rw [orphanStart_identFirst, ← identStart_identFirst]
    exact hwork.trans (identSpared_floorDecisions false _).toSiteAlike

theorem orphanStart_snap (b : Bool) (s : State) :
    (orphanStart b s).claims.snap = (decidedState b (digestedState s)).claims.snap := by
  rw [decided_orphanStep]
  simp

/-- The enforcement of TOT touches neither the orphan run nor ORPHAN. -/
theorem orphan_enforceTot (fenceNow : Bool) (s : State) :
    (enforceTot fenceNow s).clamp.orphanRun = s.clamp.orphanRun
    ∧ (enforceTot fenceNow s).clamp.causes &&& 0x40 = s.clamp.causes &&& 0x40 := by
  unfold enforceTot
  split
  · rw [setCause_eq, causesBecome_clamp]
    exact ⟨rfl, or_causeMask_and (c := .totenf) (e := .orphan) (by decide) _⟩
  · exact ⟨rfl, rfl⟩

theorem orphan_floorDecisions (fenceNow : Bool) (s : State) :
    (floorDecisions fenceNow s).clamp.orphanRun = s.clamp.orphanRun
    ∧ (floorDecisions fenceNow s).clamp.causes &&& 0x40 = s.clamp.causes &&& 0x40 := by
  have hclamp : (floorDecisions fenceNow s).clamp = (enforceTot fenceNow (applyTimeLimit (setVerdict s))).clamp := by
    simp [floorDecisions]
  rw [hclamp, (orphan_enforceTot _ _).1, (orphan_enforceTot _ _).2]
  simp

theorem orphan_orphanStart (b : Bool) (s : State) : (orphanStart b s).clamp.orphanRun = s.clamp.orphanRun
    ∧ (orphanStart b s).clamp.causes &&& 0x40 = s.clamp.causes &&& 0x40 := by
  have hdigested : (expireWaits (digestedState s)).clamp = s.clamp := by
    simp [digestedState, formedState, testedState]
  have hwork (t : State) : (identWork t).clamp = t.clamp := by simp
  obtain ⟨hrun, hcause⟩ := orphan_floorDecisions false (identWork (expireWaits (digestedState s)))
  obtain ⟨hrun', hcause'⟩ := orphan_floorDecisions false (expireWaits (digestedState s))
  cases b with
  | false =>
    rw [orphanStart_identLast, hwork, hrun', hcause', hdigested]
    exact ⟨rfl, rfl⟩
  | true =>
    rw [orphanStart_identFirst, hrun, hcause, hwork, hdigested]
    exact ⟨rfl, rfl⟩

section
variable (b : Bool) (s : State)

/-- R143: when the run counts, on the snapshot that is left. -/
theorem orphanCounts_orphanStart_iff : orphanCounts (orphanStart b s) = true ↔
    s.member.join = .member ∧ joinedStale s = false ∧ s.bus.sampNow.keyl = true
    ∧ (∀ k d, ¬ holdsFloor (decidedState b (digestedState s)).claims.snap.recs k d) ∧ identOnBus s = false := by
  have hsite := siteAlike_orphanStart b s
  rw [orphanCounts_iff, hsite.member, hsite.joinedStale_eq, hsite.sampNow, hsite.identOnBus_eq, orphanStart_snap]

/-- R143: the orphan run after a snapshot complete, line by line. -/
theorem decided_orphanRun :
    (s.member.join ≠ .member → (decidedState b (digestedState s)).clamp.orphanRun = 0)
    ∧ (s.member.join = .member → joinedStale s = true →
      (decidedState b (digestedState s)).clamp.orphanRun = s.clamp.orphanRun)
    ∧ (s.member.join = .member → joinedStale s = false →
      s.bus.sampNow.keyl = false ∨ (∃ k d, holdsFloor (decidedState b (digestedState s)).claims.snap.recs k d)
        ∨ identOnBus s = true →
      (decidedState b (digestedState s)).clamp.orphanRun = 0) := by
  have hsite := siteAlike_orphanStart b s
  have hcounts := orphanCounts_orphanStart_iff b s
  obtain ⟨hrun, -⟩ := orphan_orphanStart b s
  refine ⟨fun hm => ?_, fun hm hstale => ?_, fun hm hstale hbusy => ?_⟩
  · rw [decided_orphanStep, orphanStep_of_not_member (by rwa [hsite.member])]
    rfl
  · rw [decided_orphanStep, orphanStep_stale (by rwa [hsite.member]) (by rwa [hsite.joinedStale_eq]), hrun]
  · have hno : ¬ orphanCounts (orphanStart b s) = true := by
      rw [hcounts]
      rintro ⟨-, -, hkey, hfree, hquiet⟩
      rcases hbusy with h | ⟨k, d, h⟩ | h
      · rw [h] at hkey; cases hkey
      · exact hfree k d h
      · rw [h] at hquiet; cases hquiet
    rw [decided_orphanStep, orphanStep_rests (by rwa [hsite.member]) (by rwa [hsite.joinedStale_eq]) hno]
    rfl

/-- R143: a key that nobody owns is counted, and sets ORPHAN at the end of the run. -/
theorem decided_orphan_counts (hm : s.member.join = .member) (hstale : joinedStale s = false)
    (hkey : s.bus.sampNow.keyl = true)
    (hfree : ∀ k d, ¬ holdsFloor (decidedState b (digestedState s)).claims.snap.recs k d)
    (hquiet : identOnBus s = false) :
    (decidedState b (digestedState s)).clamp.orphanRun = min (s.clamp.orphanRun + 1) (s.setup.tail + 8)
    ∧ (s.clamp.orphanRun + 1 = s.setup.tail + 8 → (decidedState b (digestedState s)).clamp.causes &&& 0x40 ≠ 0
      ∧ (s.clamp.causes &&& 0x40 = 0 → siteFlagSet (decidedState b (digestedState s)) .clampChange)) := by
  have hc := (orphanCounts_orphanStart_iff b s).mpr ⟨hm, hstale, hkey, hfree, hquiet⟩
  have hsetup := (siteAlike_orphanStart b s).setup
  obtain ⟨hrun, hcause⟩ := orphan_orphanStart b s
  rw [decided_orphanStep]
  by_cases hlast : s.clamp.orphanRun + 1 = s.setup.tail + 8
  · rw [orphanStep_sets hc (by rw [hrun, hsetup, hlast]), causesBecome_clamp, hlast, hsetup, min_self]
    refine ⟨rfl, fun _ => ⟨or_and_self_ne_zero (by decide), fun hclear => ?_⟩⟩
    have hchange : (orphanStart b s).clamp.causes ||| 0x40 ≠ (orphanStart b s).clamp.causes :=
      fun he => (or_causeMask_eq .orphan _).mp he (hcause.trans hclear)
    exact siteFlagSet_causesBecome (s := State.setClamp _ _) hchange
  · rw [orphanStep_counts hc (by rwa [hrun, hsetup]), hrun, hsetup]
    exact ⟨rfl, fun he => absurd he hlast⟩

end

/-! ### The rows -/

theorem exec_orphan {s : State} (hp : pointsRun s = true) (hc : orphanCounts s = true)
    (hrun : s.clamp.orphanRun + 1 = s.setup.tail + 8) : exec .orphan s = .next
      (causesBecome (s.clamp.causes ||| 0x40) (s.setClamp { s.clamp with orphanRun := s.setup.tail + 8 })) := by
  have hruns : orphanReaches s = true := by
    simp [orphanReaches, hp, hc, reaches, hrun, orphanLimit, Config.orphanMargin]
  rw [exec_of_runs (i := .orphan) rfl hruns, orphanStep_sets hc hrun]

/-- R146: the twentieth field sets PROGRAM. -/
theorem programStep_sets {s : State} (h : programCounts s = true) (hrun : s.clamp.progRun = 19) : programStep s =
    causesBecome (s.clamp.causes ||| 0x08) (s.setClamp { s.clamp with progRun := 20 }) := by
  rw [programStep, if_pos h, hrun]
  rfl

theorem exec_programRunLimit {s : State} (hp : pointsRun s = true) (hc : programCounts s = true)
    (hrun : s.clamp.progRun = 19) : exec .programRunLimit s = .next
      (causesBecome (s.clamp.causes ||| 0x08) (s.setClamp { s.clamp with progRun := 20 })) := by
  have hruns : programReaches s = true := by simp [programReaches, hp, hc, reaches, hrun, Config.watchLimit]
  rw [exec_of_runs (i := .programRunLimit) rfl hruns, programStep_sets hc hrun]

section
variable {s : State} (hs : sampleRuns s = true)
include hs

theorem exec_stuck (hsense : s.setup.rfSense = true) (hc : stuckCounts s = true) (hrun : s.clamp.stuckRun = 19) :
    exec .stuck s = .next
      (causesBecome (s.clamp.causes ||| 0x20) (s.setClamp { s.clamp with stuckRun := 20 })) := by
  have hruns : stuckReaches s = true := by simp [stuckReaches, hs, hsense, hc, reaches, hrun, Config.watchLimit]
  rw [exec_of_runs (i := .stuck) rfl hruns, stuckStep_sets hsense hc hrun]

theorem exec_noRf (hsense : s.setup.rfSense = true) (hc : noRfCounts s = true)
    (hrun : s.clamp.noRfRun + 1 = s.setup.lead + 50) : exec .noRf s = .next
      (raiseSite .noRf (s.setClamp { s.clamp with noRfRun := s.setup.lead + 50 })) := by
  have hruns : noRfReaches s = true := by
    simp [noRfReaches, hs, hsense, hc, reaches, hrun, noRfLimit, Config.noRfMargin]
  rw [exec_of_runs (i := .noRf) rfl hruns, noRfStep_raises hsense hc hrun]

/-- R139: the tenth sample settles the clamp. -/
theorem exec_settleComplete (hcl : s.bus.sampNow.clampl = false) (hseen : s.clamp.seen = .settling)
    (hrun : s.clamp.settleRun = 9) : exec .settleComplete s = .next
      (raiseSite .clampChange (s.setClamp { s.clamp with seen := .clear, settleRun := 10 })) := by
  have hruns : settleReaches s = true := by
    simp [settleReaches, hs, hcl, hseen, reaches, hrun, Config.settleSamples]
  have hnext : settleNext s.clamp.seen s.clamp.settleRun = (.clear, 10) := by rw [hseen, hrun]; rfl
  rw [exec_of_runs (i := .settleComplete) rfl hruns, settleStep_negated hcl, hnext, putSeen,
    if_neg (by rw [hseen]; decide)]

theorem exec_reflectSet (hon : s.guard.on = true) (hclear : s.clamp.causes &&& 0x01 = 0)
    (hrefl : s.bus.sampNow.refl = true) (hrun : s.clamp.reflSet = 1) : exec .reflectSet s = .next
      (guardCausesBecome (s.clamp.causes ||| 0x01) (s.setClamp { s.clamp with reflSet := 0, reflClear := 0 })) := by
  have hno : causeSet s .reflect = false := by
    rw [← Bool.not_eq_true, causeSet_reflect_iff]
    exact not_not.mpr hclear
  have hruns : reflectSets s = true := by simp [reflectSets, hs, hon, hno, hrefl, reaches, hrun]
  rw [exec_of_runs (i := .reflectSet) rfl hruns, reflectStep_clear hon hclear, if_neg (by simp [hrefl]),
    if_neg (by omega)]

theorem exec_reflectClear (hon : s.guard.on = true) (hset : s.clamp.causes &&& 0x01 ≠ 0)
    (hrefl : s.bus.sampNow.refl = false) (hrun : s.clamp.reflClear = 99) : exec .reflectClear s = .next
      (guardCausesBecome (s.clamp.causes &&& 0xFE) (s.setClamp { s.clamp with reflSet := 0, reflClear := 0 })) := by
  have hyes : causeSet s .reflect = true := (causeSet_reflect_iff s).mpr hset
  have hruns : reflectClears s = true := by simp [reflectClears, hs, hon, hyes, hrefl, reaches, hrun]
  rw [exec_of_runs (i := .reflectClear) rfl hruns, reflectStep_set hon hset, if_neg (by simp [hrefl]),
    if_neg (by omega)]

end

/-- Settles O54: each row by the lemma about that row; the orphan run at a snapshot complete by `decided_orphanRun` and
`decided_orphan_counts`. -/
theorem supervisionLimitsAct : Obligations.SupervisionLimitsAct := by
  intro s
  refine ⟨fun hp hm hkey => ⟨fun hstale hfree hquiet hrun => ?_, fun hres hrun => ?_⟩, fun hp hnf o b => ?_,
    fun hs hsense => ⟨fun hm hrf hkey hrun => ?_, fun hkey hcl hrf hrun => ?_⟩,
    fun hs hcl hseen hrun => exec_settleComplete hs hcl hseen hrun,
    fun hs hon => ⟨exec_reflectSet hs hon, exec_reflectClear hs hon⟩⟩
  · exact exec_orphan hp ((orphanCounts_iff s).mpr ⟨hm, hstale, hkey, hfree, hquiet⟩) hrun
  · exact exec_programRunLimit hp ((programCounts_iff s).mpr ⟨hres, hm, hkey⟩) hrun
  · obtain ⟨hout, hkept, hrests⟩ := decided_orphanRun b s
    exact ⟨_, exec_snapshotComplete hp hnf o b, hout, hkept,
      fun hm hstale => ⟨hrests hm hstale, decided_orphan_counts b s hm hstale⟩⟩
  · exact exec_stuck hs hsense ((stuckCounts_iff s).mpr ⟨hm, hrf, hkey⟩) hrun
  · exact exec_noRf hs hsense ((noRfCounts_iff s).mpr ⟨hkey, hcl, hrf⟩) hrun

end Sys2Proof

namespace Sys2Proof
open Machine

/-! ## The laws of the history ring, the identification, the settle and the due flag (R157, R123, R139)

Each law reads one unit, and the due flag's also the interval and the mark of the close. A command is made of work that leaves
what the laws read (`UnitsKept`) and of the few actions on the units, each of which carries every law over (`LawsCarried`). -/

/-! ### What the laws read -/

/-- From s to t all that the four laws read stands. -/
structure UnitsKept (s t : State) : Prop where
  ring : t.history.ring = s.history.ring
  phase : t.ident.phase = s.ident.phase
  kind : t.ident.kind = s.ident.kind
  a : t.ident.a = s.ident.a
  due : t.ident.due = s.ident.due
  seen : t.clamp.seen = s.clamp.seen
  settleRun : t.clamp.settleRun = s.clamp.settleRun
  idInterval : t.setup.idInterval = s.setup.idInterval
  closed : t.setup.closed = s.setup.closed

theorem UnitsKept.refl (s : State) : UnitsKept s s := ⟨rfl, rfl, rfl, rfl, rfl, rfl, rfl, rfl, rfl⟩

theorem UnitsKept.trans {s t u : State} (h : UnitsKept s t) (k : UnitsKept t u) : UnitsKept s u where
  ring := k.ring.trans h.ring
  phase := k.phase.trans h.phase
  kind := k.kind.trans h.kind
  a := k.a.trans h.a
  due := k.due.trans h.due
  seen := k.seen.trans h.seen
  settleRun := k.settleRun.trans h.settleRun
  idInterval := k.idInterval.trans h.idInterval
  closed := k.closed.trans h.closed

/-- What leaves the history, the setup store, the identification unit, the state seen and the settle run. -/
theorem UnitsKept.of_seen {s t : State} (hh : t.history = s.history) (hs : t.setup = s.setup) (hi : t.ident = s.ident)
    (hseen : t.clamp.seen = s.clamp.seen) (hrun : t.clamp.settleRun = s.clamp.settleRun) : UnitsKept s t :=
  ⟨by rw [hh], by rw [hi], by rw [hi], by rw [hi], by rw [hi], hseen, hrun, by rw [hs], by rw [hs]⟩

/-- What leaves the four blocks whole. -/
theorem UnitsKept.of_blocks {s t : State} (hh : t.history = s.history) (hs : t.setup = s.setup) (hi : t.ident = s.ident)
    (hc : t.clamp = s.clamp) : UnitsKept s t :=
  .of_seen hh hs hi (by rw [hc]) (by rw [hc])

/-- Supervision and guard work, of which the clamp unit keeps what it has seen. -/
theorem SeenKept.unitsKept {s t : State} (k : SeenKept s t) (hh : t.history = s.history) (hs : t.setup = s.setup)
    (hi : t.ident = s.ident) : UnitsKept s t :=
  .of_seen hh hs hi k.seen k.settleRun

theorem unitsKept_ite {s t : State} (c : Prop) [Decidable c] (h : UnitsKept s t) : UnitsKept s (if c then t else s) := by
  split
  · exact h
  · exact .refl s

/-- From s to t each of the four laws is carried over. -/
structure LawsCarried (s t : State) : Prop where
  ring : ringLaw s → ringLaw t
  ident : identLaw s → identLaw t
  settle : settleLaw s → settleLaw t
  due : dueLaw s → dueLaw t

theorem LawsCarried.refl (s : State) : LawsCarried s s := ⟨id, id, id, id⟩

theorem LawsCarried.trans {s t u : State} (h : LawsCarried s t) (k : LawsCarried t u) : LawsCarried s u :=
  ⟨k.ring ∘ h.ring, k.ident ∘ h.ident, k.settle ∘ h.settle, k.due ∘ h.due⟩

theorem identLaw_of_kept {s t : State} (hp : t.ident.phase = s.ident.phase) (hk : t.ident.kind = s.ident.kind)
    (h : identLaw s) : identLaw t := by
  rw [identLaw, hp, hk]; exact h

theorem dueLaw_of_kept {s t : State} (ha : t.ident.a = s.ident.a) (hd : t.ident.due = s.ident.due)
    (hi : t.setup.idInterval = s.setup.idInterval) (hc : t.setup.closed = s.setup.closed) (h : dueLaw s) : dueLaw t := by
  rw [dueLaw, interval, ha, hd, hi, hc]; exact h

theorem UnitsKept.carries {s t : State} (h : UnitsKept s t) : LawsCarried s t where
  ring hs := by rw [ringLaw, h.ring]; exact hs
  ident := identLaw_of_kept h.phase h.kind
  settle hs := by rw [settleLaw, h.seen, h.settleRun]; exact hs
  due := dueLaw_of_kept h.a h.due h.idInterval h.closed

/-- What leaves the four blocks whole carries the laws over. -/
theorem LawsCarried.of_blocks {s t : State} (hh : t.history = s.history) (hs : t.setup = s.setup) (hi : t.ident = s.ident)
    (hc : t.clamp = s.clamp) : LawsCarried s t :=
  (UnitsKept.of_blocks hh hs hi hc).carries

/-- Work that is followed by work of which the laws read nothing. -/
theorem LawsCarried.then_kept {s t u : State} (h : LawsCarried s t) (k : UnitsKept t u) : LawsCarried s u :=
  h.trans k.carries

/-- Work on phase and kind of the identification alone. -/
theorem lawsCarried_of_ident {s t : State} (hh : t.history = s.history) (hs : t.setup = s.setup)
    (hseen : t.clamp.seen = s.clamp.seen) (hrun : t.clamp.settleRun = s.clamp.settleRun)
    (ha : t.ident.a = s.ident.a) (hd : t.ident.due = s.ident.due) (hi : identLaw s → identLaw t) : LawsCarried s t where
  ring h := by rw [ringLaw, hh]; exact h
  ident := hi
  settle h := by rw [settleLaw, hseen, hrun]; exact h
  due := dueLaw_of_kept ha hd (by rw [hs]) (by rw [hs])

theorem lawsCarried_ite {s t : State} (c : Prop) [Decidable c] (h : LawsCarried s t) :
    LawsCarried s (if c then t else s) := by
  split
  · exact h
  · exact .refl s

/-! ### A reset -/

theorem ringLaw_resetTo (cause : ResetCause) (s : State) : ringLaw (resetTo cause s) := Nat.zero_le 8

theorem identLaw_resetTo (cause : ResetCause) (s : State) : identLaw (resetTo cause s) := iff_of_true rfl rfl

theorem settleLaw_resetTo (cause : ResetCause) (s : State) : settleLaw (resetTo cause s) :=
  ⟨⟨(nomatch ·), (nomatch ·)⟩, fun _ => rfl, Nat.zero_le 10⟩

theorem dueLaw_resetTo (cause : ResetCause) (s : State) : dueLaw (resetTo cause s) := by
  have hinterval : interval (resetTo cause s) = 600 * 1000 := rfl
  have ha : (resetTo cause s).ident.a = 0 := rfl
  have hset : (resetTo cause s).setup.idInterval = 600 := rfl
  rw [dueLaw, hinterval, ha, hset]
  exact ⟨⟨(nomatch ·), (nomatch ·)⟩, by decide, by decide, fun _ => rfl⟩

/-- Each law holds after a reset, whatever stood before. -/
theorem lawsCarried_resetTo (cause : ResetCause) (s : State) : LawsCarried s (resetTo cause s) :=
  ⟨fun _ => ringLaw_resetTo cause s, fun _ => identLaw_resetTo cause s, fun _ => settleLaw_resetTo cause s,
    fun _ => dueLaw_resetTo cause s⟩

/-- Settles O57: the state after reset is what a power-on reset makes of any state, and each law holds after every reset. -/
theorem lawsAtReset : Obligations.LawsAtReset := by
  have hreset : resetTo .powerOn State.reset = State.reset := rfl
  obtain ⟨hpool, hqueues⟩ := lawful_resetTo .powerOn State.reset
  have hrecord := floorLaw_recordLaw.reset .powerOn State.reset
  have hsite := floorLaw_siteLaw.reset .powerOn State.reset
  rw [hreset] at hpool hqueues hrecord hsite
  exact ⟨ringLaw_resetTo .powerOn State.reset, identLaw_resetTo .powerOn State.reset,
    settleLaw_resetTo .powerOn State.reset, dueLaw_resetTo .powerOn State.reset, hrecord, hsite, hpool, hqueues⟩

/-! ### The history ring (R157, R158) -/

theorem ringLaw_recordHistory (e : HistoryEntry) (s : State) : ringLaw (recordHistory e s) := List.length_take_le 8 _

theorem ringLaw_handOff (formed kept : Records) {s : State} (h : ringLaw s) : ringLaw (handOff formed kept s) :=
  List.foldlRecOn (motive := ringLaw) _ _ h fun _ _ x _ => ringLaw_recordHistory (historyEntry s formed kept x) _

theorem lawsCarried_handOff (formed kept : Records) (s : State) : LawsCarried s (handOff formed kept s) where
  ring := ringLaw_handOff formed kept
  ident := identLaw_of_kept (by simp) (by simp)
  settle h := by simpa [settleLaw] using h
  due := dueLaw_of_kept (by simp) (by simp) (by simp) (by simp)

/-! ### The settle (R139) -/

theorem settleLaw_settleNext {seen : ClampSeen} {run : Nat} {s : State} (hseen : s.clamp.seen = (settleNext seen run).1)
    (hrun : s.clamp.settleRun = (settleNext seen run).2) : settleLaw s := by
  rw [settleLaw, hseen, hrun]
  cases seen with
  | clamped | clear => simp [settleNext]
  | settling =>
    by_cases hr : run + 1 < 10
    · simp only [settleNext, if_pos hr]
      exact ⟨⟨(nomatch ·), fun h => by omega⟩, (nomatch ·), hr.le⟩
    · simp [settleNext, hr]

/-- The law of the settle holds after every sample, whatever stood before. -/
theorem settleLaw_settleStep (s : State) : settleLaw (settleStep s) := by
  cases hcl : s.bus.sampNow.clampl with
  | true =>
    obtain ⟨hseen, hrun, -⟩ := putSeen_spec .clamped 0 s
    rw [settleStep_asserted hcl, settleLaw, hseen, hrun]
    exact ⟨⟨(nomatch ·), (nomatch ·)⟩, fun _ => rfl, Nat.zero_le 10⟩
  | false =>
    obtain ⟨hseen, hrun, -⟩ := putSeen_spec (settleNext s.clamp.seen s.clamp.settleRun).1
      (settleNext s.clamp.seen s.clamp.settleRun).2 s
    rw [settleStep_negated hcl]
    exact settleLaw_settleNext hseen hrun

/-- Work on the state seen and the settle run that leaves them lawful. -/
theorem lawsCarried_of_settle {s t : State} (hh : t.history = s.history) (hs : t.setup = s.setup) (hi : t.ident = s.ident)
    (hsettle : settleLaw t) : LawsCarried s t where
  ring h := by rw [ringLaw, hh]; exact h
  ident := identLaw_of_kept (by rw [hi]) (by rw [hi])
  settle _ := hsettle
  due := dueLaw_of_kept (by rw [hi]) (by rw [hi]) (by rw [hs]) (by rw [hs])

theorem lawsCarried_settleStep (s : State) : LawsCarried s (settleStep s) :=
  lawsCarried_of_settle (by simp) (by simp) (by simp) (settleLaw_settleStep s)

/-- R191: the settle begins at the close. -/
theorem lawsCarried_settleBegins (s : State) : LawsCarried s (putSeen .settling 0 s) := by
  refine lawsCarried_of_settle (by simp) (by simp) (by simp) ?_
  obtain ⟨hseen, hrun, -⟩ := putSeen_spec .settling 0 s
  rw [settleLaw, hseen, hrun]
  exact ⟨⟨(nomatch ·), (nomatch ·)⟩, fun _ => rfl, Nat.zero_le 10⟩

/-! ### The count of voice frames and the due flag (R123, R124) -/

/-- Work on the count and the due flag that leaves them lawful. -/
theorem lawsCarried_of_due {s t : State} (hh : t.history = s.history) (hc : t.clamp = s.clamp)
    (hp : t.ident.phase = s.ident.phase) (hk : t.ident.kind = s.ident.kind) (hdue : dueLaw s → dueLaw t) :
    LawsCarried s t where
  ring h := by rw [ringLaw, hh]; exact h
  ident := identLaw_of_kept hp hk
  settle h := by rw [settleLaw, hc]; exact h
  due := hdue

theorem countVoice_due_iff (s : State) : (countVoice s).ident.due = true
    ↔ s.ident.due = true ∨ interval s ≤ (countVoice s).ident.a := by
  rw [countVoice_a]
  cases hd : s.ident.due with
  | true =>
    have hstands : (countVoice s).ident.due = s.ident.due := by simp [countVoice, hd]
    rw [hstands, hd]; simp
  | false =>
    by_cases hle : interval s ≤ min (s.ident.a + 1) 16777215
    · simp [(countVoice_due hle hd).1, hle]
    · have hrests : (countVoice s).ident.due = false := by
        rw [countVoice]
        dsimp only
        rw [if_neg fun h => hle h.1]
        exact hd
      simp [hrests, hle]

/-- R124: counting a voice frame of a closed station keeps the law: A never falls, and the flag is set where A comes to the
interval. -/
theorem dueLaw_countVoice {s : State} (hc : s.setup.closed = true) (h : dueLaw s) : dueLaw (countVoice s) := by
  obtain ⟨hdue, hmax, hmin, -⟩ := h
  have ha := countVoice_a s
  have hsetup : (countVoice s).setup = s.setup := by simp
  have hinterval : interval (countVoice s) = interval s := by rw [interval, hsetup]; rfl
  refine ⟨?_, by omega, by rw [hsetup]; exact hmin, fun ho => ?_⟩
  · rw [countVoice_due_iff, hdue, hinterval]
    exact ⟨fun h => h.elim (fun hle => by omega) id, .inr⟩
  · rw [hsetup, hc] at ho
    cases ho

theorem countVoice_ident (s : State) : (countVoice s).ident.phase = s.ident.phase
    ∧ (countVoice s).ident.kind = s.ident.kind := by
  unfold countVoice
  dsimp only
  split <;> exact ⟨rfl, rfl⟩

theorem lawsCarried_countVoice {s : State} (hc : s.setup.closed = true) : LawsCarried s (countVoice s) := by
  obtain ⟨hphase, hkind⟩ := countVoice_ident s
  exact lawsCarried_of_due (by simp) (by simp) hphase hkind (dueLaw_countVoice hc)

/-- R124: an identification heard to its end sets A to 0, which is below every interval. -/
theorem lawsCarried_identSent (s : State) : LawsCarried s (identSent s) := by
  refine lawsCarried_of_due rfl rfl rfl rfl fun ⟨_, _, hmin, _⟩ => ⟨⟨(nomatch ·), fun hle => ?_⟩, Nat.zero_le _, hmin,
    fun _ => rfl⟩
  have hle : s.setup.idInterval * 1000 ≤ 0 := hle
  omega

/-- R187: an interval that SET allows, put before the close, is above the A of 0. -/
theorem lawsCarried_setInterval {s : State} {v : Nat} (hc : s.setup.closed = false) (hv : 60 ≤ v) :
    LawsCarried s (s.setSetup { s.setup with idInterval := v }) := by
  refine lawsCarried_of_due rfl rfl rfl rfl fun ⟨hdue, hmax, hmin, hopen⟩ => ?_
  have ha := hopen hc
  have hnot : ¬ s.ident.due = true := by
    rw [hdue, ha, interval]
    omega
  refine ⟨⟨fun hd => absurd hd hnot, fun hle => ?_⟩, hmax, hv, fun _ => ha⟩
  have hle : v * 1000 ≤ s.ident.a := hle
  omega

/-- R191: the mark of the close. -/
theorem lawsCarried_closeRecord (s : State) : LawsCarried s (closeRecord s) :=
  lawsCarried_of_due rfl rfl rfl rfl fun ⟨hdue, hmax, hmin, _⟩ => ⟨hdue, hmax, hmin, (nomatch ·)⟩

/-! ### The own identification: ended, ordered, played (R117, R119, R129, R133) -/

theorem identLaw_of_nothing {s : State} (hp : s.ident.phase = .nothing) (hk : s.ident.kind = none) : identLaw s :=
  iff_of_true hk hp

theorem identLaw_of_kind {s : State} {k : IdentKind} (hp : s.ident.phase ≠ .nothing) (hk : s.ident.kind = some k) :
    identLaw s :=
  iff_of_false (by rw [hk]; exact (nomatch ·)) hp

theorem lawsCarried_endIdent (s : State) (x : Air) : LawsCarried s (endIdent (s.setAir x)) :=
  lawsCarried_of_ident rfl rfl rfl rfl rfl rfl fun _ => identLaw_of_nothing rfl rfl

theorem lawsCarried_airOff (s : State) : LawsCarried s (airOff s) :=
  lawsCarried_of_ident rfl rfl rfl rfl rfl rfl fun _ => identLaw_of_nothing rfl rfl

theorem identLaw_startTaken (d : Desk) (s : State) : identLaw (startTaken d s) := identLaw_of_nothing rfl rfl

/-- R118: the identification is over in whatever state IDENT is left for. -/
theorem identLaw_leaveIdent (s : State) : identLaw (leaveIdent s) := by
  have hend {t : State} (h : t.ident = (endIdent s).ident) : identLaw t :=
    identLaw_of_nothing (by rw [h]; rfl) (by rw [h]; rfl)
  unfold leaveIdent
  dsimp only
  split
  · split
    · exact identLaw_startTaken _ (endIdent s)
    · exact hend (by simp)
  · split
    · exact hend (by simp)
    · exact hend (by simp)

theorem identLaw_identDecide {s : State} (h : identLaw s) : identLaw (identDecide s) := by
  unfold identDecide
  split
  · exact identLaw_of_kept (t := identFrame s) rfl rfl h
  · exact identLaw_leaveIdent s

theorem identLaw_of_ident {s t : State} (hi : t.ident = s.ident) (h : identLaw s) : identLaw t :=
  identLaw_of_kept (by rw [hi]) (by rw [hi]) h

theorem identLaw_leadDecide {s : State} (h : identLaw s) : identLaw (leadDecide s) := by
  unfold leadDecide
  split
  · exact identLaw_of_ident (by simp) h
  unfold leadEnds
  split
  · exact identLaw_identDecide (identLaw_of_kind (k := .tail) (nomatch ·) rfl)
  · exact identLaw_of_ident (by simp) h
  · exact identLaw_of_ident (by simp) h

theorem identLaw_airDecide {s : State} (h : identLaw s) : identLaw (airDecide s) := by
  unfold airDecide
  split
  · exact identLaw_of_ident (by simp) h
  · exact identLaw_leadDecide h
  · exact identLaw_of_ident (by simp) h
  · exact identLaw_of_ident (by simp) h
  · exact identLaw_identDecide h
  all_goals exact identLaw_of_ident (by simp) h

/-- R102: a pending identification is taken with its kind, or dropped before the decision. -/
theorem identLaw_airFrame {s : State} (h : identLaw s) : identLaw (airFrame s) := by
  have hwithdrawn : identLaw (applyWithdrawal s) := identLaw_of_ident (by simp) h
  have hdropped : identLaw (dropPendingIdent (applyWithdrawal s)) := identLaw_of_nothing rfl rfl
  unfold airFrame
  dsimp only
  split
  · split
    · exact identLaw_airDecide hwithdrawn
    · exact identLaw_startTaken _ _
  · unfold takeInterval
    split
    · exact identLaw_identDecide (identLaw_of_kind (k := .interval) (nomatch ·) rfl)
    · exact identLaw_airDecide hdropped
  · unfold takeTailIdent
    split
    · exact identLaw_of_kind (k := .tail) (nomatch ·) rfl
    · exact identLaw_airDecide hdropped
  · exact identLaw_airDecide hwithdrawn

/-- The air sequencer's work changes phase, kind and clip index of the identification only. -/
theorem lawsCarried_of_handedOver {s t : State} (h : HandedOver s t) (hh : t.history = s.history) (hs : t.setup = s.setup)
    (hc : t.clamp = s.clamp) (hi : identLaw s → identLaw t) : LawsCarried s t :=
  lawsCarried_of_ident hh hs (by rw [hc]) (by rw [hc]) (by rw [h.ident]) (by rw [h.ident]) hi

theorem lawsCarried_airFrame (s : State) : LawsCarried s (airFrame s) :=
  lawsCarried_of_handedOver ((airStable_handedOver s).keeps_airFrame ⟨rfl, rfl⟩) (by simp) (by simp) (by simp)
    identLaw_airFrame

theorem lawsCarried_airDecide (s : State) : LawsCarried s (airDecide s) :=
  lawsCarried_of_handedOver ((airStable_handedOver s).keeps_airDecide ⟨rfl, rfl⟩) (by simp) (by simp) (by simp)
    identLaw_airDecide

theorem lawsCarried_orderInterval (s : State) : LawsCarried s (orderInterval s) :=
  lawsCarried_ite _ (lawsCarried_of_ident rfl rfl rfl rfl rfl rfl
    fun _ => identLaw_of_kind (k := .interval) (nomatch ·) rfl)

theorem lawsCarried_orderTail (s : State) : LawsCarried s (orderTail s) :=
  lawsCarried_ite _ (lawsCarried_of_ident rfl rfl rfl rfl rfl rfl fun _ => identLaw_of_kind (k := .tail) (nomatch ·) rfl)

theorem unitsKept_tailWaitStep (s : State) : UnitsKept s (tailWaitStep s) := by
  have hrun (n : Nat) : UnitsKept s (s.setIdent { s.ident with tailWait := n }) :=
    ⟨rfl, rfl, rfl, rfl, rfl, rfl, rfl, rfl, rfl⟩
  unfold tailWaitStep
  split
  · exact hrun _
  split
  · exact .refl s
  split
  · exact hrun _
  · exact hrun _

theorem lawsCarried_considerTail (s : State) : LawsCarried s (considerTail s) := by
  cases h : tailConsidered s with
  | false => rw [considerTail_of_not h]; exact .refl s
  | true =>
    have hchosen : UnitsKept s (stationChosen s) := ⟨rfl, rfl, rfl, rfl, rfl, rfl, rfl, rfl, rfl⟩
    rw [considerTail_considered h]
    split
    · exact hchosen.carries.trans (lawsCarried_orderTail _)
    · exact hchosen.carries

theorem lawsCarried_withdrawTail (s : State) : LawsCarried s (withdrawTail s) := by
  unfold withdrawTail
  split
  · split
    · exact lawsCarried_endIdent s _
    · exact lawsCarried_endIdent s _
    · exact .refl s
    · exact .refl s
  · exact .refl s

/-- R128, R132: the tail wait, and the tail order considered. -/
theorem lawsCarried_tailWaited (s : State) : LawsCarried s (considerTail (tailWaitStep s)) :=
  (unitsKept_tailWaitStep s).carries.trans (lawsCarried_considerTail _)

theorem lawsCarried_identWork (s : State) : LawsCarried s (identWork s) :=
  (lawsCarried_tailWaited s).trans (lawsCarried_withdrawTail _)

/-- R125: the due age moves, the flag stands. -/
theorem unitsKept_dueStep (s : State) : UnitsKept s (dueStep s) := by
  unfold dueStep
  split
  · dsimp only
    split <;> exact ⟨rfl, rfl, rfl, rfl, rfl, rfl, rfl, rfl, rfl⟩
  · exact .refl s

theorem unitsKept_identHeard (s : State) : UnitsKept s (identHeard s) :=
  unitsKept_ite _ ⟨rfl, rfl, rfl, rfl, rfl, rfl, rfl, rfl, rfl⟩

/-! ### Sync states and join states (R20, R23, R25, R28, R32, R35) -/

theorem unitsKept_setJoin (j : JoinState) (s : State) : UnitsKept s (setJoin j s) := by
  have hleft (x : Member) :
      UnitsKept s (if s.member.join = .member then clearWatchRuns (s.setMember x) else s.setMember x) := by
    split <;> exact .of_seen rfl rfl rfl rfl rfl
  unfold setJoin
  dsimp only
  split
  · exact .refl s
  · exact (hleft _).trans (.of_blocks rfl rfl rfl rfl)

theorem unitsKept_joinAtHunt (s : State) : UnitsKept s (joinAtHunt s) := by
  have hclear : UnitsKept s (clearAnnounce s) := .of_blocks rfl rfl rfl rfl
  unfold joinAtHunt
  split
  · exact hclear.trans (unitsKept_setJoin .listen _)
  · exact unitsKept_setJoin .listen s
  · exact unitsKept_setJoin .listen s
  all_goals exact .refl s

theorem lawsCarried_loseSync (s : State) : LawsCarried s (loseSync s) :=
  (lawsCarried_airOff s).then_kept (.of_blocks (by simp [loseSync]) (by simp [loseSync]) (by simp [loseSync])
    (by simp [loseSync]))

/-- R20: the entry to HUNT empties the history ring, and the rest of it that a law reads is that of the loss of sync. -/
theorem lawsCarried_enterHunt (s : State) : LawsCarried s (enterHunt s) := by
  have hring : (enterHunt s).history.ring = [] := by simp [enterHunt, History.reset]
  have hcleared : LawsCarried (joinAtHunt (loseSync s)) (enterHunt s) :=
    { ring := fun _ => by rw [ringLaw, hring]; exact Nat.zero_le 8
      ident := identLaw_of_kept (by simp [enterHunt]) (by simp [enterHunt])
      settle := fun h => by simpa [settleLaw, enterHunt] using h
      due := dueLaw_of_kept (by simp [enterHunt]) (by simp [enterHunt]) (by simp [enterHunt]) (by simp [enterHunt]) }
  exact ((lawsCarried_loseSync s).then_kept (unitsKept_joinAtHunt _)).trans hcleared

theorem lawsCarried_enterHoldover (s : State) : LawsCarried s (enterHoldover s) :=
  (lawsCarried_airOff s).then_kept (.of_blocks (by simp [enterHoldover]) (by simp [enterHoldover])
    (by simp [enterHoldover]) (by simp [enterHoldover_clamp]))

theorem unitsKept_enterTiming (s : State) : UnitsKept s (enterTiming s) := by
  obtain ⟨-, -, -, hframe⟩ := timingEntered_enterTiming s
  rw [hframe]
  exact .of_blocks rfl rfl rfl rfl

theorem unitsKept_enterLocked (c : Count) (n : Station) (s : State) : UnitsKept s (enterLocked c n s) := by
  obtain ⟨-, -, -, -, hframe⟩ := lockedEntered_enterLocked (s := s) (u := s) c n rfl rfl
  rw [hframe]
  exact .of_blocks rfl rfl rfl rfl

theorem unitsKept_relock (c : Count) (n : Station) (s : State) : UnitsKept s (relock c n s) := by
  unfold relock
  split
  · have hwithdrawn : UnitsKept s (raiseSite .countJump (withdrawAll .countJump s)) :=
      .of_blocks (by simp) (by simp) (by simp) (by simp)
    exact hwithdrawn.trans (unitsKept_enterLocked c n _)
  · exact unitsKept_enterLocked c n s

/-- R35: the entry to FENCED, and from TIMING on to HUNT. -/
theorem lawsCarried_enterFenced (s : State) : LawsCarried s (enterFenced s) := by
  have hundriven (u : State) (x : Bus) : UnitsKept u (u.setBus x) := .of_blocks rfl rfl rfl rfl
  have hstop : LawsCarried s (fencedStop s) :=
    (lawsCarried_loseSync s).then_kept ((hundriven _ _).trans (unitsKept_setJoin .fenced _))
  unfold enterFenced
  dsimp only
  split
  · exact hstop.trans (lawsCarried_enterHunt _)
  · exact hstop

theorem unitsKept_announceCompare (s : State) : UnitsKept s (announceCompare s) :=
  .of_blocks (by simp) (by simp) (by simp) (announceCompare_clamp s)

theorem lawsCarried_readbackMiss (s : State) : LawsCarried s (readbackMiss s) := by
  unfold readbackMiss
  split
  · exact .of_blocks rfl rfl rfl rfl
  · exact lawsCarried_enterHunt s

theorem lawsCarried_countMiss (s : State) : LawsCarried s (countMiss s) := by
  have hmissed : LawsCarried s (s.setSync { s.sync with missRun := capAdd s.sync.missRun 1 3 }) :=
    .of_blocks rfl rfl rfl rfl
  unfold countMiss
  dsimp only
  split
  · exact hmissed.trans (lawsCarried_enterHoldover _)
  · exact hmissed

/-! ### The points of a frame -/

theorem lawsCarried_timingStage (s : State) : LawsCarried s (timingStage s) := by
  have hadvanced (x : Sync) : UnitsKept s ((advanceCount s).setSync x) := .of_blocks rfl rfl rfl rfl
  unfold timingStage
  dsimp only
  split
  · unfold huntStep
    dsimp only
    split
    · exact ((hadvanced _).trans (unitsKept_enterTiming _)).carries
    · exact (hadvanced _).carries
  · unfold holdoverStep
    dsimp only
    split
    · split
      · exact ((hadvanced _).trans (unitsKept_enterTiming _)).carries
      · exact (hadvanced _).carries.trans (lawsCarried_enterHunt _)
    · exact (hadvanced _).carries
  all_goals exact (hadvanced (advanceCount s).sync).carries

theorem lawsCarried_claimsAndAir (reportFirst : Bool) (s : State) : LawsCarried s (claimsAndAir reportFirst s) := by
  have hpublish (before u : State) : UnitsKept u (publishAll (barWork before u)) :=
    .of_blocks (by simp) (by simp) (by simp) (by simp)
  cases reportFirst
  · exact (hpublish s s).carries.trans (lawsCarried_airFrame _)
  · exact (lawsCarried_airFrame s).then_kept (hpublish s _)

theorem lawsCarried_frameWork (reportFirst : Bool) (s : State) : LawsCarried s (frameWork reportFirst s) := by
  have hbus : UnitsKept s (joinRuns (newFrameBus s)) := .of_blocks (by simp) (by simp) (by simp) (by simp)
  have hruns : UnitsKept s (runsCounted s) :=
    (hbus.trans (unitsKept_dueStep _)).trans (.of_blocks (by simp [runsCounted]) (by simp [runsCounted])
      (by simp [runsCounted]) (by simp [runsCounted]))
  have hlatch (u : State) : UnitsKept u (latchFrame u) := .of_seen rfl rfl rfl rfl rfl
  exact (hruns.carries.trans (lawsCarried_claimsAndAir reportFirst _)).then_kept (hlatch _)

theorem lawsCarried_syncFields (bits : BitVec 43) (s : State) : LawsCarried s (syncFields bits s) := by
  unfold syncFields
  split
  · exact .of_blocks (by simp) (by simp) (by simp) (by simp)
  · unfold timingReadback
    split
    · exact .refl s
    split
    · exact .of_blocks rfl rfl rfl rfl
    · exact lawsCarried_readbackMiss s
  all_goals exact .refl s

theorem lawsCarried_lastSlotChecks (k : Station) (s : State) : LawsCarried s (lastSlotChecks k s) := by
  have hmiss : LawsCarried s (missStep s) := by
    unfold missStep
    split
    · split
      · exact lawsCarried_countMiss s
      · exact .of_blocks rfl rfl rfl rfl
    · exact .refl s
  exact lawsCarried_ite _ (hmiss.then_kept (unitsKept_announceCompare _))

theorem unitsKept_takeOrder (order : Bool) (s : State) : UnitsKept s (takeOrder order s) :=
  unitsKept_ite _ ((seenKept_unclampReceipt s).unitsKept (by simp [unclampReceipt]) (by simp [unclampReceipt])
    (by simp [unclampReceipt]))

theorem unitsKept_slotTaken (k : Station) (x : BitVec 208) (s : State) : UnitsKept s (slotTaken k x s) := by
  unfold slotTaken
  split
  · exact .of_blocks rfl rfl rfl rfl
  split <;> exact .of_blocks (by simp) (by simp) (by simp) (by simp)

theorem lawsCarried_slotArrives (k : Station) (x : BitVec 208) (s : State) : LawsCarried s (slotArrives k x s) := by
  obtain ⟨order, heq, -⟩ := slotArrives_eq k x s
  rw [heq]
  exact ((unitsKept_slotTaken k x s).carries.trans (lawsCarried_lastSlotChecks k _)).then_kept (unitsKept_takeOrder order _)

theorem lawsCarried_clampedSample (s : State) : LawsCarried s (clampedSample s) :=
  lawsCarried_ite _ ((lawsCarried_airOff s).then_kept (.of_blocks (by simp) (by simp) (by simp) (by simp)))

theorem lawsCarried_keySampleWork (x : Lines) (s : State) : LawsCarried s (keySampleWork x s) := by
  have hsample : UnitsKept s (keepSample x s) := .of_blocks (by simp) (by simp) (by simp) (by simp)
  have hsettled : LawsCarried s (sampleSettled x s) :=
    (hsample.carries.trans (lawsCarried_clampedSample _)).trans (lawsCarried_settleStep _)
  exact hsettled.then_kept ((seenKept_keySampleWork x s).unitsKept (by simp [sampleSettled]) (by simp [sampleSettled])
    (by simp [sampleSettled, keySampleWork]))

theorem lawsCarried_snapshotStages (s : State) : LawsCarried s (snapshotStages s) := by
  have hformed (formed kept : Records) : UnitsKept s (formSnapshot formed kept (digestTest s)) :=
    .of_blocks (by simp) (by simp) (by simp) (by simp)
  have hwaits (u : State) : UnitsKept u (expireWaits (computeDigest u)) :=
    .of_blocks (by simp) (by simp) (by simp) (by simp)
  exact ((hformed _ _).carries.trans (lawsCarried_handOff _ _ _)).then_kept (hwaits _)

theorem unitsKept_setCause (c : Cause) (s : State) : UnitsKept s (setCause c s) :=
  (seenKept_putCauses _ s).unitsKept (by simp) (by simp) (by simp)

theorem unitsKept_enforceTot (fenceNow : Bool) (s : State) : UnitsKept s (enforceTot fenceNow s) :=
  unitsKept_ite _ (unitsKept_setCause .totenf s)

theorem unitsKept_floorDecisions (fenceNow : Bool) (s : State) : UnitsKept s (floorDecisions fenceNow s) := by
  have hlimit : UnitsKept s (applyTimeLimit (setVerdict s)) := .of_blocks (by simp) (by simp) (by simp) (by simp)
  have hgrant (u : State) : UnitsKept u (grantStep (preempt (releaseSplit u))) :=
    .of_blocks (by simp) (by simp) (by simp) (by simp)
  exact (hlimit.trans (unitsKept_enforceTot fenceNow _)).trans (hgrant _)

theorem unitsKept_orphanStep (s : State) : UnitsKept s (orphanStep s) := by
  have hrun (n : Nat) : UnitsKept s (s.setClamp { s.clamp with orphanRun := n }) := .of_seen rfl rfl rfl rfl rfl
  unfold orphanStep
  dsimp only
  split
  · exact hrun 0
  split
  · exact .refl s
  split
  · split
    · exact (hrun _).trans (unitsKept_setCause .orphan _)
    · exact hrun _
  · exact hrun 0

theorem lawsCarried_snapshotAndIdent (fenceNow identFirst : Bool) (s : State) :
    LawsCarried s (snapshotAndIdent fenceNow identFirst s) := by
  have hstages := lawsCarried_snapshotStages s
  unfold snapshotAndIdent
  dsimp only
  split
  · exact (hstages.trans (lawsCarried_identWork _)).then_kept (unitsKept_floorDecisions fenceNow _)
  · exact (hstages.then_kept (unitsKept_floorDecisions fenceNow _)).trans (lawsCarried_identWork _)

theorem lawsCarried_snapshotWithFence (order : FenceOrder) (identFirst : Bool) (s : State) :
    LawsCarried s (snapshotWithFence order identFirst s) := by
  have hwhole := lawsCarried_snapshotAndIdent true
  cases order with
  | first =>
    have hfenced := lawsCarried_enterFenced s
    unfold snapshotWithFence afterFence
    dsimp only
    split
    · exact hfenced
    · exact hfenced.trans (hwhole identFirst _)
  | beforeIdent =>
    unfold snapshotWithFence
    dsimp only
    split
    · exact (hwhole true s).trans (lawsCarried_enterFenced _)
    · exact (((lawsCarried_snapshotStages s).then_kept (unitsKept_floorDecisions true _)).trans
        (lawsCarried_enterFenced _)).trans (lawsCarried_identWork _)
  | last => exact (hwhole identFirst s).trans (lawsCarried_enterFenced _)

theorem lawsCarried_snapshotWork (order : FenceOrder) (identFirst : Bool) (s : State) :
    LawsCarried s (snapshotWork order identFirst s) := by
  have hrun (n : Nat) : LawsCarried s (putFenceRun n s) := .of_blocks rfl rfl rfl rfl
  unfold snapshotWork
  dsimp only
  refine LawsCarried.then_kept ?_ (unitsKept_orphanStep _)
  split
  · exact (hrun _).trans (lawsCarried_snapshotWithFence order identFirst _)
  · exact (hrun _).trans (lawsCarried_snapshotAndIdent false identFirst _)

theorem lawsCarried_actOnDue (s : State) : LawsCarried s (actOnDue s) := by
  unfold actOnDue
  split
  · exact .refl s
  split
  · split
    · split
      · exact .refl s
      · exact .of_blocks (by simp) (by simp) (by simp) (by simp)
    · exact .refl s
  · exact lawsCarried_ite _ (lawsCarried_orderInterval s)

/-- R124: voice frames are counted by a closed station only. -/
theorem lawsCarried_voiceReceived {s : State} (hc : s.setup.closed = true) (holder : BitVec 3) :
    LawsCarried s (voiceReceived holder s) := by
  have hcount := lawsCarried_countVoice hc
  unfold voiceReceived
  dsimp only
  split
  · split
    · exact hcount.trans (lawsCarried_actOnDue _)
    · exact hcount
  · exact .refl s

theorem lawsCarried_identProgram {s : State} (hc : s.setup.closed = true) (result : ProgResult) (p : ProgField) :
    LawsCarried s (identProgram result p s) := by
  by_cases hg : result = .good
  · subst hg
    unfold identProgram
    dsimp only
    split
    · exact lawsCarried_voiceReceived hc p.station
    refine lawsCarried_ite _ ?_
    split
    · exact lawsCarried_identSent s
    · exact (unitsKept_identHeard s).carries
  · rw [identProgram_of_not_good hg]; exact .refl s

theorem unitsKept_programStep (s : State) : UnitsKept s (programStep s) :=
  (seenKept_programStep s).unitsKept (by simp) (by simp) (by simp)

theorem lawsCarried_programWork {s : State} (hc : s.setup.closed = true) (bits : BitVec 168) :
    LawsCarried s (programWork bits s) := by
  have hfield (result : ProgResult) (p : ProgField) : UnitsKept s (fieldClassed result p s) :=
    .of_blocks (by simp [fieldClassed]) (by simp) (by simp) (by simp)
  rw [programWork_eq]
  exact ((hfield _ _).carries.trans (lawsCarried_identProgram (by rw [(hfield _ _).closed]; exact hc) _ _)).then_kept
    (unitsKept_programStep _)

/-! ### The guard meter (R151 to R155) -/

theorem unitsKept_setGuardCause (c : Cause) (s : State) : UnitsKept s (setGuardCause c s) :=
  (seenKept_setGuardCause c s).unitsKept (by simp) (by simp) (by simp)

theorem unitsKept_clearGuardCause (c : Cause) (s : State) : UnitsKept s (clearGuardCause c s) :=
  (seenKept_clearGuardCause c s).unitsKept (by simp) (by simp) (by simp)

theorem unitsKept_setGuard (s : State) (x : Guard) : UnitsKept s (s.setGuard x) := .of_blocks rfl rfl rfl rfl

theorem unitsKept_heatStep (ratio : Nat) (s : State) : UnitsKept s (heatStep ratio s) := by
  unfold heatStep
  dsimp only
  split
  · split
    · exact (unitsKept_setGuard s _).trans (unitsKept_setGuardCause .heat _)
    · exact unitsKept_setGuard s _
  · split
    · exact (unitsKept_setGuard s _).trans (unitsKept_clearGuardCause .heat _)
    · exact unitsKept_setGuard s _

theorem unitsKept_ratioStep (s : State) : UnitsKept s (ratioStep s) := by
  unfold ratioStep
  dsimp only
  split
  · exact .of_blocks rfl rfl rfl rfl
  · have hratio (x y : Guard) : UnitsKept s ((s.setGuard x).setGuard y) := .of_blocks rfl rfl rfl rfl
    exact ((hratio _ _).trans (unitsKept_clearGuardCause .sensor _)).trans (unitsKept_heatStep _ _)

theorem unitsKept_endDischarge (n : Nat) (done opened short : Bool) (s : State) :
    UnitsKept s (endDischarge n done opened short s) := by
  have hrecorded (x : Guard) : UnitsKept s (sensorIf (opened || short) (s.setGuard x)) :=
    (unitsKept_setGuard s x).trans (unitsKept_ite _ (unitsKept_setGuardCause .sensor _))
  unfold endDischarge
  split
  · exact hrecorded _
  · exact (hrecorded _).trans (unitsKept_ratioStep _)
  all_goals exact .refl s

theorem unitsKept_chargeEnds (gcmpAbove : Bool) (s : State) : UnitsKept s (chargeEnds gcmpAbove s) := by
  have hbegun (x : GuardPhase) : UnitsKept s (beginDischarge x gcmpAbove s) := by
    unfold beginDischarge
    dsimp only
    split
    · exact unitsKept_setGuard s _
    · exact (unitsKept_setGuard s _).trans (unitsKept_endDischarge _ _ _ _ _)
  unfold chargeEnds
  split
  · exact hbegun _
  · exact hbegun _
  all_goals exact .refl s

theorem unitsKept_overflowEnding (s : State) : UnitsKept s (overflowEnding s) :=
  (unitsKept_setGuard s _).trans (unitsKept_endDischarge _ _ _ _ _)

theorem unitsKept_dischargeEnds (n : Nat) (s : State) : UnitsKept s (dischargeEnds n s) := by
  unfold dischargeEnds
  split
  · split
    · exact (unitsKept_setGuard s _).trans (unitsKept_endDischarge _ _ _ _ _)
    · exact unitsKept_overflowEnding s
  · exact .refl s

theorem unitsKept_heatEvent (s : State) : UnitsKept s (heatEvent s) := by
  unfold heatEvent
  split
  · exact unitsKept_heatStep _ s
  · exact .refl s

/-! ### The requests -/

theorem lawsCarried_putField {f v : Nat} {s : State} (hc : s.setup.closed = false) (hok : fieldOk f v = true) :
    LawsCarried s (putField f v s) := by
  by_cases hf : f = 18
  · subst hf
    obtain ⟨hlow, -⟩ : 60 ≤ v ∧ v ≤ 600 := by simpa [fieldOk, within] using hok
    exact lawsCarried_setInterval hc hlow
  · refine UnitsKept.carries ?_
    unfold putField
    split
    case h_2 =>
      unfold setPoolSize
      split
      · exact .refl s
      · exact .of_blocks rfl rfl rfl rfl
    case h_18 => exact absurd rfl hf
    all_goals exact ⟨rfl, rfl, rfl, rfl, rfl, rfl, rfl, rfl, rfl⟩

theorem lawsCarried_setRequest (f v : Nat) (s : State) : LawsCarried s (setRequest f v s).state := by
  unfold setRequest
  split
  · exact .refl s
  next hopen =>
    split
    · exact .refl s
    split
    · exact .refl s
    next hok => exact lawsCarried_putField (by simpa using hopen) (by simpa using hok)

theorem unitsKept_loadClipRequest (offset : Nat) (cells : List Cell) (s : State) :
    UnitsKept s (loadClipRequest offset cells s).state := by
  unfold loadClipRequest
  (repeat' split) <;> exact .of_blocks rfl rfl rfl rfl

theorem unitsKept_startGuard (s : State) : UnitsKept s (startGuard s) :=
  .of_blocks (by simp) (by simp) (by simp) (by simp)

theorem unitsKept_guardOnRequest (s : State) : UnitsKept s (guardOnRequest s).state := by
  unfold guardOnRequest
  split
  · exact unitsKept_startGuard s
  · exact .refl s

/-- R191: the mark of the close, the entry to HUNT, the settle begun and the frame start at the close. -/
theorem lawsCarried_closeWork (s : State) : LawsCarried s (closeWork s) := by
  have hclosed : LawsCarried s (closeBus (closePool (closeRecord s))) :=
    (lawsCarried_closeRecord s).then_kept (.of_blocks rfl rfl rfl rfl)
  have hseen : LawsCarried s (putSeen .settling 0 (enterHunt (closeBus (closePool (closeRecord s))))) :=
    (hclosed.trans (lawsCarried_enterHunt _)).trans (lawsCarried_settleBegins _)
  unfold closeWork
  dsimp only
  refine LawsCarried.trans ?_ (lawsCarried_frameWork false _)
  split
  · exact hseen.then_kept (unitsKept_startGuard _)
  · exact hseen

theorem lawsCarried_closeRequest (s : State) : LawsCarried s (closeRequest s).state := by
  unfold closeRequest
  split
  · exact .refl s
  split
  · exact .refl s
  · exact lawsCarried_closeWork s

theorem unitsKept_openRequest (cls : Byte) (d : Desk) (s : State) : UnitsKept s (openRequest cls d s).state := by
  unfold openRequest
  (repeat' split) <;> exact .of_blocks rfl rfl rfl rfl

theorem unitsKept_closeDeskRequest (d : Desk) (s : State) : UnitsKept s (closeDeskRequest d s).state := by
  unfold closeDeskRequest
  split
  · exact .refl s
  split
  · exact .refl s
  · exact .of_blocks (t := closeDeskWork d s) (by simp [closeDeskWork]) (by simp [closeDeskWork]) (by simp [closeDeskWork])
      (by simp [closeDeskWork])

theorem unitsKept_claimRequest (d : Desk) (s : State) : UnitsKept s (claimRequest d s).state := by
  unfold claimRequest
  dsimp only
  (repeat' split) <;> exact .of_blocks rfl rfl rfl rfl

theorem unitsKept_releaseRequest (mode : Byte) (d : Desk) (s : State) : UnitsKept s (releaseRequest mode d s).state := by
  unfold releaseRequest releaseDesk
  split
  · exact .refl s
  split
  · exact .refl s
  split
  · exact .refl s
  · exact .refl s
  · exact .refl s
  · exact .of_blocks (t := withdraw d .released s) (by simp) (by simp) (by simp) (by simp)
  split
  · exact .of_blocks rfl rfl rfl rfl
  · exact .of_blocks (t := endHolding d .released s) (by simp) (by simp) (by simp) (by simp)

theorem unitsKept_pushRequest (n : Seq) (r : Bool) (cells : List Cell) (d : Desk) (s : State) :
    UnitsKept s (pushRequest n r cells d s).state := by
  unfold pushRequest
  dsimp only
  (repeat' split) <;> exact .of_blocks rfl rfl rfl rfl

theorem unitsKept_flushRequest (d : Desk) (s : State) : UnitsKept s (flushRequest d s).state := by
  unfold flushRequest
  (repeat' split) <;> exact .of_blocks rfl rfl rfl rfl

theorem unitsKept_trimRequest (v : Byte) (d : Desk) (s : State) : UnitsKept s (trimRequest v d s).state := by
  unfold trimRequest
  (repeat' split) <;> exact .of_blocks rfl rfl rfl rfl

theorem unitsKept_deskEventsRequest (d : Desk) (s : State) : UnitsKept s (deskEventsRequest d s).state := by
  unfold deskEventsRequest acknowledge
  dsimp only
  split <;> exact .of_blocks (by simp) (by simp) (by simp) (by simp)

theorem unitsKept_deskStatusRequest (d : Desk) (s : State) : UnitsKept s (deskStatusRequest d s).state :=
  unitsKept_ite _ (.of_blocks rfl rfl rfl rfl)

theorem unitsKept_clampRequest (d : Desk) (s : State) : UnitsKept s (clampRequest d s).state := by
  unfold clampRequest
  split
  · exact .refl s
  split
  · exact .refl s
  · exact unitsKept_setCause .operator s

theorem unitsKept_unclampRequest (d : Desk) (s : State) : UnitsKept s (unclampRequest d s).state := by
  unfold unclampRequest
  (repeat' split) <;> exact .of_seen rfl rfl rfl rfl rfl

theorem unitsKept_maskRequest (sel : Byte) (word : Word16) (s : State) : UnitsKept s (maskRequest sel word s).state := by
  unfold maskRequest siteMaskRequest forDesk deskMaskRequest
  (repeat' split) <;> exact .of_blocks rfl rfl rfl rfl

/-! ### Every command -/

theorem lawsCarried_takeRequest {s : State} (w : Bool) (n : Nat) {act : State → Answer}
    (h : LawsCarried s (act s).state) : LawsCarried s (takeRequest w n act s) :=
  lawsCarried_ite _ (h.then_kept (.of_blocks rfl rfl rfl rfl))

theorem lawsCarried_requestKept {s : State} (w : Bool) (n : Nat) {act : State → Answer}
    (h : UnitsKept s (act s).state) : LawsCarried s (takeRequest w n act s) :=
  lawsCarried_takeRequest w n h.carries

theorem lawsCarried_deskRequest {s : State} (w : Bool) (n : Nat) (sel : Byte) {act : Desk → State → Answer}
    (h : ∀ d, UnitsKept s (act d s).state) : LawsCarried s (takeRequest w n (forDesk sel act) s) :=
  lawsCarried_requestKept w n (forDesk_keeps (P := UnitsKept s) (.refl s) sel h)

theorem lawsCarried_whenRuns {s : State} (runs : Bool) {work : State → State} (h : LawsCarried s (work s)) :
    LawsCarried s (whenRuns runs work s) :=
  lawsCarried_ite _ h

/-- A row whose work leaves the four blocks. -/
theorem lawsCarried_rowKept {s : State} (runs : Bool) {work : State → State} (h : UnitsKept s (work s)) :
    LawsCarried s (whenRuns runs work s) :=
  lawsCarried_whenRuns runs h.carries

/-- R1: a point is signalled by a closed station only. -/
theorem closed_of_pointsRun {s : State} (h : pointsRun s = true) : s.setup.closed = true := by
  simp only [pointsRun, sampleRuns, frameRuns, Bool.and_eq_true] at h
  obtain ⟨⟨⟨⟨-, hclosed⟩, -⟩, -⟩, -⟩ := h
  exact hclosed

theorem closed_of_dueReaches {s : State} (h : dueReaches s = true) : s.setup.closed = true := by
  simp only [dueReaches, Bool.and_eq_true] at h
  obtain ⟨⟨⟨hpoints, -⟩, -⟩, -⟩ := h
  exact closed_of_pointsRun hpoints

/-- Each of the four laws is carried over by every command. -/
theorem lawsCarried_exec (i : Instr) (s : State) : ∃ t, exec i s = .next t ∧ LawsCarried s t := by
  cases i with
  | powerOnReset | brownOutReset | pinReset => exact ⟨_, rfl, lawsCarried_resetTo _ s⟩
  | resetEnd _ _ =>
    exact ⟨_, rfl, lawsCarried_ite _ (UnitsKept.carries ⟨rfl, rfl, rfl, rfl, rfl, rfl, rfl, rfl, rfl⟩)⟩
  | settleEnd | readTransaction _ _ | badRequest _ _ =>
    exact ⟨_, rfl, lawsCarried_ite _ (.of_blocks rfl rfl rfl rfl)⟩
  | emptyTransaction => exact ⟨_, rfl, .refl s⟩
  | setField f v w => exact ⟨_, rfl, lawsCarried_takeRequest w _ (lawsCarried_setRequest _ _ s)⟩
  | closeSetup w => exact ⟨_, rfl, lawsCarried_takeRequest w _ (lawsCarried_closeRequest s)⟩
  | loadClip n cells w => exact ⟨_, rfl, lawsCarried_requestKept w _ (unitsKept_loadClipRequest _ cells s)⟩
  | guardOn w => exact ⟨_, rfl, lawsCarried_requestKept w _ (unitsKept_guardOnRequest s)⟩
  | openDesk sel cls w => exact ⟨_, rfl, lawsCarried_deskRequest w _ sel fun d => unitsKept_openRequest cls d s⟩
  | closeDesk sel w => exact ⟨_, rfl, lawsCarried_deskRequest w _ sel fun d => unitsKept_closeDeskRequest d s⟩
  | claim sel w => exact ⟨_, rfl, lawsCarried_deskRequest w _ sel fun d => unitsKept_claimRequest d s⟩
  | release sel mode w => exact ⟨_, rfl, lawsCarried_deskRequest w _ sel fun d => unitsKept_releaseRequest mode d s⟩
  | push sel n flags cells w =>
    exact ⟨_, rfl, lawsCarried_deskRequest w _ sel fun d => unitsKept_pushRequest n _ cells d s⟩
  | flush sel w => exact ⟨_, rfl, lawsCarried_deskRequest w _ sel fun d => unitsKept_flushRequest d s⟩
  | trim sel v w => exact ⟨_, rfl, lawsCarried_deskRequest w _ sel fun d => unitsKept_trimRequest v d s⟩
  | deskEvents sel w => exact ⟨_, rfl, lawsCarried_deskRequest w _ sel fun d => unitsKept_deskEventsRequest d s⟩
  | deskStatus sel w => exact ⟨_, rfl, lawsCarried_deskRequest w _ sel fun d => unitsKept_deskStatusRequest d s⟩
  | siteEvents w | siteStatus w | floorView w | history w | guardRead w =>
    exact ⟨_, rfl, lawsCarried_requestKept w _ (.of_blocks rfl rfl rfl rfl)⟩
  | clamp sel w => exact ⟨_, rfl, lawsCarried_deskRequest w _ sel fun d => unitsKept_clampRequest d s⟩
  | unclamp sel w => exact ⟨_, rfl, lawsCarried_deskRequest w _ sel fun d => unitsKept_unclampRequest d s⟩
  | mask sel word w => exact ⟨_, rfl, lawsCarried_requestKept w _ (unitsKept_maskRequest sel word s)⟩
  | frameStart b =>
    exact ⟨_, rfl, lawsCarried_whenRuns _ ((lawsCarried_timingStage s).trans (lawsCarried_frameWork b _))⟩
  | syncFieldsReceived x => exact ⟨_, rfl, lawsCarried_whenRuns _ (lawsCarried_syncFields x s)⟩
  | slotReceived k x => exact ⟨_, rfl, lawsCarried_whenRuns _ (lawsCarried_slotArrives k x s)⟩
  | keySample a b c d => exact ⟨_, rfl, lawsCarried_whenRuns _ (lawsCarried_keySampleWork _ s)⟩
  | snapshotComplete o b => exact ⟨_, rfl, lawsCarried_whenRuns _ (lawsCarried_snapshotWork o b s)⟩
  | programReceived x =>
    exact ⟨_, rfl, whenRuns_keeps (P := LawsCarried s) (.refl s) _ fun hruns =>
      lawsCarried_programWork (closed_of_pointsRun hruns) x⟩
  | syncPatternFound pos c n =>
    have hseen : UnitsKept s (patternSeen s) := .of_blocks (by simp) (by simp) (by simp) (by simp)
    refine ⟨_, rfl, lawsCarried_rowKept _ ?_⟩
    unfold patternFound
    split
    · exact hseen.trans (unitsKept_relock c n _)
    · exact hseen.trans (.of_blocks (by simp) (by simp) (by simp) (by simp))
  | relockTestPassed pos c n =>
    have hseen : UnitsKept s (patternSeen s) := .of_blocks (by simp) (by simp) (by simp) (by simp)
    exact ⟨_, rfl, lawsCarried_rowKept _ (hseen.trans (unitsKept_relock c n _))⟩
  | huntWaitExpired | holdoverWaitExpired => exact ⟨_, rfl, lawsCarried_whenRuns _ (lawsCarried_timingStage s)⟩
  | missRunLimit => exact ⟨_, rfl, lawsCarried_whenRuns _ (lawsCarried_countMiss s)⟩
  | timingReadbackLimit => exact ⟨_, rfl, lawsCarried_whenRuns _ (lawsCarried_readbackMiss s)⟩
  | fence =>
    have hrun : UnitsKept s (putFenceRun 3 s) := .of_blocks rfl rfl rfl rfl
    exact ⟨_, rfl, lawsCarried_whenRuns _
      ((hrun.carries.trans (lawsCarried_enterFenced _)).then_kept (unitsKept_orphanStep _))⟩
  | announceComplete => exact ⟨_, rfl, lawsCarried_rowKept _ (unitsKept_announceCompare s)⟩
  | totenf => exact ⟨_, rfl, lawsCarried_rowKept _ (unitsKept_enforceTot false s)⟩
  | splitRelease =>
    exact ⟨_, rfl, lawsCarried_rowKept _ (.of_blocks (by simp [splitEvent]) (by simp [splitEvent]) (by simp [splitEvent])
      (by simp [splitEvent]))⟩
  | leadEnd | primeToOn | gapDeclared | releaseAfterDone | drainComplete | starvation | tailEnd | identEnd =>
    exact ⟨_, rfl, lawsCarried_whenRuns _ (lawsCarried_airDecide s)⟩
  | idDue holder =>
    exact ⟨_, rfl, whenRuns_keeps (P := LawsCarried s) (.refl s) _ fun hreaches =>
      lawsCarried_voiceReceived (closed_of_dueReaches hreaches) _⟩
  | idOverdue => exact ⟨_, rfl, lawsCarried_rowKept _ (unitsKept_dueStep s)⟩
  | tailWaitComplete => exact ⟨_, rfl, lawsCarried_whenRuns _ (lawsCarried_tailWaited s)⟩
  | orphan => exact ⟨_, rfl, lawsCarried_rowKept _ (unitsKept_orphanStep s)⟩
  | programRunLimit => exact ⟨_, rfl, lawsCarried_rowKept _ (unitsKept_programStep s)⟩
  | stuck => exact ⟨_, rfl, lawsCarried_rowKept _ ((seenKept_stuckStep s).unitsKept (by simp) (by simp) (by simp))⟩
  | noRf => exact ⟨_, rfl, lawsCarried_rowKept _ ((seenKept_noRfStep s).unitsKept (by simp) (by simp) (by simp))⟩
  | reflectSet | reflectClear =>
    exact ⟨_, rfl, lawsCarried_rowKept _ ((seenKept_reflectStep s).unitsKept (by simp) (by simp) (by simp))⟩
  | settleComplete => exact ⟨_, rfl, lawsCarried_whenRuns _ (lawsCarried_settleStep s)⟩
  | chargePhaseEnd b => exact ⟨_, rfl, (unitsKept_chargeEnds b s).carries⟩
  | dischargeEnd n => exact ⟨_, rfl, (unitsKept_dischargeEnds n s).carries⟩
  | dischargeOverflow => exact ⟨_, rfl, lawsCarried_ite _ (unitsKept_overflowEnding s).carries⟩
  | heatSet => exact ⟨_, rfl, (unitsKept_heatEvent s).carries⟩
  | relockCandidateDropped _ | peerJoined _ | peerLost _ _ | waitExpiry | timeLimit | barLifted _ | guardCycleBegin =>
    exact ⟨_, rfl, lawsCarried_rowKept _ (.of_blocks (by simp) (by simp) (by simp) (by simp))⟩

theorem unitsKept_tick (s : State) : UnitsKept s (tick s) := by
  unfold tick guardTick settleTick
  (repeat' split) <;> exact .of_blocks rfl rfl rfl rfl

/-- Settles O58: a reference cycle leaves all that the laws read, and every command carries each law over by
`lawsCarried_exec`. -/
theorem blockLawsKept : Obligations.BlockLawsKept := by
  intro s t hstep
  have hcarried : LawsCarried s t := by
    unfold step at hstep
    split at hstep
    next =>
      cases hstep
      exact (unitsKept_tick s).carries
    next c rest _ =>
      have hfront : UnitsKept s (s.setPending rest) := .of_blocks rfl rfl rfl rfl
      obtain ⟨u, hu, hcommand⟩ := lawsCarried_exec c (s.setPending rest)
      rw [hu] at hstep
      cases hstep
      exact hfront.carries.trans hcommand
  exact ⟨hcarried.ring, hcarried.ident, hcarried.settle, hcarried.due⟩

end Sys2Proof

namespace Sys2Proof
open Machine

/-! ## The frames of the requests (R166, R167, Tables 10-1 and 10-2) -/

/-! ### Words and cells in bytes -/

/-- R166: a word is read back from its two bytes. -/
theorem word16_bytes16 (x : Word16) : word16 (x.extractLsb' 8 8) (x.extractLsb' 0 8) = x := by
  rw [word16, BitVec.extractLsb'_append_extractLsb'_eq_extractLsb' (by decide)]
  exact BitVec.extractLsb'_eq_self

/-- Table 10-2: a value of SET is read back from its four bytes. -/
theorem value32_bytes (v : BitVec 32) :
    v.extractLsb' 24 8 ++ v.extractLsb' 16 8 ++ v.extractLsb' 8 8 ++ v.extractLsb' 0 8 = v := by
  rw [BitVec.extractLsb'_append_extractLsb'_eq_extractLsb' (by decide),
    BitVec.extractLsb'_append_extractLsb'_eq_extractLsb' (by decide),
    BitVec.extractLsb'_append_extractLsb'_eq_extractLsb' (by decide)]
  exact BitVec.extractLsb'_eq_self

/-- Cells are read back from their bytes. -/
theorem cellsOf_flatMap (cs : List Cell) : cellsOf (cs.flatMap cellBytes) = some cs := by
  induction cs with
  | nil => rfl
  | cons c cs ih =>
    simp only [List.flatMap_cons, cellBytes, bytes16, List.cons_append, List.nil_append, cellsOf, ih, Option.map_some,
      word16_bytes16]

/-- A list of bytes is a list of cells exactly when its length is a multiple of 16. -/
theorem cellsOf_isSome_iff (bytes : List Byte) : (cellsOf bytes).isSome = true ↔ ∃ m, bytes.length = 16 * m := by
  fun_induction cellsOf bytes with
  | case1 => simp
  | case2 a0 a1 a2 a3 a4 a5 a6 a7 a8 a9 a10 a11 a12 a13 a14 a15 rest ih =>
    rw [Option.isSome_map, ih]
    simp only [List.length_cons]
    exact ⟨fun ⟨m, hm⟩ => ⟨m + 1, by omega⟩, fun ⟨m, hm⟩ => ⟨m - 1, by omega⟩⟩
  | case3 bytes hnil hcell =>
    have hpos : bytes.length ≠ 0 := fun h => hnil (List.eq_nil_of_length_eq_zero h)
    have hshort : bytes.length < 16 := by
      by_contra hlong
      exact hcell bytes[0] bytes[1] bytes[2] bytes[3] bytes[4] bytes[5] bytes[6] bytes[7] bytes[8] bytes[9] bytes[10]
        bytes[11] bytes[12] bytes[13] bytes[14] bytes[15] (bytes.drop 16)
        (by simp only [List.getElem_cons_drop, List.drop_zero])
    refine iff_of_false Bool.false_ne_true ?_
    rintro ⟨m, hm⟩
    omega

/-! ### The bodies that Table 10-2 allows

14 codes stand with no body, three with a body of one byte; SET, LOAD_CLIP, PUSH and MASK have bodies of their own. -/

/-- The codes of the requests without a body. -/
def emptyCodes : List Byte := [0x02, 0x04, 0x11, 0x12, 0x15, 0x20, 0x21, 0x22, 0x23, 0x24, 0x25, 0x30, 0x31, 0x32]

/-- The codes of the requests with a body of one byte. -/
def byteCodes : List Byte := [0x10, 0x13, 0x16]

/-- The codes of Table 10-2. -/
def requestCodes : List Byte := emptyCodes ++ byteCodes ++ [0x01, 0x03, 0x14, 0x38]

section
variable {code : Byte} (sel : Byte) (body : List Byte) (w : Bool)

theorem bodyOf_emptyCode (h : code ∈ emptyCodes) : (bodyOf code sel body w).isSome = true ↔ body.length = 0 :=
  match body with
  | [] =>
    have hall : (emptyCodes.all fun c => (bodyOf c sel [] w).isSome) = true := rfl
    iff_of_true (List.all_eq_true.mp hall code h) rfl
  | a :: rest =>
    have hall : (emptyCodes.all fun c => !(bodyOf c sel (a :: rest) w).isSome) = true := rfl
    iff_of_false (by simpa using List.all_eq_true.mp hall code h) (by simp)

theorem bodyOf_byteCode (h : code ∈ byteCodes) : (bodyOf code sel body w).isSome = true ↔ body.length = 1 :=
  match body with
  | [a] =>
    have hall : (byteCodes.all fun c => (bodyOf c sel [a] w).isSome) = true := rfl
    iff_of_true (List.all_eq_true.mp hall code h) rfl
  | [] =>
    have hall : (byteCodes.all fun c => !(bodyOf c sel [] w).isSome) = true := rfl
    iff_of_false (by simpa using List.all_eq_true.mp hall code h) (by simp)
  | a :: b :: rest =>
    have hall : (byteCodes.all fun c => !(bodyOf c sel (a :: b :: rest) w).isSome) = true := rfl
    iff_of_false (by simpa using List.all_eq_true.mp hall code h) (by simp)

theorem bodyOf_set : (bodyOf 0x01 sel body w).isSome = true ↔ body.length = 4 :=
  match body with
  | [_, _, _, _] => iff_of_true rfl rfl
  | [] | [_] | [_, _] | [_, _, _] | _ :: _ :: _ :: _ :: _ :: _ => iff_of_false Bool.false_ne_true (by simp)

theorem bodyOf_mask : (bodyOf 0x38 sel body w).isSome = true ↔ body.length = 2 :=
  match body with
  | [_, _] => iff_of_true rfl rfl
  | [] | [_] | _ :: _ :: _ :: _ => iff_of_false Bool.false_ne_true (by simp)

theorem bodyOf_loadClip : (bodyOf 0x03 sel body w).isSome = true ↔ ∃ m, body.length = 2 + 16 * m :=
  match body with
  | a :: b :: rest => by
    have hcells : bodyOf 0x03 sel (a :: b :: rest) w = (cellsOf rest).map fun cs => .loadClip (word16 a b) cs w := rfl
    rw [hcells, Option.isSome_map, cellsOf_isSome_iff]
    exact exists_congr fun m => by rw [List.length_cons, List.length_cons]; omega
  | [] | [_] => iff_of_false Bool.false_ne_true fun ⟨m, hm⟩ => by simp at hm; omega

theorem bodyOf_push : (bodyOf 0x14 sel body w).isSome = true ↔ ∃ m, body.length = 3 + 16 * m :=
  match body with
  | a :: b :: f :: rest => by
    have hcells : bodyOf 0x14 sel (a :: b :: f :: rest) w = (cellsOf rest).map fun cs => .push sel (word16 a b) f cs w := rfl
    rw [hcells, Option.isSome_map, cellsOf_isSome_iff]
    exact exists_congr fun m => by rw [List.length_cons, List.length_cons, List.length_cons]; omega
  | [] | [_] | [_, _] => iff_of_false Bool.false_ne_true fun ⟨m, hm⟩ => by simp at hm; omega

/-- R167: a code that Table 10-2 does not name gives no request. Every byte is looked at, by its two hexadecimal digits. -/
theorem bodyOf_unknown (h : code ∉ requestCodes) : bodyOf code sel body w = none := by
  have hall : ((List.range 16).all fun high => (List.range 16).all fun low =>
      requestCodes.contains (BitVec.ofNat 8 (16 * high + low))
        || (bodyOf (BitVec.ofNat 8 (16 * high + low)) sel body w).isNone) = true := rfl
  have hhigh := List.all_eq_true.mp hall (code.toNat / 16) (List.mem_range.mpr (by have := code.isLt; omega))
  have hlow := List.all_eq_true.mp hhigh (code.toNat % 16) (List.mem_range.mpr (Nat.mod_lt _ (by decide)))
  rw [Nat.div_add_mod, BitVec.ofNat_toNat, BitVec.setWidth_eq] at hlow
  simpa [h] using hlow

end

theorem allowedBody_emptyCode {code : Byte} (h : code ∈ emptyCodes) (n : Nat) : allowedBody code.toNat n ↔ n = 0 := by
  revert code
  simp [emptyCodes, allowedBody]

theorem allowedBody_byteCode {code : Byte} (h : code ∈ byteCodes) (n : Nat) : allowedBody code.toNat n ↔ n = 1 := by
  revert code
  simp [byteCodes, allowedBody]

theorem allowedBody_loadClip (n : Nat) : allowedBody 0x03 n ↔ ∃ m, m ≤ 20 ∧ n = 2 + 16 * m := by simp [allowedBody]

theorem allowedBody_push (n : Nat) : allowedBody 0x14 n ↔ ∃ m, m ≤ 20 ∧ n = 3 + 16 * m := by simp [allowedBody]

theorem not_allowedBody_unknown {code : Byte} (h : code ∉ requestCodes) (n : Nat) : ¬ allowedBody code.toNat n := by
  simp only [requestCodes, emptyCodes, byteCodes, List.cons_append, List.nil_append, List.mem_cons, List.not_mem_nil,
    or_false, not_or, ← BitVec.toNat_inj, BitVec.reduceToNat] at h
  simp [allowedBody, h]

/-- R166, R167: within the 330 bytes of a body a request is formed exactly where Table 10-2 allows code and length. -/
theorem bodyOf_isSome_iff (code sel : Byte) {body : List Byte} (w : Bool) (hlen : body.length ≤ 330) :
    (bodyOf code sel body w).isSome = true ↔ allowedBody code.toNat body.length := by
  by_cases hknown : code ∈ requestCodes
  case neg =>
    rw [bodyOf_unknown sel body w hknown]
    exact iff_of_false Bool.false_ne_true (not_allowedBody_unknown hknown _)
  simp only [requestCodes, List.mem_append, List.mem_cons, List.not_mem_nil, or_false] at hknown
  rcases hknown with (hempty | hbyte) | rfl | rfl | rfl | rfl
  · rw [bodyOf_emptyCode sel body w hempty, allowedBody_emptyCode hempty]
  · rw [bodyOf_byteCode sel body w hbyte, allowedBody_byteCode hbyte]
  · rw [bodyOf_set]
    simp [allowedBody]
  · rw [bodyOf_loadClip]
    refine Iff.trans ?_ (allowedBody_loadClip _).symm
    exact exists_congr fun m => ⟨fun h => ⟨by omega, h⟩, And.right⟩
  · rw [bodyOf_push]
    refine Iff.trans ?_ (allowedBody_push _).symm
    exact exists_congr fun m => ⟨fun h => ⟨by omega, h⟩, And.right⟩
  · rw [bodyOf_mask]
    simp [allowedBody]

/-! ### Frames read and written -/

/-- R167: a frame of four bytes or more is read by its header's body length. -/
theorem requestOf_cons (code sel hi lo : Byte) (body : List Byte) (w : Bool) : requestOf (code :: sel :: hi :: lo :: body) w =
    if (word16 hi lo).toNat ≤ 330 ∧ body.length = (word16 hi lo).toNat then bodyOf code sel body w else none := rfl

theorem exists_header_of_requestOf {bytes : List Byte} {w : Bool} (h : (requestOf bytes w).isSome = true) :
    ∃ code sel hi lo body, bytes = code :: sel :: hi :: lo :: body := by
  unfold requestOf at h
  split at h
  next code sel hi lo body => exact ⟨code, sel, hi, lo, body, rfl⟩
  next => cases h

/-- Settles O6: the framing checks of R167 are the condition of `requestOf`, and `bodyOf_isSome_iff` is Table 10-2. -/
theorem framingAcceptsExactlyTable : Obligations.FramingAcceptsExactlyTable := by
  intro bytes w
  constructor
  · intro h
    obtain ⟨code, sel, hi, lo, body, rfl⟩ := exists_header_of_requestOf h
    rw [requestOf_cons] at h
    split at h
    next hlen => exact ⟨code, sel, hi, lo, body, rfl, hlen.1, hlen.2, (bodyOf_isSome_iff code sel w (hlen.2 ▸ hlen.1)).mp h⟩
    next => cases h
  · rintro ⟨code, sel, hi, lo, body, rfl, hmax, hlen, hallowed⟩
    rw [requestOf_cons, if_pos ⟨hmax, hlen⟩]
    exact (bodyOf_isSome_iff code sel w (hlen ▸ hmax)).mpr hallowed

/-- R166: a frame of at most 334 bytes is read as its code, selector and body. -/
theorem requestOf_frame {code sel : Byte} {body : List Byte} (w : Bool)
    (h : (frame code sel body).length ≤ 4 + Config.maxBody) : requestOf (frame code sel body) w = bodyOf code sel body w := by
  rw [Laws.length_frame, Config.maxBody] at h
  have hword : (BitVec.ofNat 16 body.length).toNat = body.length := by
    rw [BitVec.toNat_ofNat]
    omega
  simp only [frame, bytes16, List.cons_append, List.nil_append, requestOf_cons, word16_bytes16, hword]
  rw [if_pos ⟨by omega, trivial⟩]

theorem readBack_of_frame {i : Instr} {code sel : Byte} {body : List Byte} (hframe : frameOf i = frame code sel body)
    (hfit : (frameOf i).length ≤ 4 + Config.maxBody) (hbody : bodyOf code sel body (windowOf i) = some i) :
    requestOf (frameOf i) (windowOf i) = some i := by
  rw [hframe] at hfit ⊢
  rw [requestOf_frame _ hfit, hbody]

/-- Settles O7: the frame is read by `requestOf_frame`; words and cells in its body by `word16_bytes16` and
`cellsOf_flatMap`. -/
theorem requestFrameRoundTrip : Obligations.RequestFrameRoundTrip := by
  intro i hreq hwf
  cases i with
  | setField f v w =>
    refine readBack_of_frame rfl (Laws.Framing.setField f v w hwf) ?_
    exact congrArg (fun x => some (Instr.setField f x w)) (value32_bytes v)
  | loadClip o cs w =>
    refine readBack_of_frame rfl (Laws.Framing.loadClip o cs w hwf) ?_
    change (cellsOf (cs.flatMap cellBytes)).map _ = _
    rw [cellsOf_flatMap, Option.map_some, word16_bytes16]
    rfl
  | push sel n flags cs w =>
    refine readBack_of_frame rfl (Laws.Framing.push sel n flags cs w hwf) ?_
    change (cellsOf (cs.flatMap cellBytes)).map _ = _
    rw [cellsOf_flatMap, Option.map_some, word16_bytes16]
    rfl
  | mask sel x w =>
    refine readBack_of_frame rfl (Laws.Framing.mask sel x w hwf) ?_
    exact congrArg (fun x => some (Instr.mask sel x w)) (word16_bytes16 x)
  | closeSetup _ | guardOn _ | openDesk _ _ _ | closeDesk _ _ | claim _ _ | release _ _ _ | flush _ _ | trim _ _ _
  | deskEvents _ _ | deskStatus _ _ | siteEvents _ | siteStatus _ | floorView _ | history _ | clamp _ _ | unclamp _ _
  | guardRead _ => exact readBack_of_frame rfl (Nat.le_of_ble_eq_true rfl) rfl
  | _ => cases hreq

end Sys2Proof

namespace Sys2Proof
open Machine

/-! ## The transactions of the link (R165, R167 to R169) -/

/-! ### How each request is taken -/

theorem linkUp_iff (s : State) : linkUp s = true ↔ s.power.phase = .up := beq_iff_eq

/-- R169: a desk request has a frame with its selector, and is taken with the bytes of its body by the desk selected. -/
theorem exec_deskRequest {i : Instr} {sel : Byte} (h : deskSelector i = some sel) : ∃ code body act,
    frameOf i = frame code sel body
    ∧ ∀ s, exec i s = .next (takeRequest (windowOf i) body.length (forDesk sel act) s) := by
  cases i with
  | openDesk _ _ _ | closeDesk _ _ | claim _ _ | release _ _ _ | flush _ _ | trim _ _ _ | deskEvents _ _ | deskStatus _ _
  | clamp _ _ | unclamp _ _ =>
    cases h
    exact ⟨_, _, _, rfl, fun _ => rfl⟩
  | push d n flags cells w =>
    cases h
    refine ⟨_, _, pushRequest n (flags.getLsbD 0) cells, rfl, fun s => ?_⟩
    rw [List.length_append, Laws.length_flatMap_cellBytes]
    rfl
  | _ => cases h

/-- R167: a request of Table 10-2 has a frame, and is taken with the bytes of its body. -/
theorem exec_request {i : Instr} (h : isRequest i = true) : ∃ code sel body act, frameOf i = frame code sel body
    ∧ ∀ s, exec i s = .next (takeRequest (windowOf i) body.length act s) := by
  have hdesk (sel : Byte) := exec_deskRequest (i := i) (sel := sel)
  cases i with
  | setField _ _ _ | closeSetup _ | guardOn _ | siteEvents _ | siteStatus _ | floorView _ | history _ | guardRead _
  | mask _ _ _ => exact ⟨_, _, _, _, rfl, fun _ => rfl⟩
  | loadClip offset cells w =>
    refine ⟨_, _, _, loadClipRequest offset.toNat cells, rfl, fun s => ?_⟩
    rw [List.length_append, Laws.length_flatMap_cellBytes]
    rfl
  | openDesk sel _ _ | closeDesk sel _ | claim sel _ | release sel _ _ | push sel _ _ _ _ | flush sel _ | trim sel _ _
  | deskEvents sel _ | deskStatus sel _ | clamp sel _ | unclamp sel _ =>
    obtain ⟨code, body, act, hframe, hexec⟩ := hdesk sel rfl
    exact ⟨code, sel, body, forDesk sel act, hframe, hexec⟩
  | _ => cases h

theorem bodyLength_of_frame {i : Instr} {code sel : Byte} {body : List Byte} (h : frameOf i = frame code sel body) :
    bodyLength i = body.length := by
  rw [bodyLength, h, Laws.length_frame]
  omega

/-- R169: a request answered without a change of the state. -/
theorem takeRequest_refuse (st : Status) {s : State} (hup : linkUp s = true) (w : Bool) (n : Nat) {act : State → Answer}
    (hact : act s = .refuse st s) : takeRequest w n act s = replied w s s n st [] := by
  rw [takeRequest_up hup, hact]
  rfl

/-- R169: MASK with a selector above that of the site finds no desk. -/
theorem maskRequest_none {sel : Byte} (h : 5 ≤ sel.toNat) (word : Word16) (s : State) :
    maskRequest sel word s = .refuse .noDesk s := by
  have hsite : sel ≠ 4 := by
    rintro rfl
    exact absurd h (by decide)
  rw [maskRequest, if_neg hsite, forDesk_none (by omega)]

/-- Settles O8: `exec_deskRequest` says how each desk request is taken, and a selector out of range finds no desk. -/
theorem selectorOutOfRange : Obligations.SelectorOutOfRange := by
  intro i s hup
  refine ⟨fun sel hsel hrange => ?_, fun sel word w hi hrange => ?_⟩
  · obtain ⟨code, body, act, hframe, hexec⟩ := exec_deskRequest hsel
    rw [hexec, bodyLength_of_frame hframe, takeRequest_refuse .noDesk hup _ _ (forDesk_none hrange act s)]
  · subst hi
    exact congrArg Host.Outcome.next (takeRequest_refuse .noDesk hup w 2 (maskRequest_none hrange word s))

/-! ### Reads and refused frames (R165, R167, R168) -/

theorem length_responseBytes (s : State) (r : Response) : (responseBytes s r).length = 4 + r.body.length := by
  simp only [responseBytes, List.length_cons, List.length_append, length_bytes16]
  omega

/-- R165: the pending response, then ones. -/
theorem shifted_response {s : State} {r : Response} (h : s.link.response = some r) (n : Nat) : shifted s n false =
    (responseBytes s r ++ List.replicate (n - (4 + r.body.length)) 0xFF).take n := by
  simp only [shifted, h]
  rw [List.take_append, List.take_append, length_responseBytes, List.take_replicate, List.take_replicate]
  simp

theorem shifted_whole {s : State} {r : Response} (h : s.link.response = some r) {n : Nat} (hn : 4 + r.body.length ≤ n) :
    shifted s n false = responseBytes s r ++ List.replicate (n - (4 + r.body.length)) 0xFF := by
  rw [shifted_response h]
  refine List.take_of_length_le ?_
  rw [List.length_append, length_responseBytes, List.length_replicate]
  omega

theorem shifted_part {s : State} {r : Response} (h : s.link.response = some r) {n : Nat} (hn : n ≤ 4 + r.body.length) :
    shifted s n false = (responseBytes s r).take n := by
  rw [shifted_response h]
  exact List.take_append_of_le_length (by rw [length_responseBytes]; exact hn)

theorem exec_readTransaction {s : State} (hup : linkUp s = true) {n : Nat} (hn : 0 < n) (b : Bool) :
    exec (.readTransaction n b) s
      = .next (s.setLink { s.link with response := afterRead s n b, miso := shifted s n b }) :=
  congrArg Host.Outcome.next (if_pos (by simp [hup, hn]))

theorem exec_badRequest {s : State} (hup : linkUp s = true) {bytes : List Byte} (hbad : badFraming bytes = true) (w : Bool) :
    exec (.badRequest bytes w) s
      = .next (s.setLink { s.link with response := some ⟨.badRequest, []⟩, miso := shifted s bytes.length w }) :=
  congrArg Host.Outcome.next (if_pos (by simp [hup, hbad]))

theorem afterRead_window (s : State) (n : Nat) : afterRead s n true = s.link.response := by
  cases h : s.link.response <;> simp [afterRead, h]

theorem afterRead_empty {s : State} (h : s.link.response = none) (n : Nat) (b : Bool) :
    afterRead s n b = none := by simp [afterRead, h]

theorem afterRead_whole {s : State} {r : Response} (h : s.link.response = some r) {n : Nat} (hn : 4 + r.body.length ≤ n) :
    afterRead s n false = none := by simp [afterRead, h, hn]

theorem afterRead_part {s : State} {r : Response} (h : s.link.response = some r) {n : Nat} (hn : n < 4 + r.body.length) :
    afterRead s n false = some r := by simp [afterRead, h, hn]

/-- R165, R167: a request that is taken. -/
theorem request_answered {i : Instr} {s : State} (hup : linkUp s = true) (h : isRequest i = true) :
    ∃ t r, exec i s = .next t ∧ t.link.response = some r ∧ t.link.miso = shifted s (frameOf i).length (windowOf i) := by
  obtain ⟨code, sel, body, act, hframe, hexec⟩ := exec_request h
  rw [hexec, takeRequest_up hup, hframe, Laws.length_frame]
  exact ⟨_, _, rfl, rfl, rfl⟩

/-- Settles O5: a read by what it shifts and what it keeps pending, for a whole response, a part of one, a busy window and an
empty buffer; a refused frame by `exec_badRequest`, a request by `request_answered`. -/
theorem readsAndRefusedRequests : Obligations.ReadsAndRefusedRequests := by
  intro s n hup hn
  refine ⟨rfl, fun r hr hwhole => ?_, fun r hr hpart => ?_, ?_, fun hnone b => ?_,
    fun bytes w hbad => exec_badRequest hup hbad w, fun i hi => request_answered hup hi, fun k w h => ?_,
    fun k r hr => shifted_response hr k⟩
  · rw [exec_readTransaction hup hn, afterRead_whole hr hwhole, shifted_whole hr hwhole]
  · rw [exec_readTransaction hup hn, afterRead_part hr hpart, shifted_part hr hpart.le, ← hr]
  · rw [exec_readTransaction hup hn, afterRead_window, shifted_window]
  · rw [exec_readTransaction hup hn, afterRead_empty hnone, shifted_empty hnone, ← hnone]
  · rcases h with rfl | hnone
    · exact shifted_window s k
    · exact shifted_empty hnone k w

end Sys2Proof

namespace Sys2Proof
open Machine

/-! ## Events and masks (R54, R172, R174, R175, R177, R178) -/

/-! ### Masks (R174) -/

theorem maskRequest_desk {sel : Byte} {d : Desk} (hsel : sel.toNat = d.val) (word : Word16) (s : State) :
    maskRequest sel word s = deskMaskRequest word d s := by
  have hsite : sel ≠ 4 := by
    rintro rfl
    exact absurd d.isLt (Nat.not_lt.mpr hsel.le)
  rw [maskRequest, if_neg hsite, forDesk_of hsel]

theorem maskRequest_site (word : Word16) (s : State) : maskRequest 4 word s = siteMaskRequest word s := rfl

theorem exec_mask {s : State} (hup : linkUp s = true) (sel : Byte) (word : Word16) (w : Bool) : exec (.mask sel word w) s =
    .next (replied w s (maskRequest sel word s).state 2 (maskRequest sel word s).status (maskRequest sel word s).body) :=
  congrArg Host.Outcome.next (takeRequest_up hup w 2 (maskRequest sel word))

/-- Settles O25: the selector gives the desk's or the site's request, and each of the two tests its word once. -/
theorem maskBecomesTheWord : Obligations.MaskBecomesTheWord := by
  intro s sel word w hup
  rw [exec_mask hup]
  refine ⟨fun d hsel hword => ?_, fun d hsel hword => ?_, fun hsel hword => ?_, fun hsel hword => ?_⟩
  · rw [maskRequest_desk hsel, deskMaskRequest, if_pos hword]
    rfl
  · rw [maskRequest_desk hsel, deskMaskRequest, if_neg (by omega)]
    rfl
  · rw [hsel, maskRequest_site, siteMaskRequest, if_pos hword]
    rfl
  · rw [hsel, maskRequest_site, siteMaskRequest, if_neg (by omega)]
    rfl

/-! ### Events (R54, R177, R178) -/

theorem exec_deskEvents {s : State} {d : Desk} {sel : Byte} (hup : linkUp s = true) (hsel : sel.toNat = d.val) (w : Bool) :
    exec (.deskEvents sel w) s = .next (replied w s (acknowledge d (clearDeskFlags d s)) 0 .ok
      (bytes16 ((s.link.deskFlags.get d).setWidth 16))) := by
  have hexec : exec (.deskEvents sel w) s = .next (takeRequest w 0 (forDesk sel deskEventsRequest) s) := rfl
  rw [hexec, takeRequest_up hup, forDesk_of hsel]
  rfl

theorem acknowledge_not_barred {d : Desk} {s : State} (h : ¬ hasState s d .barred) : acknowledge d s = s := if_neg h

/-- R54: s with the starvation acknowledgment of desk d given. -/
def acknowledged (d : Desk) (s : State) : State := setDesk s d { getDesk s d with ack := true }

theorem getDesk_acknowledged (d : Desk) (s : State) :
    getDesk (acknowledged d s) d = { getDesk s d with ack := true } := by
  rw [acknowledged, getDesk_setDesk, if_pos rfl]

/-- R54: with the acknowledgment given, a bar is lifted as soon as its run is complete. -/
theorem barDone_acknowledged_iff (d : Desk) (s : State) :
    barDone (acknowledged d s) (getDesk (acknowledged d s) d) = true
      ↔ hasState s d .barred ∧ s.setup.coolOff ≤ (getDesk s d).barRun := by
  have hsetup : (acknowledged d s).setup = s.setup := rfl
  simp [barDone, getDesk_acknowledged, hsetup]

theorem acknowledge_barred {d : Desk} {s : State} (h : hasState s d .barred) :
    acknowledge d s = testBar d (acknowledged d s) := if_pos h

/-- R54: the acknowledgment while the bar run goes on. -/
theorem acknowledge_runs {d : Desk} {s : State} (h : hasState s d .barred) (hrun : (getDesk s d).barRun < s.setup.coolOff) :
    acknowledge d s = acknowledged d s := by
  have hnot : ¬ (hasState s d .barred ∧ s.setup.coolOff ≤ (getDesk s d).barRun) := by
    rintro ⟨-, hdone⟩
    omega
  rw [acknowledge_barred h, testBar, if_neg (mt (barDone_acknowledged_iff d s).mp hnot)]

/-- R54: the acknowledgment where the bar run is complete. -/
theorem acknowledge_lifts {d : Desk} {s : State} (h : hasState s d .barred) (hrun : s.setup.coolOff ≤ (getDesk s d).barRun) :
    acknowledge d s = raiseDesk d .barLifted
      (setDesk s d { getDesk s d with record := { (getDesk s d).record with state := .idle }, ack := true }) := by
  rw [acknowledge_barred h, testBar, if_pos ((barDone_acknowledged_iff d s).mpr ⟨h, hrun⟩), getDesk_acknowledged]
  simp only [acknowledged, setDesk, setClaims_setClaims, setClaims_claims, Four.set_set]

/-- R172: a flag raised after the flags of its desk are cleared is the only one pending there. -/
theorem raiseDesk_setDesk_clearDeskFlags (d : Desk) (f : DeskFlag) (x : OwnDesk) (s : State) :
    raiseDesk d f (setDesk (clearDeskFlags d s) d x)
      = (setDesk s d x).setLink { s.link with deskFlags := s.link.deskFlags.set d f.mask } := by
  have honly : (0 : BitVec 6) ||| f.mask = f.mask := BitVec.zero_or
  simp only [raiseDesk, setDesk, clearDeskFlags, setClaims_link, setLink_link, Four.set_set, Four.get_set_self, honly]
  rfl

/-- Settles O22: the flags are returned as they stand and cleared; `acknowledge` then leaves a desk that is not BARRED, and on
a BARRED one it does what `acknowledge_lifts` and `acknowledge_runs` say. -/
theorem eventsReadAndClear : Obligations.EventsReadAndClear := by
  intro s d sel w hup hsel
  rw [exec_deskEvents hup hsel]
  refine ⟨?_, fun hnot => ?_, fun hbarred hrun => ?_, fun hbarred hrun => ?_⟩
  · exact congrArg Host.Outcome.next (takeRequest_up hup w 0 siteEventsRequest)
  · rw [acknowledge_not_barred (s := clearDeskFlags d s) hnot]
    rfl
  · rw [acknowledge_lifts (s := clearDeskFlags d s) hbarred hrun, raiseDesk_setDesk_clearDeskFlags]
    rfl
  · rw [acknowledge_runs (s := clearDeskFlags d s) hbarred hrun]
    rfl

/-! ### The summary and ATTN (R175) -/

theorem and_twoPow_eq_zero_iff {w : Nat} (x : BitVec w) {i : Nat} (hi : i < w) :
    x &&& BitVec.twoPow w i = 0#w ↔ x.getLsbD i = false := by
  have hbit : BitVec.twoPow w i ≠ 0#w := fun h => by simpa [hi] using congrArg (fun y => y.getLsbD i) h
  rw [BitVec.and_twoPow]
  cases x.getLsbD i <;> simp [hbit]

/-- R175: a pending flag whose mask bit is 0, by its place in the word. -/
theorem and_not_ne_zero_iff {w : Nat} (x m : BitVec w) :
    x &&& ~~~ m ≠ 0#w ↔ ∃ i < w, x &&& BitVec.twoPow w i ≠ 0#w ∧ m &&& BitVec.twoPow w i = 0#w := by
  have hplace {i : Nat} (hi : i < w) : (x &&& ~~~ m).getLsbD i = true
      ↔ x &&& BitVec.twoPow w i ≠ 0#w ∧ m &&& BitVec.twoPow w i = 0#w := by
    rw [ne_eq, and_twoPow_eq_zero_iff x hi, and_twoPow_eq_zero_iff m hi, BitVec.getLsbD_and, BitVec.getLsbD_not]
    simp [hi]
  constructor
  · intro h
    by_contra hnone
    refine h (BitVec.eq_of_getLsbD_eq fun i hi => ?_)
    rw [BitVec.getLsbD_zero, ← Bool.not_eq_true, hplace hi]
    exact fun hflag => hnone ⟨i, hi, hflag⟩
  · rintro ⟨i, hi, hflag⟩ h
    have := (hplace hi).mpr hflag
    rw [h, BitVec.getLsbD_zero] at this
    cases this

theorem exists_deskFlag_iff (P : BitVec 6 → Prop) : (∃ f : DeskFlag, P f.mask) ↔ ∃ i < 6, P (BitVec.twoPow 6 i) := by
  constructor
  · rintro ⟨f, hf⟩
    cases f
    exacts [⟨0, by decide, hf⟩, ⟨1, by decide, hf⟩, ⟨2, by decide, hf⟩, ⟨3, by decide, hf⟩, ⟨4, by decide, hf⟩,
      ⟨5, by decide, hf⟩]
  · rintro ⟨i, hi, hP⟩
    interval_cases i
    exacts [⟨.granted, hP⟩, ⟨.onAir, hP⟩, ⟨.ended, hP⟩, ⟨.waitEnd, hP⟩, ⟨.barLifted, hP⟩, ⟨.gap, hP⟩]

theorem exists_siteFlag_iff (P : BitVec 11 → Prop) : (∃ f : SiteFlag, P f.mask) ↔ ∃ i < 11, P (BitVec.twoPow 11 i) := by
  constructor
  · rintro ⟨f, hf⟩
    cases f
    exacts [⟨0, by decide, hf⟩, ⟨1, by decide, hf⟩, ⟨2, by decide, hf⟩, ⟨3, by decide, hf⟩, ⟨4, by decide, hf⟩,
      ⟨5, by decide, hf⟩, ⟨6, by decide, hf⟩, ⟨7, by decide, hf⟩, ⟨8, by decide, hf⟩, ⟨9, by decide, hf⟩,
      ⟨10, by decide, hf⟩]
  · rintro ⟨i, hi, hP⟩
    interval_cases i
    exacts [⟨.syncChange, hP⟩, ⟨.peerChange, hP⟩, ⟨.clampChange, hP⟩, ⟨.split, hP⟩, ⟨.countJump, hP⟩, ⟨.fenced, hP⟩,
      ⟨.guard, hP⟩, ⟨.idSent, hP⟩, ⟨.idOverdue, hP⟩, ⟨.noRf, hP⟩, ⟨.programMismatch, hP⟩]

theorem deskSummary_iff (s : State) (d : Desk) :
    deskSummary s d = true ↔ ∃ f : DeskFlag, deskFlagSet s d f ∧ s.link.deskMasks.get d &&& f.mask = 0 := by
  rw [deskSummary, bne_iff_ne]
  exact (and_not_ne_zero_iff _ _).trans
    (exists_deskFlag_iff fun m => s.link.deskFlags.get d &&& m ≠ 0 ∧ s.link.deskMasks.get d &&& m = 0).symm

theorem siteSummary_iff (s : State) :
    siteSummary s = true ↔ ∃ f : SiteFlag, siteFlagSet s f ∧ s.link.siteMask &&& f.mask = 0 := by
  rw [siteSummary, bne_iff_ne]
  exact (and_not_ne_zero_iff _ _).trans
    (exists_siteFlag_iff fun m => s.link.siteFlags &&& m ≠ 0 ∧ s.link.siteMask &&& m = 0).symm

/-- R175: the places of the five bits of the summary. -/
theorem five_summary_bits : ∀ a b c d e : Bool,
    let x : Byte := BitVec.ofNat 8 (bit a 0 + bit b 1 + bit c 2 + bit d 3 + bit e 4)
    x.getLsbD 0 = a ∧ x.getLsbD 1 = b ∧ x.getLsbD 2 = c ∧ x.getLsbD 3 = d ∧ x.getLsbD 4 = e
      ∧ x.toNat < 32 := by
  decide

theorem summary_bits (s : State) : (summary s).getLsbD 0 = deskSummary s 0 ∧ (summary s).getLsbD 1 = deskSummary s 1
    ∧ (summary s).getLsbD 2 = deskSummary s 2 ∧ (summary s).getLsbD 3 = deskSummary s 3
    ∧ (summary s).getLsbD 4 = siteSummary s ∧ (summary s).toNat < 32 :=
  five_summary_bits _ _ _ _ _

theorem summary_desk (s : State) (d : Desk) : (summary s).getLsbD d.val = deskSummary s d := by
  obtain ⟨hdesk0, hdesk1, hdesk2, hdesk3, -, -⟩ := summary_bits s
  fin_cases d
  exacts [hdesk0, hdesk1, hdesk2, hdesk3]

theorem summary_site (s : State) : (summary s).getLsbD 4 = siteSummary s := by
  obtain ⟨-, -, -, -, hsite, -⟩ := summary_bits s
  exact hsite

theorem summary_above (s : State) {i : Nat} (hi : 5 ≤ i) : (summary s).getLsbD i = false := by
  obtain ⟨-, -, -, -, -, hlt⟩ := summary_bits s
  exact Nat.testBit_lt_two_pow (hlt.trans_le (Nat.pow_le_pow_right Nat.two_pos hi))

theorem attn_iff (s : State) : attn s = true ↔ s.power.phase = .up ∧ summary s ≠ 0 := by
  rw [attn, Bool.and_eq_true, linkUp_iff, bne_iff_ne]

/-- A read leaves the link but for the response and MISO, and every other block. -/
theorem readWork_eq (n : Nat) (b : Bool) (s : State) :
    ∃ r m, readWork n b s = s.setLink { s.link with response := r, miso := m } := by
  unfold readWork
  split
  · exact ⟨_, _, rfl⟩
  · exact ⟨s.link.response, s.link.miso, rfl⟩

/-- Settles O26: `summary_desk`, `summary_site` and `summary_above` are the bits of the summary, `deskSummary_iff` and
`siteSummary_iff` say which flags they follow; a read changes neither flags nor masks. -/
theorem summaryAndAttnFollowFlags : Obligations.SummaryAndAttnFollowFlags := by
  intro s
  refine ⟨fun d => ?_, ?_, fun i hi => summary_above s hi, attn_iff s, fun n b => ?_⟩
  · rw [summary_desk, deskSummary_iff]
  · rw [summary_site, siteSummary_iff]
  · obtain ⟨r, m, hread⟩ := readWork_eq n b s
    exact ⟨_, congrArg Host.Outcome.next hread, rfl, rfl, rfl⟩

end Sys2Proof

namespace Sys2Proof
open Machine

/-! ## Commands before their time (R1, R165) -/

/-- R1, R19: frame points are given by a part that is up and closed. -/
theorem up_and_closed_of_frameRuns {s : State} (h : frameRuns s = true) : s.power.phase = .up ∧ s.setup.closed = true := by
  rw [frameRuns, Bool.and_eq_true, Bool.and_eq_true, linkUp_iff] at h
  obtain ⟨hupClosed, -⟩ := h
  exact hupClosed

theorem exec_of_not_runs {i : Instr} {s : State} {runs : Bool} {work : State → State}
    (hi : exec i s = .next (whenRuns runs work s)) (h : runs = false) : exec i s = .next s := by
  rw [hi, h]
  rfl

/-- R1, R2: where frame points are not given, no point is signalled and no limit counted on points is reached: each row tests
`frameRuns`, or a condition that rests on it. -/
theorem exec_point_of_not_frameRuns {i : Instr} {s : State} (hi : isPoint i = true) (hframe : frameRuns s = false) :
    exec i s = .next s := by
  have hsample : sampleRuns s = false := by rw [sampleRuns, hframe, Bool.false_and]
  have hpoints : pointsRun s = false := by rw [pointsRun, hsample, Bool.false_and]
  have hsearch : searching s = false := by rw [searching, hframe, Bool.false_and]
  cases i with
  | frameStart _ => exact exec_of_not_runs rfl hframe
  | syncFieldsReceived _ | keySample _ _ _ _ => exact exec_of_not_runs rfl hsample
  | slotReceived _ _ | snapshotComplete _ _ | programReceived _ | announceComplete | waitExpiry | timeLimit | totenf =>
    exact exec_of_not_runs rfl hpoints
  | syncPatternFound _ _ _ | relockCandidateDropped _ => exact exec_of_not_runs rfl hsearch
  | relockTestPassed _ _ _ => exact exec_of_not_runs rfl (by rw [hsearch, Bool.false_and])
  | leadEnd | primeToOn | gapDeclared | releaseAfterDone | drainComplete | starvation | tailEnd | identEnd =>
    exact exec_of_not_runs rfl (by rw [hframe, Bool.false_and])
  | huntWaitExpired | holdoverWaitExpired | barLifted _ | idOverdue | guardCycleBegin =>
    exact exec_of_not_runs rfl
      (by simp [huntReaches, holdoverReaches, barLifts, overdueReaches, cycleBegins, hframe])
  | timingReadbackLimit | stuck | noRf | reflectSet | reflectClear | settleComplete =>
    exact exec_of_not_runs rfl
      (by simp [readbackReaches, stuckReaches, noRfReaches, reflectSets, reflectClears, settleReaches, hsample])
  | missRunLimit | fence | peerJoined _ | peerLost _ _ | splitRelease | idDue _ | tailWaitComplete | orphan
  | programRunLimit =>
    exact exec_of_not_runs rfl
      (by simp [missReaches, fenceReaches, joinReaches, lossReaches, splitReaches, dueReaches, tailWaitReaches,
        orphanReaches, programReaches, hpoints])
  | _ => cases hi

/-- R165: while the part is in reset or in the settle wait, CSL is ignored. -/
theorem exec_transaction_of_not_up {i : Instr} {s : State} (hi : isTransaction i = true) (hdown : linkUp s = false) :
    exec i s = .next s := by
  rcases (Bool.or_eq_true _ _).mp hi with hreq | hother
  · obtain ⟨code, sel, body, act, -, hexec⟩ := exec_request hreq
    rw [hexec, takeRequest_down hdown]
  · cases i with
    | emptyTransaction => rfl
    | readTransaction _ _ | badRequest _ _ => exact congrArg Host.Outcome.next (if_neg (by simp [hdown]))
    | _ => cases hother

/-- Settles O4: `exec_transaction_of_not_up` for the link; no point and no limit counted on points arises where
`frameRuns` is false, and it is false before the part is up and closed. -/
theorem nothingBeforeItsTime : Obligations.NothingBeforeItsTime := by
  intro i s
  refine ⟨fun hdown hi => ?_, fun hearly hi => ?_⟩
  · exact exec_transaction_of_not_up hi (by rw [← Bool.not_eq_true, linkUp_iff]; exact hdown)
  · refine exec_point_of_not_frameRuns hi ?_
    rw [← Bool.not_eq_true]
    intro hruns
    obtain ⟨hup, hclosed⟩ := up_and_closed_of_frameRuns hruns
    rcases hearly with hdown | hopen
    · exact hdown hup
    · rw [hopen] at hclosed
      cases hclosed

end Sys2Proof

namespace Sys2Proof
open Machine

/-! ## Resets and start-up (R183 to R186) -/

theorem exec_resetCommand (c : ResetCause) (s : State) : exec (resetCommand c) s = .next (resetTo c s) := by
  cases c <;> rfl

section
variable (c : ResetCause) (s : State)

theorem setupReset_resetTo : setupReset (resetTo c s) :=
  ⟨rfl, rfl, rfl, rfl, rfl, fun d => Four.get_all _ d, rfl, rfl, rfl, rfl, rfl, rfl, rfl, rfl, rfl, rfl, rfl, rfl, rfl⟩

theorem busReset_resetTo : busReset (resetTo c s) :=
  ⟨fun k => ⟨Eight.get_all _ k, Eight.get_all _ k⟩, rfl, rfl, rfl, rfl, rfl, rfl, rfl, rfl, rfl, rfl⟩

theorem syncReset_resetTo : syncReset (resetTo c s) :=
  ⟨rfl, rfl, rfl, rfl, rfl, rfl, rfl, rfl, rfl, rfl, rfl, rfl, fun k => Eight.get_all _ k⟩

theorem claimsReset_resetTo : claimsReset (resetTo c s) := by
  have habsent (k : Station) (d : Desk) : (Records.absent.get k).get d = ⟨.absent, .normal, .noReason, 0⟩ := by
    rw [Records.absent, Eight.get_all, Four.get_all]
    rfl
  have hstate (k : Station) (d : Desk) : ((Records.absent.get k).get d).state = .absent := by rw [habsent]
  exact ⟨fun d => Four.get_all _ d, habsent, fun k d => ⟨hstate k d, hstate k d⟩, rfl, rfl, rfl, rfl, rfl, rfl⟩

theorem airReset_resetTo : airReset (resetTo c s) :=
  ⟨rfl, rfl, rfl, fun d => ⟨Four.get_all _ d, Four.get_all _ d⟩, rfl, rfl, rfl, rfl, rfl, rfl, rfl, rfl, rfl, rfl, rfl, rfl,
    rfl, rfl, rfl, rfl, rfl, rfl, rfl⟩

theorem clampReset_resetTo : clampReset (resetTo c s) :=
  ⟨rfl, rfl, rfl, rfl, rfl, rfl, rfl, rfl, rfl, rfl, rfl, rfl, rfl, rfl, rfl, rfl, rfl, rfl, rfl, rfl, rfl,
    fun d => ⟨Four.get_all _ d, Four.get_all _ d⟩⟩

theorem resetValues_resetTo : resetValues (resetTo c s) :=
  ⟨setupReset_resetTo c s, busReset_resetTo c s, syncReset_resetTo c s, claimsReset_resetTo c s, airReset_resetTo c s,
    clampReset_resetTo c s⟩

end

/-- Settles O3: a reset leaves each block of tables at its values (`resetValues_resetTo`); the end of a reset and the end of
the settle wait are each the work of the phase that the part is in. -/
theorem resetAndStartUp : Obligations.ResetAndStartUp := by
  intro s
  refine ⟨fun c => ⟨resetTo c s, exec_resetCommand c s, resetValues_resetTo c s, rfl, rfl⟩, fun stn settle h => ?_, fun h => ?_⟩
  · exact congrArg Host.Outcome.next (if_pos h)
  · exact congrArg Host.Outcome.next (if_pos h)

end Sys2Proof

namespace Sys2Proof
open Machine

/-! ## A step on an empty queue (R152, R153, R185) -/

/-- R153: the two stages hold every count up to 65535. -/
theorem counterOf_putCounter {n : Nat} (h : n < 65536) (g : Guard) : counterOf (putCounter n g) = n := by
  simp only [counterOf, putCounter, BitVec.toNat_ofNat]
  omega

theorem charging_iff (s : State) : charging s = true ↔ s.guard.phase = .chargeRef ∨ s.guard.phase = .chargeMeas := by
  simp [charging]

section
variable {s : State}

theorem settleTick_settling (h : s.power.phase = .settling) : settleTick s =
    s.setPower ⟨.settling, min (s.power.settleCount + 1) (Config.settleCycles s.setup.settle)⟩ := by
  rw [settleTick, if_pos h, ← h]
  rfl

theorem settleTick_other (h : s.power.phase ≠ .settling) : settleTick s = s := if_neg h

theorem guardTick_charging (h : s.guard.phase = .chargeRef ∨ s.guard.phase = .chargeMeas) :
    guardTick s = s.setGuard { s.guard with ticks := min (s.guard.ticks + 1) 20480 } :=
  if_pos ((charging_iff s).mpr h)

theorem guardTick_discharging (h : s.guard.phase = .dischargeRef ∨ s.guard.phase = .dischargeMeas) :
    guardTick s = s.setGuard (putCounter (min (counterOf s.guard + 1) 65535) s.guard) := by
  have hcharge : ¬ charging s = true := by rcases h with h | h <;> simp [charging, h]
  rw [guardTick, if_neg hcharge, if_pos ((discharging_iff s).mpr h)]
  rfl

theorem guardTick_other (h : s.guard.phase = .off ∨ s.guard.phase = .idle) : guardTick s = s := by
  have hcharge : ¬ charging s = true := by rcases h with h | h <;> simp [charging, h]
  have hdischarge : ¬ discharging s = true := by rcases h with h | h <;> simp [discharging, h]
  rw [guardTick, if_neg hcharge, if_neg hdischarge]

end

/-- R185: the settle count is of the start-up record alone. -/
theorem settleTick_eq (s : State) : settleTick s = s.setPower (settleTick s).power := by
  unfold settleTick
  split <;> rfl

theorem settleTick_guard (s : State) : (settleTick s).guard = s.guard := by rw [settleTick_eq]; rfl

/-- R152, R153: the ticks and the discharge counter are of the guard meter alone. -/
theorem guardTick_eq (s : State) : guardTick s = s.setGuard (guardTick s).guard := by
  unfold guardTick
  (repeat' split) <;> rfl

theorem tick_eq (s : State) : tick s = { s with power := (settleTick s).power, guard := (tick s).guard } := by
  rw [tick, guardTick_eq, settleTick_eq]
  rfl

/-- Settles O2: one cycle of the settle wait (`settleTick`) and one of the guard meter (`guardTick`), which read and change
different blocks. -/
theorem idleStepIsOneReferenceCycle : Obligations.IdleStepIsOneReferenceCycle := by
  intro s hempty
  have hstep : step s = .next (tick s) := by rw [step, hempty]
  have hguard := settleTick_guard s
  have hpower : (tick s).power = (settleTick s).power := by rw [tick_eq]
  refine ⟨tick s, hstep, ?_, fun h => ?_, fun h => ?_, fun h => ?_, fun h => ?_, fun h => ?_⟩
  · rw [hpower]
    exact tick_eq s
  · rw [hpower, settleTick_settling h, setPower_power]
  · rw [hpower, settleTick_other h]
  · rw [tick, guardTick_charging (by rwa [hguard]), hguard, setGuard_guard]
  · rw [tick, guardTick_discharging (by rwa [hguard]), hguard, setGuard_guard]
    exact ⟨rfl, counterOf_putCounter (by omega) _⟩
  · rw [tick, guardTick_other (by rwa [hguard]), hguard]

end Sys2Proof

namespace Sys2Proof
open Machine

/-! ## SET (R83, R187, Table 11-2) -/

/-- R167: a request is answered as its action says. -/
theorem takeRequest_answers {s t : State} {act : State → Answer} {st : Status} {body : List Byte} (hup : linkUp s = true)
    (h : act s = ⟨t, st, body⟩) (w : Bool) (n : Nat) : takeRequest w n act s = replied w s t n st body := by
  rw [takeRequest_up hup, h]

/-! ### The ranges of the fields -/

theorem fieldKnown_iff (f : Nat) : fieldKnown f = true ↔ 1 ≤ f ∧ f ≤ 19 := decide_eq_true_iff

theorem fieldRange_known {f v : Nat} (h : fieldRange f v) : 1 ≤ f ∧ f ≤ 19 := by
  unfold fieldRange at h
  omega

/-- R187: the check of the value is the range of Table 11-2. -/
theorem fieldOk_iff (f v : Nat) : fieldOk f v = true ↔ fieldRange f v := by
  unfold fieldOk
  split
  case h_20 =>
    refine iff_of_false Bool.false_ne_true fun h => ?_
    have hknown := fieldRange_known h
    simp only [imp_false] at *
    omega
  case h_2 | h_14 => simp [fieldRange, or_assoc]
  all_goals simp [within, fieldRange]

/-! ### What an accepted value writes -/

/-- R187: an accepted SET touches the setup store and the pool only, and of the setup store only the fields of Table 11-2. -/
theorem putField_kept (f v : Nat) (s : State) :
    putField f v s = { s with setup := (putField f v s).setup, pool := (putField f v s).pool }
    ∧ (putField f v s).setup.station = s.setup.station ∧ (putField f v s).setup.settle = s.setup.settle
    ∧ (putField f v s).setup.resetCause = s.setup.resetCause ∧ (putField f v s).setup.closed = s.setup.closed
    ∧ (putField f v s).setup.digest = s.setup.digest ∧ (putField f v s).setup.clipReady = s.setup.clipReady := by
  unfold putField
  split
  case h_2 =>
    unfold setPoolSize
    split <;> exact ⟨rfl, rfl, rfl, rfl, rfl, rfl, rfl⟩
  all_goals exact ⟨rfl, rfl, rfl, rfl, rfl, rfl, rfl⟩

/-- R83: only pool_size forms the pool. -/
theorem putField_pool {f : Nat} (hf : f ≠ 2) (v : Nat) (s : State) : (putField f v s).pool = s.pool := by
  unfold putField
  split
  case h_2 => exact absurd rfl hf
  all_goals rfl

/-- R83: the pool is formed with the size given, where that is not the one it has. -/
theorem putField_poolSize {v : Nat} {s : State} (h : s.pool.size ≠ some v) :
    (putField 2 v s).pool = { s.pool with size := some v, free := v - s.pool.clip.length } := by
  have hform : putField 2 v s = formPool v s := if_neg h
  rw [hform]
  rfl

/-- R83: the pool has the size given, formed or found so. -/
theorem setPoolSize_size (v : Nat) (s : State) : (setPoolSize v s).pool.size = some v := by
  unfold setPoolSize
  split
  next h => exact h
  next => rfl

/-- R187: the field holds the value. -/
theorem fieldValue_putField_self {f v : Nat} (h : fieldRange f v) (s : State) :
    fieldValue (putField f v s) f = some v := by
  have flag (hv : v ≤ 1) : (if (v == 1) = true then 1 else 0) = v := by
    rcases Nat.le_one_iff_eq_zero_or_eq_one.mp hv with rfl | rfl <;> rfl
  have hknown := fieldRange_known h
  unfold fieldRange at h
  unfold putField
  split
  case h_1 =>
    have hv : (BitVec.ofNat 4 v).toNat = v := Nat.mod_eq_of_lt (by omega)
    exact congrArg some hv
  case h_2 => exact setPoolSize_size v s
  case h_7 | h_8 => exact congrArg some (flag (by omega))
  case h_20 =>
    simp only [imp_false] at *
    omega
  all_goals rfl

/-- R187: every other field holds what it held. -/
theorem fieldValue_putField_ne {f g : Nat} (h : g ≠ f) (v : Nat) (s : State) :
    fieldValue (putField f v s) g = fieldValue s g := by
  unfold putField
  split
  case h_2 =>
    unfold setPoolSize
    split
    · rfl
    · unfold fieldValue
      split <;> try rfl
      exact absurd rfl h
  case h_20 => rfl
  all_goals
    unfold fieldValue
    split <;> try rfl
    exact absurd rfl h

/-- R187: a value equal to the one held changes nothing. -/
theorem putField_held {f v : Nat} {s : State} (h : fieldValue s f = some v) : putField f v s = s := by
  have flag (b : Bool) (hv : (if b then 1 else 0) = v) : (v == 1) = b := by
    subst hv
    cases b <;> rfl
  unfold putField
  split
  case h_1 =>
    have hv : s.setup.deskEnable.toNat = v := Option.some.inj h
    rw [← hv, BitVec.ofNat_toNat, BitVec.setWidth_eq]
    rfl
  case h_2 => exact if_pos h
  case h_3 | h_4 | h_5 | h_6 =>
    obtain rfl := Option.some.inj h
    rw [putQuota, Four.set_get]
    rfl
  case h_7 | h_8 =>
    rw [flag _ (Option.some.inj h)]
    rfl
  case h_20 => rfl
  all_goals
    obtain rfl := Option.some.inj h
    rfl

/-! ### The request (R187) -/

section
variable {f v : Nat} {s : State}

theorem setRequest_closed (hc : s.setup.closed = true) : setRequest f v s = .refuse .setupClosed s := if_pos hc

theorem setRequest_unknown (hc : s.setup.closed = false) (hf : f = 0 ∨ 19 < f) :
    setRequest f v s = .refuse .badField s := by
  have hunknown : fieldKnown f = false := by
    rw [← Bool.not_eq_true, fieldKnown_iff]
    omega
  simp [setRequest, hc, hunknown]

theorem setRequest_outOfRange (hc : s.setup.closed = false) (hf : 1 ≤ f ∧ f ≤ 19) (hv : ¬ fieldRange f v) :
    setRequest f v s = .refuse .badValue s := by
  have hbad : fieldOk f v = false := by rwa [← Bool.not_eq_true, fieldOk_iff]
  simp [setRequest, hc, (fieldKnown_iff f).mpr hf, hbad]

theorem setRequest_accepted (hc : s.setup.closed = false) (hv : fieldRange f v) :
    setRequest f v s = .ok (putField f v s) := by
  simp [setRequest, hc, (fieldKnown_iff f).mpr (fieldRange_known hv), (fieldOk_iff f v).mpr hv]

end

theorem exec_setField {s t : State} {f : Byte} {v : BitVec 32} {st : Status} (hup : linkUp s = true)
    (h : setRequest f.toNat v.toNat s = ⟨t, st, []⟩) (w : Bool) :
    exec (.setField f v w) s = .next (replied w s t 4 st []) :=
  congrArg Host.Outcome.next (takeRequest_answers hup h w 4)

/-- Settles O9: the checks of R187 in order, and of an accepted value what `putField` writes and what it leaves. -/
theorem setWritesOneField : Obligations.SetWritesOneField := by
  intro s f v w hup
  refine ⟨fun hc => exec_setField hup (setRequest_closed hc) w, fun hc hf => exec_setField hup (setRequest_unknown hc hf) w,
    fun hc hlow hhigh hv => exec_setField hup (setRequest_outOfRange hc ⟨hlow, hhigh⟩ hv) w, fun hc hv hheld => ?_,
    fun hc hv => ?_⟩
  · have haccepted := setRequest_accepted hc hv
    rw [putField_held hheld] at haccepted
    exact exec_setField hup haccepted w
  · obtain ⟨hblocks, hstation, hsettle, hcause, hclosed, hdigest, hready⟩ := putField_kept f.toNat v.toNat s
    refine ⟨putField f.toNat v.toNat s, exec_setField hup (setRequest_accepted hc hv) w, hblocks,
      fieldValue_putField_self hv s, fun g hg => fieldValue_putField_ne hg v.toNat s, hstation, hsettle, hcause,
      hclosed.trans hc, hdigest, hready, fun hf => putField_pool hf v.toNat s, fun hf hsize => ?_⟩
    rw [hf]
    exact putField_poolSize hsize

end Sys2Proof

namespace Sys2Proof
open Machine

/-! ## LOAD_CLIP (R85, R189) -/

/-! ### The clip region written (R85) -/

section
variable {clip : List Cell} {offset : Nat} {cells : List Cell} {i : Nat}

/-- R85: the region before the offset, with the positions not written before holding zero samples. -/
theorem length_clipBefore (clip : List Cell) (offset : Nat) :
    ((clip ++ List.replicate (offset - clip.length) (Eight.all 0)).take offset).length = offset := by
  rw [List.length_take, List.length_append, List.length_replicate]
  omega

/-- R85: a position before the offset keeps its cell, and holds zero samples where it had none. -/
theorem writeClip_before (h : i < offset) : (writeClip clip offset cells)[i]? =
    if i < clip.length then clip[i]? else some (Eight.all 0) := by
  rw [writeClip, List.append_assoc, List.getElem?_append_left (by rw [length_clipBefore]; exact h),
    List.getElem?_take_of_lt h]
  split
  next hin => rw [List.getElem?_append_left hin]
  next hout => rw [List.getElem?_append_right (by omega), List.getElem?_replicate_of_lt (by omega)]

/-- R85: the cells stand at the offset. -/
theorem writeClip_at (hlow : offset ≤ i) (hhigh : i < offset + cells.length) :
    (writeClip clip offset cells)[i]? = cells[i - offset]? := by
  rw [writeClip, List.append_assoc, List.getElem?_append_right (by rw [length_clipBefore]; exact hlow), length_clipBefore,
    List.getElem?_append_left (by omega)]

/-- R85: a position behind the cells keeps its cell. -/
theorem writeClip_behind (h : offset + cells.length ≤ i) : (writeClip clip offset cells)[i]? = clip[i]? := by
  rw [writeClip, List.append_assoc, List.getElem?_append_right (by rw [length_clipBefore]; omega), length_clipBefore,
    List.getElem?_append_right (by omega), List.getElem?_drop]
  congr 1
  omega

/-- R85: what each position of the region holds. -/
theorem getElem?_writeClip (h : i < (writeClip clip offset cells).length) : (writeClip clip offset cells)[i]? =
    if offset ≤ i ∧ i < offset + cells.length then cells[i - offset]?
    else if i < clip.length then clip[i]? else some (Eight.all 0) := by
  rw [length_writeClip] at h
  split
  next hat =>
    obtain ⟨hlow, hhigh⟩ := hat
    exact writeClip_at hlow hhigh
  next hnot =>
    by_cases hbefore : i < offset
    · exact writeClip_before hbefore
    · have hbehind : offset + cells.length ≤ i := by omega
      rw [writeClip_behind hbehind, if_pos (by omega)]

end

/-! ### The request (R189) -/

section
variable {offset : Nat} {cells : List Cell} {s : State}

theorem loadClipRequest_closed (hc : s.setup.closed = true) : loadClipRequest offset cells s = .refuse .setupClosed s :=
  if_pos hc

theorem loadClipRequest_unformed (hc : s.setup.closed = false) (hsize : s.pool.size = none) :
    loadClipRequest offset cells s = .refuse .notReady s := by
  simp [loadClipRequest, hc, hsize]

/-- R189: the last two checks, on the number of cells and on where they fall. -/
theorem loadClipRequest_formed (hc : s.setup.closed = false) (hsize : s.pool.size ≠ none) :
    loadClipRequest offset cells s =
      if cells.length = 0 ∨ 20 < cells.length ∨ 399 < offset ∨ 400 < offset + cells.length then .refuse .badValue s
      else .ok (loadClip offset cells s) := by
  have hformed : s.pool.size.isNone = false := by simpa [Option.isNone_eq_false_iff, Option.isSome_iff_ne_none] using hsize
  have hcount : within 1 Config.maxCells cells.length = true ↔ 1 ≤ cells.length ∧ cells.length ≤ 20 := decide_eq_true_iff
  have hclip : Config.maxClip = 400 := rfl
  simp only [loadClipRequest, hc, hformed, hclip, Bool.false_eq_true, if_false, Bool.not_eq_true', ← Bool.not_eq_true, hcount]
  split
  next hbad => rw [if_pos (by omega)]
  next hgood => exact if_congr (by omega) rfl rfl

end

theorem exec_loadClip {s t : State} {o : Word16} {cells : List Cell} {st : Status} (hup : linkUp s = true)
    (h : loadClipRequest o.toNat cells s = ⟨t, st, []⟩) (w : Bool) :
    exec (.loadClip o cells w) s = .next (replied w s t (2 + 16 * cells.length) st []) :=
  congrArg Host.Outcome.next (takeRequest_answers hup h w _)

/-- Settles O10: the checks of R189 in order, and the region that R85 writes, position by position. -/
theorem loadClipWritesTheClip : Obligations.LoadClipWritesTheClip := by
  intro s o cells w hup
  refine ⟨fun hc => exec_loadClip hup (loadClipRequest_closed hc) w,
    fun hc hsize => exec_loadClip hup (loadClipRequest_unformed hc hsize) w, fun hc hsize hbad => ?_,
    fun hc hsize hlow hhigh hoffset hend => ?_⟩
  · exact exec_loadClip hup ((loadClipRequest_formed hc hsize).trans (if_pos hbad)) w
  · have hfit : ¬ (cells.length = 0 ∨ 20 < cells.length ∨ 399 < o.toNat ∨ 400 < o.toNat + cells.length) := by omega
    exact ⟨(loadClip o.toNat cells s).pool, exec_loadClip hup ((loadClipRequest_formed hc hsize).trans (if_neg hfit)) w,
      rfl, length_writeClip _ _ _, fun i hi => getElem?_writeClip hi⟩

end Sys2Proof

namespace Sys2Proof
open Machine

/-! ## The close of setup (R188, R190, R191) -/

/-! ### The checks (R190) -/

/-- R190: the desk that check 2 names is the lowest enabled desk with a quota below 20. -/
theorem shortQuota_lowest {s : State} {d : Desk} (hd : deskEnabled s d = true) (hshort : s.setup.quota.get d < 20)
    (hlow : ∀ e : Desk, e < d → deskEnabled s e = true → 20 ≤ s.setup.quota.get e) : shortQuota s = some d := by
  have hsplit : ∀ d : Desk, allDesks = allDesks.filter (· < d) ++ d :: allDesks.filter (d < ·) := by decide
  refine List.find?_eq_some_iff_append.mpr ⟨by simp [hd, hshort], _, _, hsplit d, fun e he => ?_⟩
  have hlt : e < d := by simpa using (List.mem_filter.mp he).2
  cases hen : deskEnabled s e with
  | false => rfl
  | true => simp [hlow e hlt hen]

theorem shortQuota_none {s : State} (h : ∀ d : Desk, deskEnabled s d = true → 20 ≤ s.setup.quota.get d) :
    shortQuota s = none := by
  refine List.find?_eq_none.mpr fun d _ => ?_
  cases hen : deskEnabled s d with
  | false => simp
  | true => simp [h d hen]

section
variable {s : State} {n : Nat}

theorem closeFailure_unformed (hsize : s.pool.size = none) : closeFailure s = some 2 := by
  simp [closeFailure, hsize]

theorem closeFailure_quota {d : Desk} (hsize : s.pool.size = some n) (hshort : shortQuota s = some d) :
    closeFailure s = some (3 + d.val) := by
  simp [closeFailure, hsize, hshort]

/-- R190: the last two checks, with the pool formed and each enabled desk's quota at 20 or more. -/
theorem closeFailure_sums (hsize : s.pool.size = some n) (hshort : shortQuota s = none) : closeFailure s =
    if n < enabledSum s + s.pool.clip.length then some 2
    else if s.setup.heatClear ≤ s.setup.heatTrip then some 10 else none := by
  simp only [closeFailure, hsize, hshort]
  rfl

theorem closeRequest_closed (hc : s.setup.closed = true) : closeRequest s = .refuse .setupClosed s := if_pos hc

theorem closeRequest_failed {f : Nat} (hc : s.setup.closed = false) (hf : closeFailure s = some f) :
    closeRequest s = ⟨s, .badValue, [BitVec.ofNat 8 f]⟩ := by
  simp [closeRequest, hc, hf, numBytes]

theorem closeRequest_passed (hc : s.setup.closed = false) (hf : closeFailure s = none) :
    closeRequest s = .ok (closeWork s) := by
  simp [closeRequest, hc, hf]

theorem exec_closeSetup (hup : linkUp s = true) {t : State} {st : Status} {body : List Byte}
    (h : closeRequest s = ⟨t, st, body⟩) (w : Bool) : exec (.closeSetup w) s = .next (replied w s t 0 st body) :=
  congrArg Host.Outcome.next (takeRequest_answers hup h w 0)

end

/-- Settles O11: each check of R190 as the value of `closeFailure`, and the answer that `closeRequest` makes of it. -/
theorem closeSetupRefused : Obligations.CloseSetupRefused := by
  intro s w hup
  refine ⟨fun hc => exec_closeSetup hup (closeRequest_closed hc) w, fun hc => ?_⟩
  have failed {f : Nat} (hf : closeFailure s = some f) := exec_closeSetup hup (closeRequest_failed hc hf) w
  refine ⟨fun hsize => failed (closeFailure_unformed hsize), fun n hsize => ⟨fun d hd hshort hlow => ?_, fun hquotas => ?_⟩⟩
  · exact failed (closeFailure_quota hsize (shortQuota_lowest hd hshort hlow))
  · have hsums := closeFailure_sums hsize (shortQuota_none hquotas)
    refine ⟨fun hover => failed ?_, fun hfits hheat => failed ?_⟩
    · rw [hsums, if_pos hover]
    · rw [hsums, if_neg (Nat.not_lt.mpr hfits), if_pos hheat]

/-! ### A frame start of a quiet station -/

/-- OFF with no order pending, the sequencer's frame start decides OFF, whether or not a withdrawal is due. -/
theorem airFrame_quiet {s : State} (h : airQuiet s.air) : airFrame s = decideOff (applyWithdrawal s) := by
  obtain ⟨hoff, hstart, hident⟩ := h
  cases hdue : s.air.withdrawDue <;> simp [airFrame, applyWithdrawal, hdue, hstart, hident, airDecide, hoff]

/-- A frame start of a quiet station plays no cell: the pool stays. -/
theorem frameWork_quiet {s : State} (h : airQuiet s.air) :
    (frameWork false s).air.state = .off ∧ (frameWork false s).pool = s.pool := by
  have hquiet : airQuiet (publishAll (barWork (runsCounted s) (runsCounted s))).air := by simpa [runsCounted] using h
  have hwork : frameWork false s = latchFrame (airFrame (publishAll (barWork (runsCounted s) (runsCounted s)))) := rfl
  have hlatched (u : State) : (latchFrame u).air = u.air := rfl
  obtain ⟨hoff, -⟩ := airQuiet_airFrame hquiet
  rw [hwork]
  refine ⟨(congrArg Air.state (hlatched _)).trans hoff, ?_⟩
  rw [airFrame_quiet hquiet]
  simp [runsCounted]

theorem frameWork_clamp (b : Bool) (s : State) :
    (frameWork b s).clamp = { s.clamp with unclampCtr := s.clamp.unclampCtr - 1 } := by
  simp [frameWork, latchFrame_spec]

/-! ### The site flags through a frame start -/

theorem siteFlags_barWork (before s : State) : (barWork before s).link.siteFlags = s.link.siteFlags := by
  refine fold_preserves (P := fun t => t.link.siteFlags = s.link.siteFlags) _ (fun d t ht => ?_) rfl
  split
  · rw [← ht]
    unfold barStep testBar
    (repeat' split) <;> simp
  · exact ht

theorem airStable_siteFlags (s : State) : AirStable fun t => t.link.siteFlags = s.link.siteFlags where
  air _ _ h := h
  drives _ _ _ _ h := h
  pool _ _ h := h
  phase _ _ _ _ h := h
  flag _ _ _ h := h
  ending t d r h := (siteFlags_endHolding d r t).trans h

/-- R172: the claim table and the air sequencer raise desk flags only at a frame start. -/
theorem siteFlags_claimsAndAir (b : Bool) (s : State) : (claimsAndAir b s).link.siteFlags = s.link.siteFlags := by
  cases b
  · have hpublished : (publishAll (barWork s s)).link.siteFlags = s.link.siteFlags := siteFlags_barWork s s
    exact (airStable_siteFlags s).keeps_airFrame hpublished
  · have hair : (airFrame s).link.siteFlags = s.link.siteFlags := (airStable_siteFlags s).keeps_airFrame rfl
    simp [claimsAndAir, siteFlags_barWork, hair]

/-- R172: a site flag that is set stays set through a frame start. -/
theorem siteFlagSet_frameWork_of (b : Bool) {s : State} {f : SiteFlag} (h : siteFlagSet s f) :
    siteFlagSet (frameWork b s) f := by
  have hdue : siteFlagSet (dueStep (joinRuns (newFrameBus s))) f := by
    have hruns : siteFlagSet (joinRuns (newFrameBus s)) f := by simpa [siteFlagSet] using h
    unfold dueStep
    split
    · dsimp only
      split
      · exact siteFlagSet_raiseSite_of _ hruns
      · exact hruns
    · exact hruns
  simpa [siteFlagSet, frameWork, siteFlags_claimsAndAir] using hdue

/-! ### The guard meter at the close (R150, R151, R191) -/

/-- R191: the guard meter is started where guard_on is set. -/
def meterStarted (s : State) : State := if s.setup.guardOn then startGuard s else s

/-- R150: starting the guard meter changes the meter and its flag only. -/
theorem meterStarted_kept (s : State) : meterStarted s = { s with
    guard := (meterStarted s).guard, link := (meterStarted s).link } := by
  unfold meterStarted
  split
  · apply State.eq_of_blocks <;> simp
  · rfl

theorem meterStarted_on {s : State} (hset : s.setup.guardOn = true) (hoff : s.guard.on = false) :
    (meterStarted s).guard = { s.guard with on := true, phase := .idle, since := 0, beginDue := true }
    ∧ siteFlagSet (meterStarted s) .guard := by
  rw [meterStarted, if_pos hset, startGuard_of_off hoff]
  exact ⟨rfl, siteFlagSet_raiseSite .guard _⟩

theorem meterStarted_off {s : State} (hset : s.setup.guardOn = false) : meterStarted s = s :=
  if_neg (by rw [hset]; exact Bool.false_ne_true)

theorem siteFlagSet_meterStarted_of {s : State} {f : SiteFlag} (h : siteFlagSet s f) : siteFlagSet (meterStarted s) f := by
  unfold meterStarted startGuard
  split
  · split
    · exact h
    · exact siteFlagSet_raiseSite_of .guard h
  · exact h

/-- R151: the frame start after guard-on begins the first cycle. -/
theorem frameWork_guard_begins (b : Bool) {s : State} (hon : s.guard.on = true) (hdue : s.guard.beginDue = true) :
    (frameWork b s).guard = (beginCycle s).guard := by
  have hguard : (dueStep (joinRuns (newFrameBus s))).guard = s.guard := by simp
  rw [frameWork_guard, runsCounted, guardFrameStart_begins (by rw [hguard]; exact hon) (.inl (by rw [hguard]; exact hdue))]
  simp [beginCycle]

/-! ### The entry to HUNT at the close (R15, R19, R20, R86, R191) -/

/-- R191: the setup store, the pool and the bus engine at the close. -/
def recordClosed (s : State) : State := closeBus (closePool (closeRecord s))

/-- R191: the close up to the guard meter: the entry to HUNT, and the settle begun. -/
def huntAtClose (s : State) : State := putSeen .settling 0 (enterHunt (recordClosed s))

/-- R191: the close ends in a frame start with the guard meter started. -/
theorem closeWork_eq (s : State) : closeWork s = frameWork false (meterStarted (huntAtClose s)) := by
  unfold closeWork meterStarted huntAtClose recordClosed
  rfl

theorem huntAtClose_kept (s : State) : (huntAtClose s).setup = (closeRecord s).setup
    ∧ (huntAtClose s).pool = (closePool (closeRecord s)).pool ∧ (huntAtClose s).guard = s.guard := by
  simp [huntAtClose, recordClosed, closeBus, closeRecord]

/-- R15: the entry to HUNT leaves the key samples. -/
theorem enterHunt_samples (s : State) :
    (enterHunt s).bus.sampNow = s.bus.sampNow ∧ (enterHunt s).bus.sampPrev = s.bus.sampPrev := by
  simp [enterHunt, huntBus, loseSync, airOff, endIdent]

/-- R15: the key samples are negated at the close. -/
theorem huntAtClose_samples (s : State) :
    (huntAtClose s).bus.sampNow = .negated ∧ (huntAtClose s).bus.sampPrev = .negated := by
  simp [huntAtClose, recordClosed, enterHunt_samples, closeBus]

theorem siteFlagSet_putSeen_of (x : ClampSeen) (n : Nat) {s : State} {f : SiteFlag} (h : siteFlagSet s f) :
    siteFlagSet (putSeen x n s) f := by
  unfold putSeen
  dsimp only
  split
  · exact h
  · exact siteFlagSet_raiseSite_of .clampChange h

theorem siteFlagSet_huntAtClose (s : State) : siteFlagSet (huntAtClose s) .syncChange := by
  unfold huntAtClose
  exact siteFlagSet_putSeen_of .settling 0 (siteFlagSet_raiseSite .syncChange _)

/-- R191, R19, R20, R139: sync state, join state, air sequencer and settle before the frame start of the close. -/
theorem huntAtClose_entered (s : State) :
    (huntAtClose s).sync = { s.sync with
      state := .hunt, timingRunning := true, count := none, timingStation := none, candidates := [], huntRun := 0
      missRun := 0, holdoverRun := 0, readbackRun := 0 }
    ∧ (s.member.join = .unset → (huntAtClose s).member.join = .listen) ∧ airQuiet (huntAtClose s).air
    ∧ (huntAtClose s).clamp.seen = .settling ∧ (huntAtClose s).clamp.settleRun = 0 := by
  have hentered := huntEntered_enterHunt (recordClosed s)
  unfold huntEntered at hentered
  obtain ⟨hsync, hoff, -, -, hjoin, -⟩ := hentered
  obtain ⟨hseen, hrun, -, -⟩ := putSeen_spec .settling 0 (enterHunt (recordClosed s))
  have hmember : (recordClosed s).member = s.member := rfl
  have hbefore : (recordClosed s).sync = { s.sync with timingRunning := true, count := none } := rfl
  rw [hmember] at hjoin
  rw [hbefore] at hsync
  unfold huntAtClose
  refine ⟨?_, fun hunset => ?_, ?_, hseen, hrun⟩
  · simp [hsync]
  · simp [hjoin, hunset]
  · simpa using airQuiet_of_airIsOff hoff

/-- R86: at the close each enabled desk has its quota, and every queue is emptied. -/
theorem closePool_desk (s : State) (d : Desk) : (closePool s).pool.quota.get d =
      (if deskEnabled s d then some (s.setup.quota.get d) else none)
    ∧ getQueue (closePool s) d = (getQueue s d).flushed := by
  simp [closePool, getQueue]

/-! ### The frame start at the close (R19, R191) -/

/-- R19: the frame start at the close keeps the timing, the membership and the pool of a quiet station in HUNT, which drives
no slot and stays OFF the air. -/
theorem frameWork_at_close {s : State} (hquiet : airQuiet s.air) (hhunt : s.sync.state = .hunt) :
    let t := frameWork false (meterStarted s)
    t.setup = s.setup ∧ t.sync = s.sync ∧ t.pool = s.pool ∧ t.member.join = s.member.join
    ∧ t.bus.sampNow = s.bus.sampNow ∧ t.bus.sampPrev = s.bus.sampPrev ∧ t.bus.ownSlotDriven = false
    ∧ t.air.state = .off ∧ t.clamp.seen = s.clamp.seen ∧ t.clamp.settleRun = s.clamp.settleRun := by
  have hkept := meterStarted_kept s
  generalize meterStarted s = u at hkept
  rw [hkept]
  have hquiet' : airQuiet { s with guard := u.guard, link := u.link }.air := hquiet
  obtain ⟨hair, hpool⟩ := frameWork_quiet hquiet'
  obtain ⟨-, -, -, -, hdriven, -, hnow, hprev, -, -⟩ := frameWork_bus_spec false { s with guard := u.guard, link := u.link }
  have hundriven : drivesSlot { s with guard := u.guard, link := u.link } = false := by
    simp [drivesSlot, syncActive, hhunt]
  exact ⟨by simp, by simp, hpool, frameWork_join _ _, hnow, hprev, hdriven.trans hundriven, hair,
    by rw [frameWork_clamp], by rw [frameWork_clamp]⟩

/-- R150, R151: with guard_on the frame start at the close begins the first cycle; without it the guard meter stays. -/
theorem frameWork_at_close_guard {s : State} (hoff : s.guard.on = false) :
    let t := frameWork false (meterStarted s)
    (s.setup.guardOn = true → t.guard.on = true ∧ t.guard.phase = .chargeRef ∧ siteFlagSet t .guard)
    ∧ (s.setup.guardOn = false → t.guard = s.guard) := by
  refine ⟨fun hset => ?_, fun hset => ?_⟩
  · obtain ⟨hmeter, hflag⟩ := meterStarted_on hset hoff
    rw [frameWork_guard_begins false (by rw [hmeter]) (by rw [hmeter])]
    exact ⟨by rw [beginCycle, setGuard_guard, hmeter], rfl, siteFlagSet_frameWork_of false hflag⟩
  · obtain ⟨hkept, -⟩ := runsCounted_guard s
    rw [meterStarted_off hset, frameWork_guard, hkept hoff]

/-- Settles O12: a close that passes its checks is the entry to HUNT (`huntAtClose`) and a frame start taken in it, OFF the
air (`frameWork_at_close`), which begins the first guard cycle where guard_on is set (`frameWork_at_close_guard`). -/
theorem closeSetupStartsTheStation : Obligations.CloseSetupStartsTheStation := by
  intro s n w hup hopen hsize hquotas hfits hheat hoff
  have hpass : closeFailure s = none := by
    rw [closeFailure_sums hsize (shortQuota_none hquotas), if_neg (Nat.not_lt.mpr hfits), if_neg (Nat.not_le.mpr hheat)]
  have hexec := exec_closeSetup hup (closeRequest_passed hopen hpass) w
  obtain ⟨hsetup, hpool, hguard⟩ := huntAtClose_kept s
  obtain ⟨hsync, hjoin, hquiet, hseen, hsettle⟩ := huntAtClose_entered s
  obtain ⟨hnow, hprev⟩ := huntAtClose_samples s
  have hchange := siteFlagSet_frameWork_of false (siteFlagSet_meterStarted_of (siteFlagSet_huntAtClose s))
  have hfree : (closePool (closeRecord s)).pool.free = n - s.pool.clip.length := by simp [closePool, closeRecord, hsize]
  have hdesk := closePool_desk (closeRecord s)
  rw [closeWork_eq] at hexec
  generalize huntAtClose s = u at *
  obtain ⟨hsetup', hsync', hpool', hjoin', hnow', hprev', hdriven, hair, hseen', hsettle'⟩ :=
    frameWork_at_close hquiet (by rw [hsync])
  obtain ⟨hmeterOn, hmeterOff⟩ := frameWork_at_close_guard (s := u) (by rw [hguard]; exact hoff)
  generalize frameWork false (meterStarted u) = t at *
  have hsetup := hsetup'.trans hsetup
  have hsync := hsync'.trans hsync
  have hpool := hpool'.trans hpool
  have hguardOn : u.setup.guardOn = s.setup.guardOn := by rw [← hsetup', hsetup]; rfl
  rw [hguardOn] at hmeterOn hmeterOff
  refine ⟨_, hexec, hsetup, (congrArg Pool.clip hpool :), (congrArg Pool.free hpool).trans hfree, fun d => ?_,
    congrArg Sync.state hsync, congrArg Sync.timingRunning hsync, congrArg Sync.count hsync, congrArg Sync.huntRun hsync,
    fun hunset => hjoin'.trans (hjoin hunset), hnow'.trans hnow, hprev'.trans hprev, hdriven, hair, hseen'.trans hseen,
    hsettle'.trans hsettle, hmeterOn, fun hset => (hmeterOff hset).trans hguard, hchange, rfl⟩
  obtain ⟨hquota, hqueue⟩ := hdesk d
  have hempty : getQueue (replied w s t 0 .ok []) d = (getQueue s d).flushed :=
    (congrArg (fun p => p.desks.get d) hpool).trans hqueue
  rw [hempty]
  exact ⟨(congrArg (fun p => p.quota.get d) hpool).trans hquota, rfl, rfl, rfl⟩

end Sys2Proof

namespace Sys2Proof
open Machine

/-! ## A step on a queue that holds a command (logs 1, 4) -/

/-- Settles O1: of the two branches of `step`, a queue with a front takes the one that executes it; the empty queue's is the
reference cycle of O2. -/
theorem stepRunsFrontCommand : Obligations.StepRunsFrontCommand := by
  intro c rest s hfront
  rw [step, hfront]

end Sys2Proof
